-- ==== Sys2Proof/Word.lean ====
section
/-! DEFINITION. The byte and word types of the hub's links: characters' data bits, frame bytes, store page bytes. -/

namespace Sys2Proof

/-- One byte of a frame, a page or a line character's data bits. -/
abbrev Byte := BitVec 8

/-- A 16-bit number as the masters, the tables and the store send it (high byte first). -/
abbrev Half := BitVec 16

end Sys2Proof
end

