-- ==== Sys2Proof/Syntax.lean ====
section
/-! DEFINITION. The commands of the hub: one constructor of `Instr` for each row of spec/opcode_table.json, with the
operands the row's rule gives it, and the types of those operands. -/

namespace Sys2Proof

/-- The two table line segments (chapter 1). In fault subjects A is 0 and B is 1. -/
inductive SegId where
  | a | b
  deriving DecidableEq, Repr

/-- The two master ports (chapter 11). -/
inductive PortId where
  | collector | office
  deriving DecidableEq, Repr

/-- A slot, counted from 0: slot number s of the manual is index s - 1. -/
abbrev SlotIx := Fin 16

/-- R1: one character as the receiver takes it: eight data bits, the address bit, the parity bit, the stop bit. -/
structure LineChar where
  data    : Byte
  address : Bool
  parity  : Bool
  stop    : Bool
  deriving DecidableEq, Repr

/-- R11: the three line-fault inputs of a transceiver, kinds 1, 2 and 3. -/
inductive LineFaultKind where
  | biasLost | shorted | grounded
  deriving DecidableEq, Repr

/-- R37: the four timers of a due record. -/
inductive DueTimer where
  | fault | meter | check | probe
  deriving DecidableEq, Repr

/-- R5, R4: what the echo comparator or the receiver found: the character taken (none: no echo) in the character
time of the frame's character at `position`, or a start bit while the driver is held for the guard. -/
inductive CollisionCause where
  | echo (position : Nat) (taken : Option LineChar)
  | guardStart
  deriving DecidableEq, Repr

/-- R20: the game-states, in the order of their values 0 to 3. -/
inductive GameState where
  | attract | game | service | halt
  deriving DecidableEq, Repr

/-- R20: the status of an answer, values 0 to 2. -/
inductive AnswerStatus where
  | accepted | refusedInGame | refusedInService
  deriving DecidableEq, Repr

/-- R79: the views of Read Audits, values 0 to 3. -/
inductive AuditView where
  | current | closed | lifetime | bookState
  deriving DecidableEq, Repr

/-- R160: the watch modes Open, Rules and Closed, values 0 to 2. -/
inductive WatchMode where
  | openAll | rules | closed
  deriving DecidableEq, Repr

/-- R160: the fields of a watch rule in use. A class of none is Any; a subject of none is compare off. -/
structure WatchRule where
  slotValue : BitVec 5
  slotMask  : BitVec 5
  cls       : Option Byte
  codeValue : Byte
  codeMask  : Byte
  subject   : Option Byte
  deriving DecidableEq, Repr

/-- R152: the key of a fault record. A subject of none is a value of its own. -/
structure FaultKey where
  cls     : Byte
  code    : Byte
  subject : Option Byte
  deriving DecidableEq, Repr

/-- R138: Lmin or Lmax: it follows the regulated item's range, or is a number. -/
inductive LimitArg where
  | follow
  | value (v : Half)
  deriving DecidableEq, Repr

/-- R17: the fields Set Line Parameters may carry; an absent field is none. -/
structure LineParamsArg where
  speed     : Option (BitVec 3)
  guard     : Option Byte
  window    : Option Byte
  threshold : Option Byte
  faultInt  : Option Byte
  meterInt  : Option Half
  checkInt  : Option Half
  probeInt  : Option Byte
  deriving DecidableEq, Repr

/-- R140: the parameters Set Regulation may carry; an absent one is none. -/
structure RegulationArg where
  enabled  : Option Bool
  target   : Option Half
  deadband : Option Half
  window   : Option Half
  step     : Option Half
  lmin     : Option LimitArg
  lmax     : Option LimitArg
  priority : Option Byte
  deriving DecidableEq, Repr

/-- R40: the fields of Write Roster Entry after the slot. -/
structure RosterArg where
  seg     : SegId
  addr    : Byte
  regItem : Byte
  coins   : Vector Half 4
  note    : Half
  deriving DecidableEq, Repr

/-- R161: what Set Watch Rules carries. A rule of none is written as unused. -/
structure WatchArg where
  mode     : Option WatchMode
  presence : Option Bool
  rules    : List (Byte × Option WatchRule)
  deriving DecidableEq, Repr

/-- R186: the requests of the masters, kinds 1 to 23, with the fields of their bodies (chapter 11). -/
inductive Request where
  | readStatus
  | setClock (value : BitVec 32)
  | restartHub
  | readRoster (slot : Byte)
  | writeRosterEntry (slot : Byte) (entry : RosterArg)
  | removeTable (slot : Byte)
  | setRegulation (slot : Byte) (arg : RegulationArg)
  | setLineParameters (seg : SegId) (arg : LineParamsArg)
  | haltSegment (seg : SegId)
  | resumeSegment (seg : SegId)
  | readAudits (slot : Byte) (view : AuditView)
  | closePeriod (slot : Byte)
  | readSettings (slot : Byte)
  | readDraft (slot : Byte) (reserve : Bool)
  | setItems (slot : Byte) (pairs : List (Byte × Half))
  | submitDraft (slot : Byte) (priority : Byte)
  | discardDraft (slot : Byte)
  | withdrawDelivery (slot : Byte)
  | readFaults (roster : Byte)
  | acknowledgeFaults (roster : Byte) (key : Option FaultKey)
  | setWatchRules (arg : WatchArg)
  | takeAlerts (count : Byte)
  | acknowledgeStoreFault
  deriving DecidableEq, Repr

/-- The commands: one constructor for each row of spec/opcode_table.json, in the table's order. A request row names
the port that carries the request (R186) and its fields. -/
inductive Instr where
  /-- POWER_ON (R175): the node and speed strap pins as sampled. -/
  | powerOn (node : BitVec 6) (speed : BitVec 2)
  /-- STORE_PAGE_READ (R176): the 256 bytes that the read of the page returned. -/
  | storePageRead (bytes : List Byte)
  /-- PAGE_READ_TIMEOUT (R176). -/
  | pageReadTimeout
  /-- CLOCK_TICK (R81). -/
  | clockTick
  /-- DUE_TIMER_RUN (R37): which timer of which slot's due record. -/
  | dueTimerRun (slot : SlotIx) (timer : DueTimer)
  /-- TRANSMIT_FRAME (R4). -/
  | transmitFrame (seg : SegId)
  /-- GUARD_END (R4). -/
  | guardEnd (seg : SegId)
  /-- COLLISION (R5). -/
  | collision (seg : SegId) (cause : CollisionCause)
  /-- ANSWER_WINDOW_EXPIRY (R6). -/
  | answerWindowExpiry (seg : SegId)
  /-- ANSWER_COMPLETE (R6): the game-state, the status and the rest of the body of the well-formed answer. -/
  | answerComplete (seg : SegId) (gs : GameState) (status : AnswerStatus) (rest : List Byte)
  /-- COMPLETION_DEADLINE (R6). -/
  | completionDeadline (seg : SegId)
  /-- QUIET_WAIT_END (R7). -/
  | quietWaitEnd (seg : SegId)
  /-- HARD_LIMIT (R7). -/
  | hardLimit (seg : SegId)
  /-- STRAY_CHARACTER (R7): a character taken outside an exchange. -/
  | strayCharacter (seg : SegId) (char : LineChar)
  /-- LINE_FAULT_ASSERTED (R11). -/
  | lineFaultAsserted (seg : SegId) (kind : LineFaultKind)
  /-- LINE_FAULT_DEASSERTED (R11). -/
  | lineFaultDeasserted (seg : SegId) (kind : LineFaultKind)
  /-- DRIVER_STUCK (R12). -/
  | driverStuck (seg : SegId)
  /-- START_IDLE_ELAPSED (R13). -/
  | startIdleElapsed (seg : SegId)
  /-- CLOSING_TIMEOUT (R87). -/
  | closingTimeout (slot : SlotIx)
  /-- STORE_WRITE_VERIFY (R170): the 256 bytes read back. -/
  | storeWriteVerify (readback : List Byte)
  /-- STORE_TRANSFER_TIMEOUT (R170). -/
  | storeTransferTimeout
  /-- REQUEST_FRAME (R182): a complete frame, from its length byte to its check. -/
  | requestFrame (port : PortId) (frame : List Byte)
  /-- FRAME_BYTE_TIMEOUT (R181). -/
  | frameByteTimeout (port : PortId)
  /-- ANSWER_SENT (R184). -/
  | answerSent (port : PortId)
  /-- COLLECTOR_UNPLUGGED (R185). -/
  | collectorUnplugged
  /-- COLLECTOR_PLUGGED (R185). -/
  | collectorPlugged
  /-- READ_STATUS (R188). -/
  | readStatus (port : PortId)
  /-- SET_CLOCK (R82). -/
  | setClock (port : PortId) (value : BitVec 32)
  /-- RESTART_HUB (R179). -/
  | restartHub (port : PortId)
  /-- READ_ROSTER (R43): a slot of 0 is All. -/
  | readRoster (port : PortId) (slot : Byte)
  /-- WRITE_ROSTER_ENTRY (R40). -/
  | writeRosterEntry (port : PortId) (slot : Byte) (entry : RosterArg)
  /-- REMOVE_TABLE (R42). -/
  | removeTable (port : PortId) (slot : Byte)
  /-- SET_REGULATION (R140). -/
  | setRegulation (port : PortId) (slot : Byte) (arg : RegulationArg)
  /-- SET_LINE_PARAMETERS (R17). -/
  | setLineParameters (port : PortId) (seg : SegId) (arg : LineParamsArg)
  /-- HALT_SEGMENT (R15). -/
  | haltSegment (port : PortId) (seg : SegId)
  /-- RESUME_SEGMENT (R16). -/
  | resumeSegment (port : PortId) (seg : SegId)
  /-- READ_AUDITS (R79). -/
  | readAudits (port : PortId) (slot : Byte) (view : AuditView)
  /-- CLOSE_PERIOD (R84): a slot of 0 is All. -/
  | closePeriod (port : PortId) (slot : Byte)
  /-- READ_SETTINGS (R104). -/
  | readSettings (port : PortId) (slot : Byte)
  /-- READ_DRAFT (R105). -/
  | readDraft (port : PortId) (slot : Byte) (reserve : Bool)
  /-- SET_ITEMS (R106). -/
  | setItems (port : PortId) (slot : Byte) (pairs : List (Byte × Half))
  /-- SUBMIT_DRAFT (R108). -/
  | submitDraft (port : PortId) (slot : Byte) (priority : Byte)
  /-- DISCARD_DRAFT (R109). -/
  | discardDraft (port : PortId) (slot : Byte)
  /-- WITHDRAW_DELIVERY (R133). -/
  | withdrawDelivery (port : PortId) (slot : Byte)
  /-- READ_FAULTS (R158). -/
  | readFaults (port : PortId) (roster : Byte)
  /-- ACKNOWLEDGE_FAULTS (R159). -/
  | acknowledgeFaults (port : PortId) (roster : Byte) (key : Option FaultKey)
  /-- SET_WATCH_RULES (R161). -/
  | setWatchRules (port : PortId) (arg : WatchArg)
  /-- TAKE_ALERTS (R165). -/
  | takeAlerts (port : PortId) (count : Byte)
  /-- ACKNOWLEDGE_STORE_FAULT (R174). -/
  | acknowledgeStoreFault (port : PortId)
  /-- ANSWER_CHARACTER_TAKEN (R6): a character taken during an exchange. -/
  | answerCharacterTaken (seg : SegId) (char : LineChar)
  /-- PORT_BYTE_RECEIVED (R181): a byte on a port's receive line, with a framing error or not. -/
  | portByteReceived (port : PortId) (byte : Byte) (framingError : Bool)
  deriving DecidableEq, Repr

end Sys2Proof
end

