-- ==== Sys2Proof/Decode.lean ====
section
/-! DEFINITION. The command that a word spells. spec/opcode_table.json gives no row any bits: a command is an event
at the part's pins or a request on a port, and no word spells one. The frames of chapter 11, which do spell the
requests, are read in Machine/Frames.lean. -/

namespace Sys2Proof

/-- The command that `w` spells in `nbits` bits: no row of the table has bits, so none. -/
def decodeTableWord (_nbits _w : Nat) : Option Instr := none

end Sys2Proof
end

