-- ==== Sys2Proof/Config.lean ====
section
/-! DEFINITION. The fixed numbers of the part, each with the rule that gives it, and the free values: constants
without a body for what the manual leaves open. -/

namespace Sys2Proof.Config

/-- R164: the alert queue holds up to 32 alerts. -/
abbrev alertCapacity : Nat := 32

/-- R152: a fault roster holds at most 12 records. -/
abbrev rosterCapacity : Nat := 12

/-- R169: the write queue holds at most 8 waiting entries. -/
abbrev writeCapacity : Nat := 8

/-- R37: a due-record timer holds at its ceiling of 3600 s. -/
abbrev timerCeiling : Nat := 3600

/-- R36: an Isolated table is probed every 30 s. -/
abbrev isolatedProbeInterval : Nat := 30

/-- R87: the closing timeout is 2 s. -/
abbrev closingTimeout : Nat := 2

/-- R60: totals saturate at 4,294,967,295. -/
abbrev totalCeiling : Nat := 4294967295

/-- R62, R5, R152: counters of 16 bits saturate at 65535. -/
abbrev counterCeiling : Nat := 65535

/-- R68: the routine and closing limits, and the catch-up limits, of count meters and of time meters. -/
abbrev countLimit : Nat := 250
abbrev timeLimit : Nat := 7200
abbrev catchUpCountLimit : Nat := 4000
abbrev catchUpTimeLimit : Nat := 115200

/-- FREE VALUE (log 13). A byte or number stored on a page that passes its check, but outside the range of its
field: the manual does not say what the owner takes for it. The arguments are the page, the offset in the body
and the number found; the model keeps only the field's range (`Pages.ranged`). -/
opaque storedOutOfRange : Nat → Nat → Nat → Nat

/-- FREE VALUE (log 12). The byte that Read Settings sends for the next starting item when no readback is
pending: the layout of chapter 11 gives it a place in every answer, and no rule gives it a value. -/
opaque noReadbackItem : Byte

end Sys2Proof.Config
end

