-- ==== Sys2Proof/Machine/State.lean ====
section
/-! DEFINITION. The state of the hub: every piece of state the spec gives it, as plain data, block by block, and its
value right after power is applied. -/

namespace Sys2Proof.Machine

/-! ## Outcomes -/

/-- Why a step stops with a fault. The manual gives the block no stop: it has no constructor. -/
inductive Fault where
  deriving DecidableEq, Repr

/-- Why a step has no meaning. -/
inductive Refusal where
  /-- The command has no meaning yet; its arm of `exec` would raise it (safe). No arm does. -/
  | notModelled (mnemonic : String)
  deriving DecidableEq, Repr

/-! ## Segment Controllers and Exchange Schedulers (chapters 1 and 2) -/

/-- R13: the four states of a segment. -/
inductive SegState where
  | halted | starting | running | faulted
  deriving DecidableEq, Repr

/-- R17: the line parameters of a segment. `speed` is the code written; the code in effect is `Segment.lineSpeed`. -/
structure LineParams where
  speed     : BitVec 2
  guard     : Nat
  window    : Nat
  threshold : Nat
  faultInt  : Nat
  meterInt  : Nat
  checkInt  : Nat
  probeInt  : Nat
  deriving DecidableEq, Repr

/-- R11: the levels of the three line-fault inputs (set: asserted). -/
structure LineInputs where
  bias   : Bool
  short  : Bool
  ground : Bool
  deriving DecidableEq, Repr

/-- R19: the seven frames the hub sends, with their bodies. -/
inductive HubFrame where
  | presenceProbe
  | identify
  | meterPoll
  | faultPoll (resend : Bool)
  | itemFrame (items : List (Nat × Nat))
  | checkQuery (q : BitVec 4)
  | readbackRequest (start : Nat)
  deriving DecidableEq, Repr

/-- R8, R19: the block that asked for a frame. -/
inductive Asker where
  | meterFolding | faultAndAlert | delivery | settings | roster | collection
  deriving DecidableEq, Repr

/-- How far an exchange in flight has come (R4 to R7). -/
inductive Phase where
  /-- Handed over by the chooser; the line has not been idle for 2 character times yet (R4). -/
  | waiting
  /-- The driver is enabled: the frame's characters and the turnaround guard (R4). -/
  | sending
  /-- The guard has ended and no character of the answer has been taken (R6). -/
  | window
  /-- Characters of the answer have been taken (R6). -/
  | answer
  /-- A Garbled condition has been found: the quiet wait (R7). -/
  | garbled
  deriving DecidableEq, Repr

/-- R4: an exchange in flight. `received` are the data bits of the answer's characters so far. -/
structure Exchange where
  slot     : SlotIx
  address  : Nat
  frame    : HubFrame
  asker    : Asker
  phase    : Phase
  received : List Byte
  deriving DecidableEq, Repr

/-- R122: the phases of a delivery. -/
inductive DeliveryPhase where
  | items | check
  deriving DecidableEq, Repr

/-- R122, R124: the delivery in flight on a segment. The next item to send is number 8 × `acked` of `changes`;
`question` is the q of its Check Query once that has been handed over. -/
structure DeliveryRecord where
  slot     : SlotIx
  changes  : List (Nat × Nat)
  acked    : Nat
  phase    : DeliveryPhase
  question : Option (BitVec 4)
  deriving DecidableEq, Repr

/-- One segment: its Segment Controller, its Exchange Scheduler's pointer and its delivery record. -/
structure Segment where
  state       : SegState
  haltPending : Bool
  /-- R15: the ports whose Halt Segment waits for the exchange in flight. -/
  haltWaiters : List PortId
  params      : LineParams
  /-- R1: the speed code in effect, taken from `params.speed` on entering Starting. -/
  lineSpeed   : BitVec 2
  garble      : Nat
  noisy       : Bool
  collisions  : Nat
  inputs      : LineInputs
  driverOn    : Bool
  exchange    : Option Exchange
  pointer     : Option SlotIx
  delivery    : Option DeliveryRecord
  deriving DecidableEq, Repr

/-! ## Stamps and faults (chapters 5 and 9) -/

/-- R81: a stamp: the clock and the Unset mark at the moment it was taken. -/
structure Stamp where
  clock : BitVec 32
  unset : Bool
  deriving DecidableEq, Repr

/-- R152: who a fault comes from. -/
inductive Origin where
  | table | hub
  deriving DecidableEq, Repr

/-- R152: whether the condition is present. -/
inductive FaultState where
  | opened | gone
  deriving DecidableEq, Repr

/-- R152: a fault record. -/
structure FaultRecord where
  key         : FaultKey
  origin      : Origin
  state       : FaultState
  acked       : Bool
  firstSeen   : Stamp
  lastSeen    : Stamp
  occurrences : Nat
  deriving DecidableEq, Repr

/-- R151, R152: a fault roster: records in order of first entry, and the recency order of their keys, oldest first. -/
structure FaultRoster where
  records    : List FaultRecord
  recency    : List FaultKey
  overflowed : Bool
  deriving DecidableEq, Repr

/-- R160: the watch table. A rule of none is unused. -/
structure WatchTable where
  mode     : WatchMode
  rules    : Vector (Option WatchRule) 8
  presence : Bool
  deriving DecidableEq, Repr

/-- R162, R163: the kinds of alerts. -/
inductive AlertKind where
  | fault | presence | diverged | store
  deriving DecidableEq, Repr

/-- R162, R163: an alert. -/
structure Alert where
  kind    : AlertKind
  slot    : Nat
  cls     : Option Byte
  code    : Byte
  subject : Option Byte
  hit     : Nat
  stamp   : Stamp
  deriving DecidableEq, Repr

/-! ## A slot (chapters 3 to 8) -/

/-- R39, R44: the table states, in the order of R39's list. -/
inductive TableState where
  | unlisted | absent | joining | active | caution | isolated
  deriving DecidableEq, Repr

/-- R23: an identity record. The item count N is the length of `ranges`. -/
structure Identity where
  model    : Nat
  revision : Nat
  meters   : List (Fin 24)
  ranges   : List (Nat × Nat)
  deriving DecidableEq, Repr

/-- R51 to R55: the join step due; the readback step holds the next starting item and the values read. -/
inductive JoinStep where
  | identify
  | readback (next : Nat) (held : List Nat)
  | catchUp
  deriving DecidableEq, Repr

/-- R35 to R37: a due record. The timers count seconds. -/
structure DueRecord where
  fault   : Nat
  meter   : Nat
  check   : Nat
  probe   : Nat
  more    : Bool
  resend  : Bool
  closing : Bool
  deriving DecidableEq, Repr

/-- R60: a total with its saturated mark. -/
structure Total where
  val : Nat
  sat : Bool
  deriving DecidableEq, Repr

/-- R60 to R62: an audit book. -/
structure Book where
  current      : Vector Total 24
  closed       : Vector Total 24
  lifetime     : Vector Total 24
  baselines    : Vector (Option Half) 24
  epoch        : Option Byte
  paid         : Nat
  award        : Nat
  discont      : Nat
  period       : Half
  closeStamp   : Option Stamp
  lostCurrent  : Bool
  lostClosed   : Bool
  modelChanged : Bool
  deriving DecidableEq, Repr

/-- R75 to R78: a figure that is a quotient: its value, the no-data mark, the capped mark (of the replay
percentage) and the source-saturated mark. -/
structure Quotient where
  val       : Nat
  noData    : Bool
  capped    : Bool
  sourceSat : Bool
  deriving DecidableEq, Repr

/-- R76 to R78: the derived figures of one period. -/
structure Figures where
  paid          : Nat
  awards        : Nat
  awardsCapped  : Bool
  percent       : Quotient
  ballTime      : Quotient
  gameTime      : Quotient
  takings       : Nat
  takingsSat    : Bool
  takingsSource : Bool
  deriving DecidableEq, Repr

/-- R88, R90: what a close keeps from its copy for its answer. -/
structure ClosedFigures where
  number       : Half
  stamp        : Stamp
  totals       : Vector Total 24
  figures      : Figures
  lost         : Bool
  modelChanged : Bool
  deriving DecidableEq, Repr

/-- R83: a close record. A port of none: the request was dropped, and the answer is discarded (R93). `ofAll`: the
close belongs to the Close All of that port. -/
inductive CloseRecord where
  | idle
  | polling (port : Option PortId) (ofAll : Bool) (timer : Nat)
  | storing (port : Option PortId) (ofAll : Bool) (final : Bool) (kept : ClosedFigures)
  deriving DecidableEq, Repr

/-- R99: the draft states. -/
inductive DraftState where
  | clean | edited | queued | delivering
  deriving DecidableEq, Repr

/-- R99: a draft. -/
structure Draft where
  values    : List Nat
  touched   : List Bool
  state     : DraftState
  baseMoved : Bool
  deriving DecidableEq, Repr

/-- R113: a pending local-change readback: the next starting item and the values read so far. -/
structure Readback where
  next : Nat
  held : List Nat
  deriving DecidableEq, Repr

/-- R138: Lmin or Lmax. -/
inductive Limit where
  | follow
  | value (v : Nat)
  deriving DecidableEq, Repr

/-- R138: the regulation parameters of a slot. -/
structure RegParams where
  enabled  : Bool
  target   : Nat
  deadband : Nat
  window   : Nat
  step     : Nat
  lmin     : Limit
  lmax     : Limit
  priority : Nat
  deriving DecidableEq, Repr

/-- One slot: its roster entry, join record, due record, book, close record, images, readback record, question
counter, confirmed mark, regulation and fault roster. -/
structure Slot where
  table      : TableState
  seg        : SegId
  addr       : Nat
  model      : Nat
  regItem    : Nat
  coins      : Vector Nat 4
  note       : Nat
  score      : Nat
  silent     : Nat
  goodProbes : Nat
  identity   : Option Identity
  game       : Option GameState
  localCheck : Bool
  join       : Option JoinStep
  due        : DueRecord
  book       : Book
  close      : CloseRecord
  active     : Option (List Nat)
  draft      : Draft
  readback   : Option Readback
  question   : BitVec 4
  confirmed  : Bool
  reg        : RegParams
  outcome    : Option Nat
  faults     : FaultRoster
  deriving DecidableEq, Repr

/-! ## Delivery queue (chapter 7) -/

/-- R118: who made a queue entry. -/
inductive EntryOrigin where
  | collector | office | regulation
  deriving DecidableEq, Repr

/-- R118: an entry of the delivery queue. `withdrawPort` is the port on which a pending Withdraw Delivery is
answered; none once that request was dropped (R136). -/
structure DeliveryEntry where
  slot         : SlotIx
  priority     : Nat
  origin       : EntryOrigin
  attempts     : Nat
  withdrawal   : Bool
  withdrawPort : Option PortId
  deriving DecidableEq, Repr

/-! ## Store Controller (chapter 10) -/

/-- R167: a page of the store. -/
abbrev PageIx := Fin 128

/-- R173: the store states, in the order the status pins number them (R175). -/
inductive StoreState where
  | loading | ready | degraded | stopped
  deriving DecidableEq, Repr

/-- R169: a waiting entry of the write queue, with the tags of the groups it belongs to (R172, log 10). -/
structure WriteEntry where
  page     : PageIx
  snapshot : List Byte
  tags     : List Nat
  deriving DecidableEq, Repr

/-- R170: the write in flight. `attempt` is 1 or 2. -/
structure WriteInFlight where
  page       : PageIx
  generation : Half
  snapshot   : List Byte
  tags       : List Nat
  attempt    : Nat
  deriving DecidableEq, Repr

/-- R168 to R172: what the Store Controller holds for one page. -/
structure PageMarks where
  generation   : Half
  bad          : Bool
  deferred     : Bool
  deferredTags : List Nat
  deriving DecidableEq, Repr

/-- R172: the record of a group not yet ended: the slot whose book and closed-period pages it is, its tag, its
failed mark, and whether a restart has abandoned its close, so that its result is discarded (R94, log 10). -/
structure GroupRecord where
  slot      : SlotIx
  tag       : Nat
  failed    : Bool
  abandoned : Bool
  deriving DecidableEq, Repr

/-- R176, R177: what the load found on page 0. -/
inductive PageZero where
  | unread | failed | noMark | held
  deriving DecidableEq, Repr

/-- R176: the load sequencer: the page being read, its failed reads so far, the pages whose three reads failed, in
rising order, and what page 0 gave. -/
structure LoadRecord where
  page   : PageIx
  tries  : Nat
  failed : List PageIx
  zero   : PageZero
  deriving DecidableEq, Repr

/-- The Store Controller. -/
structure Store where
  state        : StoreState
  formatted    : Bool
  nodeMismatch : Bool
  waiting      : List WriteEntry
  inFlight     : Option WriteInFlight
  pages        : Vector PageMarks 128
  groups       : List GroupRecord
  load         : LoadRecord
  deriving DecidableEq, Repr

/-! ## Master ports (chapter 11) -/

/-- R187: the status codes. -/
inductive Status where
  | done | nothingToDeliver | withdrawn | tooLate | busy | tableBusy | noReservation | refusedInState | baseMoved
  | notListed | notIdentified | segmentRunning | badRequest | frameRejected | storeStopped
  deriving DecidableEq, Repr

/-- R184: an answer handed to a transmitter: the request kind it answers, the status and the body. `own`: it is the
answer of the port's request in progress; otherwise it is a refusal of R182. -/
structure Answer where
  kind   : Byte
  status : Status
  body   : List Byte
  own    : Bool
  deriving DecidableEq, Repr

/-- R181: the receiver of a port; Assembling holds the receive buffer, from the length byte on. -/
inductive Receiver where
  | hunting
  | assembling (buffer : List Byte)
  deriving DecidableEq, Repr

/-- R92: the result of one slot of a Close All. -/
inductive CloseResult where
  | pending
  | tableBusy
  | closed (final : Bool) (stored : Bool) (number : Half) (takings : Nat) (takingsSat : Bool)
  deriving DecidableEq, Repr

/-- One master port, with the master's reservation register (R102) and its Close All record (R91). -/
structure Port where
  receiver     : Receiver
  /-- R183: the kind of the request in progress. -/
  request      : Option Byte
  transmitting : Option Answer
  waiting      : List Answer
  reservation  : Option SlotIx
  closeAll     : Option (List (SlotIx × CloseResult))
  /-- R185: the plug state (always set on the Office Port). -/
  plugged      : Bool
  deriving DecidableEq, Repr

/-! ## The hub -/

/-- The state of the hub. -/
structure State where
  clock      : BitVec 32
  clockUnset : Bool
  segA       : Segment
  segB       : Segment
  slots      : Vector Slot 16
  queue      : List DeliveryEntry
  hubFaults  : FaultRoster
  watch      : WatchTable
  alerts     : List Alert
  overrun    : Bool
  store      : Store
  collector  : Port
  office     : Port
  node       : BitVec 6
  speedStrap : BitVec 2
  /-- The commands that wait, first in, first out (the model's own field). -/
  pending    : List Instr
  deriving DecidableEq, Repr

/-! ## Values at power-on -/

/-- R151: an empty roster. -/
def FaultRoster.empty : FaultRoster := { records := [], recency := [], overflowed := false }

/-- R60: a total of 0. -/
def Total.zero : Total := { val := 0, sat := false }

/-- R63: the book of a slot just listed. -/
def Book.empty : Book :=
  { current := Vector.replicate 24 Total.zero, closed := Vector.replicate 24 Total.zero
    lifetime := Vector.replicate 24 Total.zero, baselines := Vector.replicate 24 none
    epoch := none, paid := 0, award := 0, discont := 0, period := 0, closeStamp := none
    lostCurrent := false, lostClosed := false, modelChanged := false }

/-- R99: the draft that is Clean over an Active image. -/
def Draft.cleanOver (active : Option (List Nat)) : Draft :=
  { values := active.getD [], touched := (active.getD []).map fun _ => false
    state := .clean, baseMoved := false }

/-- R138: the default regulation parameters. -/
def RegParams.default : RegParams :=
  { enabled := false, target := 120, deadband := 15, window := 200, step := 5
    lmin := .follow, lmax := .follow, priority := 6 }

/-- R38: the due record a listing gives: probe timer run, the others at 0, all marks clear. -/
def DueRecord.listed : DueRecord :=
  { fault := 0, meter := 0, check := 0, probe := Config.timerCeiling
    more := false, resend := false, closing := false }

/-- The due record of a slot that has none. -/
def DueRecord.discarded : DueRecord := { DueRecord.listed with probe := 0 }

/-- R39: an Unlisted slot, with nothing held for it. -/
def Slot.unlisted : Slot :=
  { table := .unlisted, seg := .a, addr := 1, model := 0, regItem := 0
    coins := Vector.replicate 4 0, note := 0, score := 0, silent := 0, goodProbes := 0
    identity := none, game := none, localCheck := false, join := none
    due := DueRecord.discarded, book := Book.empty, close := .idle, active := none
    draft := Draft.cleanOver none, readback := none, question := 0, confirmed := false
    reg := RegParams.default, outcome := none, faults := FaultRoster.empty }

/-- R17: the default line parameters with a speed code. -/
def LineParams.default (speed : BitVec 2) : LineParams :=
  { speed := speed, guard := 2, window := 12, threshold := 31, faultInt := 5
    meterInt := 30, checkInt := 300, probeInt := 10 }

/-- R18: a segment at power-on. -/
def Segment.powerOn (speed : BitVec 2) (inputs : LineInputs) : Segment :=
  { state := .halted, haltPending := false, haltWaiters := [], params := LineParams.default speed
    lineSpeed := speed, garble := 0, noisy := false, collisions := 0, inputs := inputs
    driverOn := false, exchange := none, pointer := none, delivery := none }

/-- R160: the default watch table. -/
def WatchTable.default : WatchTable :=
  { mode := .openAll, rules := Vector.replicate 8 none, presence := true }

/-- R163: the Power restored alert, stamped 0 with the Unset mark. -/
def Alert.powerRestored : Alert :=
  { kind := .presence, slot := 0, cls := none, code := 3, subject := none, hit := 0
    stamp := { clock := 0, unset := true } }

/-- R168 to R171: a page of which nothing is known. -/
def PageMarks.clear : PageMarks :=
  { generation := 0, bad := false, deferred := false, deferredTags := [] }

/-- R175: the Store Controller at power-on: Loading, page 0 being read. -/
def Store.powerOn : Store :=
  { state := .loading, formatted := false, nodeMismatch := false, waiting := [], inFlight := none
    pages := Vector.replicate 128 PageMarks.clear, groups := []
    load := { page := 0, tries := 0, failed := [], zero := .unread } }

/-- R181, R183, R185: a port at power-on. -/
def Port.powerOn (plugged : Bool) : Port :=
  { receiver := .hunting, request := none, transmitting := none, waiting := []
    reservation := none, closeAll := none, plugged := plugged }

/-- R175: the hub when power is applied, with its strap pins, its line-fault inputs and its queue of commands. -/
def State.powerOn (node : BitVec 6) (speed : BitVec 2) (inputsA inputsB : LineInputs)
    (pending : List Instr) : State :=
  { clock := 0, clockUnset := true
    segA := Segment.powerOn speed inputsA, segB := Segment.powerOn speed inputsB
    slots := Vector.replicate 16 Slot.unlisted, queue := [], hubFaults := FaultRoster.empty
    watch := WatchTable.default, alerts := [Alert.powerRestored], overrun := false
    store := Store.powerOn, collector := Port.powerOn false, office := Port.powerOn true
    node := node, speedStrap := speed, pending := pending }

/-- No line-fault input asserted. -/
def LineInputs.none : LineInputs := { bias := false, short := false, ground := false }

/-- The machine right after reset: power has been applied (R175 steps 1 and 2). DESIGN CHOICE (log 1): the strap
pins read 0 and no line-fault input is asserted. -/
def State.reset : State := State.powerOn 0 0 LineInputs.none LineInputs.none []

end Sys2Proof.Machine
end

