-- ==== Sys2Proof/Machine/Access.lean ====
section
/-! DEFINITION. Reading and writing the parts of the state: segments, slots, ports, the store. -/

namespace Sys2Proof.Machine

/-! ## Segments -/

/-- A segment's state. -/
def State.seg (s : State) : SegId → Segment
  | .a => s.segA
  | .b => s.segB

/-- Replaces a segment's state. -/
def State.setSeg (s : State) (g : SegId) (x : Segment) : State :=
  match g with
  | .a => { s with segA := x }
  | .b => { s with segB := x }

/-- Changes a segment's state. -/
def State.modSeg (s : State) (g : SegId) (f : Segment → Segment) : State := s.setSeg g (f (s.seg g))

/-- The number of a segment in fault subjects and in frames: 0 for A, 1 for B. -/
def segNumber : SegId → Nat
  | .a => 0
  | .b => 1

/-! ## Slots -/

/-- A slot's state. -/
def State.slot (s : State) (i : SlotIx) : Slot := s.slots[i.val]

/-- Replaces a slot's state. -/
def State.setSlot (s : State) (i : SlotIx) (x : Slot) : State := { s with slots := s.slots.set i.val x }

/-- Changes a slot's state. -/
def State.modSlot (s : State) (i : SlotIx) (f : Slot → Slot) : State := s.setSlot i (f (s.slot i))

/-- The number of a slot, 1 to 16. -/
def slotNumber (i : SlotIx) : Nat := i.val + 1

/-- The slot a slot field names: 1 to 16, none for any other value. -/
def slotOf (b : Byte) : Option SlotIx :=
  if h : 1 ≤ b.toNat ∧ b.toNat ≤ 16 then some ⟨b.toNat - 1, by omega⟩ else none

/-- The sixteen slots in rising slot number. -/
def allSlots : List SlotIx := List.finRange 16

/-- Listed (00_scope): the table state is other than Unlisted. -/
def Slot.listed (x : Slot) : Bool := x.table != .unlisted

/-- The table is Active or Caution. -/
def Slot.inService (x : Slot) : Bool := x.table == .active || x.table == .caution

/-- R29: the last reported game-state is Attract. While it is none, the table counts as not in Attract. -/
def Slot.inAttract (x : Slot) : Bool := x.game == some .attract

/-- The listed slots in rising slot number. -/
def State.listedSlots (s : State) : List SlotIx := allSlots.filter fun i => (s.slot i).listed

/-- The listed slots of a segment in rising slot number. -/
def State.slotsOf (s : State) (g : SegId) : List SlotIx :=
  allSlots.filter fun i => (s.slot i).listed && (s.slot i).seg == g

/-- Runs an operation on each of a list of slots, in order. -/
def State.forSlots (s : State) (is : List SlotIx) (f : SlotIx → State → State) : State :=
  is.foldl (fun t i => f i t) s

/-! ## Ports -/

/-- A port's state. -/
def State.port (s : State) : PortId → Port
  | .collector => s.collector
  | .office => s.office

/-- Replaces a port's state. -/
def State.setPort (s : State) (p : PortId) (x : Port) : State :=
  match p with
  | .collector => { s with collector := x }
  | .office => { s with office := x }

/-- Changes a port's state. -/
def State.modPort (s : State) (p : PortId) (f : Port → Port) : State := s.setPort p (f (s.port p))

/-- The other master's port. -/
def otherPort : PortId → PortId
  | .collector => .office
  | .office => .collector

/-! ## Store -/

/-- Changes the Store Controller's state. -/
def State.modStore (s : State) (f : Store → Store) : State := { s with store := f s.store }

/-- What the Store Controller holds for a page. -/
def Store.page (t : Store) (p : PageIx) : PageMarks := t.pages[p.val]

/-- Changes what the Store Controller holds for a page. -/
def Store.modPage (t : Store) (p : PageIx) (f : PageMarks → PageMarks) : Store :=
  { t with pages := t.pages.set p.val (f (t.page p)) }

/-- The 128 pages in rising page number. -/
def allPages : List PageIx := List.finRange 128

/-- R173: in Ready and Degraded writes are made. -/
def Store.writing (t : Store) : Bool := t.state == .ready || t.state == .degraded

/-! ## Clock -/

/-- R81: a stamp taken now. -/
def State.now (s : State) : Stamp := { clock := s.clock, unset := s.clockUnset }

/-- Adds to a counter that stops at a ceiling. -/
def saturate (ceiling n : Nat) : Nat := min n ceiling

/-- A value replaced by the nearest end of its range (00_scope, clamped). -/
def clamp (lo hi v : Nat) : Nat := max lo (min v hi)

end Sys2Proof.Machine
end

