-- ==== Sys2Proof/Machine/Figures.lean ====
section
/-! DEFINITION. The figure calculator of the Meter Folding Unit (R75 to R78): the derived figures of one period. -/

namespace Sys2Proof.Machine

/-- R75: a quotient rounded half up. -/
def roundHalfUp (a b : Nat) : Nat := (a + b / 2) / b

/-- R59: a meter as it enters the figures: as 0 when the identity record is known and does not list it. -/
def figureMeter (identity : Option Identity) (v : Vector Total 24) (k : Fin 24) : Total :=
  match identity with
  | none => v[k.val]
  | some r => if r.meters.contains k then v[k.val] else Total.zero

/-- R75: the saturated mark of any total that a figure uses. -/
def anySaturated (ts : List Total) : Bool := ts.any Total.sat

/-- R76: the replay percentage in tenths of a percent, before its limit. -/
def rawPercent (awards paid : Nat) : Nat := roundHalfUp (awards * 1000) paid

/-- R76: a replay percentage from awards and paid plays. -/
def replayPercent (awards paid : Nat) (sourceSat : Bool) : Quotient :=
  if paid = 0 then { val := 0, noData := true, capped := false, sourceSat := sourceSat }
  else { val := min (rawPercent awards paid) 9999, noData := false
         capped := decide (9999 < rawPercent awards paid), sourceSat := sourceSat }

/-- R77: an average in whole seconds. -/
def average (time count : Nat) (sourceSat : Bool) : Quotient :=
  if count = 0 then { val := 0, noData := true, capped := false, sourceSat := sourceSat }
  else { val := roundHalfUp time count, noData := false, capped := false, sourceSat := sourceSat }

/-- R78: the takings before their limit. -/
def rawTakings (m : Fin 24 → Nat) (coins : Vector Nat 4) (note : Nat) : Nat :=
  m 0 * coins[0] + m 1 * coins[1] + m 2 * coins[2] + m 3 * coins[3] + m 4 * note

/-- R75 to R78: the derived figures of a period's totals, with a slot's meter set, coin values and note value. -/
def figuresOf (identity : Option Identity) (coins : Vector Nat 4) (note : Nat) (v : Vector Total 24) : Figures :=
  let t := figureMeter identity v
  let n (k : Fin 24) : Nat := (t k).val
  let paid := n 7 - n 8
  let awards := n 9 + n 10 + n 11 + n 12
  let takings := rawTakings n coins note
  { paid := paid
    awards := min awards Config.totalCeiling
    awardsCapped := decide (Config.totalCeiling < awards)
    percent := replayPercent awards paid (anySaturated [t 7, t 8, t 9, t 10, t 11, t 12])
    ballTime := average (n 15) (n 14) (anySaturated [t 14, t 15])
    gameTime := average (n 16) (n 7) (anySaturated [t 7, t 16])
    takings := min takings Config.totalCeiling
    takingsSat := decide (Config.totalCeiling < takings)
    takingsSource := anySaturated [t 0, t 1, t 2, t 3, t 4] }

/-- R75: the derived figures of a slot for one period's totals. -/
def Slot.figures (x : Slot) (v : Vector Total 24) : Figures := figuresOf x.identity x.coins x.note v

end Sys2Proof.Machine
end

