-- ==== Sys2Proof/Machine/Bytes.lean ====
section
/-! DEFINITION. Multi-byte numbers (high byte first, chapter 11), sums and checks of frames and pages. -/

namespace Sys2Proof.Machine

/-- A number in one byte. -/
def be1 (n : Nat) : List Byte := [BitVec.ofNat 8 n]

/-- A number in two bytes, high byte first. -/
def be2 (n : Nat) : List Byte := [BitVec.ofNat 8 (n / 256), BitVec.ofNat 8 n]

/-- A number in four bytes, high byte first. -/
def be4 (n : Nat) : List Byte := be2 (n / 65536) ++ be2 n

/-- A mark, option or yes-or-no field: 0 for clear or no, 1 for set or yes. -/
def markByte (b : Bool) : Byte := if b then 1 else 0

/-- A mark as a field of one byte. -/
def mark (b : Bool) : List Byte := [markByte b]

/-- Two bytes read as a number. -/
def num2 (hi lo : Byte) : Nat := hi.toNat * 256 + lo.toNat

/-- Four bytes read as a number. -/
def num4 (a b c d : Byte) : Nat := num2 a b * 65536 + num2 c d

/-- The byte at an offset of a body, 0 beyond its end. -/
def byteAt (body : List Byte) (k : Nat) : Nat := (body.getD k 0).toNat

/-- The two-byte number at an offset of a body. -/
def halfAt (body : List Byte) (k : Nat) : Nat := byteAt body k * 256 + byteAt body (k + 1)

/-- The four-byte number at an offset of a body. -/
def wordAt (body : List Byte) (k : Nat) : Nat := halfAt body k * 65536 + halfAt body (k + 2)

/-- The sum of byte values. -/
def sumBytes : List Byte → Nat
  | [] => 0
  | b :: bs => b.toNat + sumBytes bs

/-- R2: the check character of data characters: it makes their sum 0 modulo 256. -/
def checkCharacter (bytes : List Byte) : Byte := BitVec.ofNat 8 ((256 - sumBytes bytes % 256) % 256)

/-- R168, R181: the two's complement of the 16-bit sum. -/
def check16 (bytes : List Byte) : Nat := (65536 - sumBytes bytes % 65536) % 65536

end Sys2Proof.Machine
end

