-- ==== Sys2Proof/Machine/Pages.lean ====
section
/-! DEFINITION. The store pages (R167, R168 and the store page layouts of chapter 11): which page holds what, the
body of each page as its owner's state gives it, and what an owner takes from a body that passed its check. -/

namespace Sys2Proof.Machine

/-! ## Page numbers (R167) -/

/-- The roster page that holds a slot: slots 1 to 4 in page 1 and so on (R39). -/
def rosterPage (i : SlotIx) : PageIx := ⟨i.val / 4 + 1, by omega⟩

/-- Page 4s + 1. -/
def bookPage (i : SlotIx) : PageIx := ⟨4 * (i.val + 1) + 1, by omega⟩

/-- Page 4s + 2. -/
def closedPage (i : SlotIx) : PageIx := ⟨4 * (i.val + 1) + 2, by omega⟩

/-- Page 4s + 3. -/
def settingsPage (i : SlotIx) : PageIx := ⟨4 * (i.val + 1) + 3, by omega⟩

/-- Page 4s + 4. -/
def faultsPage (i : SlotIx) : PageIx := ⟨4 * (i.val + 1) + 4, by omega⟩

/-- What a page holds. -/
inductive PageKind where
  | format
  | roster (k : Fin 4)
  | book (i : SlotIx)
  | closed (i : SlotIx)
  | settings (i : SlotIx)
  | faults (i : SlotIx)
  | spare
  deriving DecidableEq, Repr

/-- R167: what each page holds. -/
def pageKind (p : PageIx) : PageKind :=
  if p.val = 0 then .format
  else if h : p.val ≤ 4 then .roster ⟨p.val - 1, by omega⟩
  else if h : p.val ≤ 68 then
    let i : SlotIx := ⟨(p.val - 5) / 4, by omega⟩
    match (p.val - 5) % 4 with
    | 0 => .book i
    | 1 => .closed i
    | 2 => .settings i
    | _ => .faults i
  else .spare

/-! ## Bodies -/

/-- A body filled up with bytes of 0 to its 250 bytes. -/
def padBody (l : List Byte) : List Byte := l ++ List.replicate (250 - l.length) 0

/-- A stamp in five bytes. -/
def stampBytes (t : Stamp) : List Byte := be4 t.clock.toNat ++ mark t.unset

/-- A stamp that may be absent, in a page: its present byte and its bytes, 0 when absent. -/
def stampField : Option Stamp → List Byte
  | none => List.replicate 6 0
  | some t => mark true ++ stampBytes t

/-- The code of a watch mode. -/
def watchModeCode : WatchMode → Nat
  | .openAll => 0
  | .rules => 1
  | .closed => 2

/-- A watch rule's nine bytes, with the fields of an unused rule 0. -/
def ruleBytes : Option WatchRule → List Byte
  | none => List.replicate 9 0
  | some r =>
    mark true ++ be1 r.slotValue.toNat ++ be1 r.slotMask.toNat ++ mark r.cls.isNone
      ++ [r.cls.getD 0, r.codeValue, r.codeMask] ++ mark r.subject.isSome ++ [r.subject.getD 0]

/-- Page 0. -/
def formatBody (s : State) : List Byte :=
  [0x48, 0x4C] ++ be1 s.node.toNat ++ be1 (watchModeCode s.watch.mode) ++ mark s.watch.presence
    ++ s.watch.rules.toList.flatMap ruleBytes

/-- Lmin or Lmax: the follow byte and the number, 0 when it follows. -/
def limitBytes : Limit → List Byte
  | .follow => mark true ++ be2 0
  | .value v => mark false ++ be2 v

/-- A slot's thirty bytes of its roster page. -/
def rosterBytes (x : Slot) : List Byte :=
  mark x.listed ++ be1 (segNumber x.seg) ++ be1 x.addr ++ be2 x.model ++ be1 x.regItem
    ++ x.coins.toList.flatMap be2 ++ be2 x.note
    ++ mark x.reg.enabled ++ be2 x.reg.target ++ be1 x.reg.deadband ++ be2 x.reg.window ++ be1 x.reg.step
    ++ limitBytes x.reg.lmin ++ limitBytes x.reg.lmax ++ be1 x.reg.priority

/-- The slots of a roster page. -/
def rosterSlots (k : Fin 4) : List SlotIx :=
  [⟨4 * k.val, by omega⟩, ⟨4 * k.val + 1, by omega⟩, ⟨4 * k.val + 2, by omega⟩, ⟨4 * k.val + 3, by omega⟩]

/-- A roster page. -/
def rosterBody (s : State) (k : Fin 4) : List Byte := (rosterSlots k).flatMap fun i => rosterBytes (s.slot i)

/-- Totals and then their saturated marks. -/
def totalsBytes (v : Vector Total 24) : List Byte :=
  v.toList.flatMap (fun t => be4 t.val) ++ v.toList.flatMap (fun t => mark t.sat)

/-- A baseline: its present byte and its value. -/
def baselineBytes : Option Half → List Byte
  | none => mark false ++ be2 0
  | some b => mark true ++ be2 b.toNat

/-- A book page. -/
def bookBody (b : Book) : List Byte :=
  totalsBytes b.current ++ b.baselines.toList.flatMap baselineBytes
    ++ mark b.epoch.isSome ++ [b.epoch.getD 0] ++ be2 b.paid ++ be2 b.award ++ be2 b.discont
    ++ mark b.lostCurrent ++ mark b.modelChanged

/-- A closed-period page. -/
def closedBody (b : Book) : List Byte :=
  totalsBytes b.closed ++ totalsBytes b.lifetime ++ mark b.lostClosed ++ be2 b.period.toNat
    ++ stampField b.closeStamp

/-- A settings page. -/
def settingsBody (x : Slot) : List Byte :=
  let values := x.active.getD []
  mark x.active.isSome ++ be1 values.length ++ (values.flatMap be2 ++ List.replicate (2 * (64 - values.length)) 0)
    ++ be2 x.model ++ mark x.outcome.isSome ++ be2 (x.outcome.getD 0)

/-- A record's place in the recency order, 0 for the oldest. -/
def FaultRoster.place (r : FaultRoster) (k : FaultKey) : Nat := r.recency.idxOf k

/-- A fault record's twenty bytes. -/
def recordBytes (r : FaultRoster) (x : FaultRecord) : List Byte :=
  [x.key.cls, x.key.code] ++ mark x.key.subject.isSome ++ [x.key.subject.getD 0]
    ++ mark (x.origin == .hub) ++ mark (x.state == .gone) ++ mark x.acked
    ++ stampBytes x.firstSeen ++ stampBytes x.lastSeen ++ be2 x.occurrences ++ be1 (r.place x.key)

/-- A faults page. -/
def faultsBody (r : FaultRoster) : List Byte :=
  be1 r.records.length ++ mark r.overflowed ++ r.records.flatMap (recordBytes r)

/-- The present content of a page: 250 bytes. -/
def pageBody (s : State) (p : PageIx) : List Byte :=
  padBody (match pageKind p with
    | .format => formatBody s
    | .roster k => rosterBody s k
    | .book i => bookBody (s.slot i).book
    | .closed i => closedBody (s.slot i).book
    | .settings i => settingsBody (s.slot i)
    | .faults i => faultsBody (s.slot i).faults
    | .spare => [])

/-! ## Header and check (R168) -/

/-- The 256 bytes of a page: page number, generation, body, check. -/
def pageBytes (p : PageIx) (generation : Half) (body : List Byte) : List Byte :=
  let front := be2 p.val ++ be2 generation.toNat ++ body
  front ++ be2 (check16 front)

/-- The bytes of the write in flight (R170). -/
def WriteInFlight.bytes (w : WriteInFlight) : List Byte := pageBytes w.page w.generation w.snapshot

/-- R168: a page read from the store passes its check. -/
def passesCheck (p : PageIx) (bytes : List Byte) : Bool :=
  bytes.length == 256 && (sumBytes (bytes.take 254) + halfAt bytes 254) % 65536 == 0 && halfAt bytes 0 == p.val

/-! ## What an owner takes from a body -/

/-- A stored number within its field's range, or a free value within that range (log 13). -/
def ranged (lo hi : Nat) (page off v : Nat) : Nat :=
  if lo ≤ v ∧ v ≤ hi then v else lo + Config.storedOutOfRange page off v % (hi - lo + 1)

/-- A stored mark. -/
def markAt (page : Nat) (body : List Byte) (off : Nat) : Bool := ranged 0 1 page off (byteAt body off) == 1

/-- A stored stamp. -/
def stampAt (page : Nat) (body : List Byte) (off : Nat) : Stamp :=
  { clock := BitVec.ofNat 32 (wordAt body off), unset := markAt page body (off + 4) }

/-- R177: page 0 holds the format mark. -/
def hasFormatMark (body : List Byte) : Bool := byteAt body 0 == 0x48 && byteAt body 1 == 0x4C

/-- A stored watch rule. -/
def ruleAt (body : List Byte) (off : Nat) : Option WatchRule :=
  if markAt 0 body off then
    some { slotValue := BitVec.ofNat 5 (ranged 0 31 0 (off + 1) (byteAt body (off + 1)))
           slotMask := BitVec.ofNat 5 (ranged 0 31 0 (off + 2) (byteAt body (off + 2)))
           cls := if markAt 0 body (off + 3) then none else some (body.getD (off + 4) 0)
           codeValue := body.getD (off + 5) 0, codeMask := body.getD (off + 6) 0
           subject := if markAt 0 body (off + 7) then some (body.getD (off + 8) 0) else none }
  else none

/-- The watch table of page 0. -/
def watchOf (body : List Byte) : WatchTable :=
  { mode := match ranged 0 2 0 3 (byteAt body 3) with
      | 0 => .openAll
      | 1 => .rules
      | _ => .closed
    rules := Vector.ofFn fun k => ruleAt body (5 + 9 * k.val)
    presence := markAt 0 body 4 }

/-- A stored Lmin or Lmax, the number being at least `lo`: 0 is a number that R139 may have written. -/
def limitAt (lo page : Nat) (body : List Byte) (off : Nat) : Limit :=
  if markAt page body off then .follow else .value (ranged lo 65535 page (off + 1) (halfAt body (off + 1)))

/-- R138: the least value of a numeric Lmax that a master writes. -/
def Limit.floor : Limit → Nat
  | .follow => 1
  | .value v => v

/-- R138, R139: the least value of a numeric Lmax that is held: that of a numeric Lmin. An item range of 0 to 0 makes a
held limit 0. -/
def Limit.least : Limit → Nat
  | .follow => 0
  | .value v => v

/-- A slot's fields from its roster page (R39); a listed table is Absent (R58). -/
def slotFrom (page : Nat) (body : List Byte) (off : Nat) : Slot :=
  let lmin := limitAt 0 page body (off + 23)
  { Slot.unlisted with
    table := if markAt page body off then .absent else .unlisted
    seg := if ranged 0 1 page (off + 1) (byteAt body (off + 1)) = 0 then .a else .b
    addr := ranged 1 8 page (off + 2) (byteAt body (off + 2))
    model := halfAt body (off + 3)
    regItem := ranged 0 64 page (off + 5) (byteAt body (off + 5))
    coins := Vector.ofFn fun c => halfAt body (off + 6 + 2 * c.val)
    note := halfAt body (off + 14)
    due := if markAt page body off then DueRecord.listed else DueRecord.discarded
    reg :=
      { enabled := markAt page body (off + 16)
        target := ranged 50 500 page (off + 17) (halfAt body (off + 17))
        deadband := ranged 0 100 page (off + 19) (byteAt body (off + 19))
        window := ranged 50 1000 page (off + 20) (halfAt body (off + 20))
        step := ranged 1 100 page (off + 22) (byteAt body (off + 22))
        lmin := lmin
        lmax := limitAt lmin.least page body (off + 26)
        priority := ranged 0 7 page (off + 29) (byteAt body (off + 29)) } }

/-- Twenty-four totals and their marks. -/
def totalsAt (page : Nat) (body : List Byte) (off : Nat) : Vector Total 24 :=
  Vector.ofFn fun k => { val := wordAt body (off + 4 * k.val), sat := markAt page body (off + 96 + k.val) }

/-- A stored baseline. -/
def baselineAt (page : Nat) (body : List Byte) (off : Nat) : Option Half :=
  if markAt page body off then some (BitVec.ofNat 16 (halfAt body (off + 1))) else none

/-- A book with the fields of its book page (R63). -/
def bookFrom (page : Nat) (body : List Byte) (b : Book) : Book :=
  { b with
    current := totalsAt page body 0
    baselines := Vector.ofFn fun k => baselineAt page body (120 + 3 * k.val)
    epoch := if markAt page body 192 then some (body.getD 193 0) else none
    paid := halfAt body 194, award := halfAt body 196, discont := halfAt body 198
    lostCurrent := markAt page body 200, modelChanged := markAt page body 201 }

/-- A book with the fields of its closed-period page (R63). -/
def closedFrom (page : Nat) (body : List Byte) (b : Book) : Book :=
  { b with
    closed := totalsAt page body 0, lifetime := totalsAt page body 120
    lostClosed := markAt page body 240, period := BitVec.ofNat 16 (halfAt body 241)
    closeStamp := if markAt page body 243 then some (stampAt page body 244) else none }

/-- R63: a book whose book page failed. -/
def Book.withoutBookPage (b : Book) : Book :=
  { b with
    current := Vector.replicate 24 Total.zero, baselines := Vector.replicate 24 none, epoch := none
    paid := 0, award := 0, discont := 0, modelChanged := false, lostCurrent := true }

/-- R63: a book whose closed-period page failed. -/
def Book.withoutClosedPage (b : Book) : Book :=
  { b with
    closed := Vector.replicate 24 Total.zero, lifetime := b.current, lostClosed := true
    period := 0, closeStamp := none }

/-- The values of a settings page, its model code and its pending outcome. -/
def settingsValues (page : Nat) (body : List Byte) : Option (List Nat) :=
  if markAt page body 0 then
    some ((List.range (ranged 1 64 page 1 (byteAt body 1))).map fun k => halfAt body (2 + 2 * k))
  else none

/-- R98, R149: the Active image and the pending outcome that a settings page gives a slot. -/
def settingsFrom (page : Nat) (body : List Byte) (x : Slot) : Slot :=
  let active := if halfAt body 130 = x.model then settingsValues page body else none
  { x with
    active := active, draft := Draft.cleanOver active
    outcome := if active.isSome && markAt page body 132 then some (halfAt body 133) else none }

/-- A stored fault record and its place in the recency order. -/
def recordAt (page : Nat) (body : List Byte) (off : Nat) : FaultRecord × Nat :=
  ({ key := { cls := body.getD off 0, code := body.getD (off + 1) 0
              subject := if markAt page body (off + 2) then some (body.getD (off + 3) 0) else none }
     origin := if markAt page body (off + 4) then .hub else .table
     state := if markAt page body (off + 5) then .gone else .opened
     acked := markAt page body (off + 6)
     firstSeen := stampAt page body (off + 7), lastSeen := stampAt page body (off + 12)
     occurrences := ranged 1 65535 page (off + 17) (halfAt body (off + 17)) },
    ranged 0 11 page (off + 19) (byteAt body (off + 19)))

/-- A fault roster from its faults page (R151). -/
def faultsFrom (page : Nat) (body : List Byte) : FaultRoster :=
  let found := (List.range (ranged 0 12 page 0 (byteAt body 0))).map fun k => recordAt page body (2 + 20 * k)
  { records := found.map Prod.fst
    recency := (List.range 12).flatMap fun k => (found.filter fun x => x.2 == k).map fun x => x.1.key
    overflowed := markAt page body 1 }

end Sys2Proof.Machine
end

