-- ==== Sys2Proof/Machine/Ops.lean ====
section
/-! DEFINITION. The operations that every block shares: asking for a page write and issuing it (R169, R170), the
alert queue and the matcher (R160 to R164), the fault rosters (R151 to R157), and handing an answer to a port's
transmitter (R184). -/

namespace Sys2Proof.Machine

/-! ## Asking for page writes (R169, R172) -/

/-- R172: the page is one of a group's two pages. -/
def GroupRecord.covers (g : GroupRecord) (p : PageIx) : Bool := p == bookPage g.slot || p == closedPage g.slot

/-- R172: the tags of the groups not yet ended that a write of a page joins. -/
def Store.tagsOf (t : Store) (p : PageIx) : List Nat := (t.groups.filter fun g => g.covers p).map GroupRecord.tag

/-- Tags taken by what already carries some. -/
def joinTags (held taken : List Nat) : List Nat := held ++ taken.filter fun k => !held.contains k

/-- R169: a write of a page is asked for, with the page's present content. -/
def Store.askWrite (t : Store) (p : PageIx) (content : List Byte) : Store :=
  if !t.writing then t
  else if t.waiting.any fun e => e.page == p then
    { t with waiting := t.waiting.map fun e =>
        if e.page == p then { e with snapshot := content, tags := joinTags e.tags (t.tagsOf p) } else e }
  else if t.waiting.length < Config.writeCapacity then
    { t with waiting := t.waiting ++ [{ page := p, snapshot := content, tags := t.tagsOf p }] }
  else
    t.modPage p fun m => { m with deferred := true, deferredTags := joinTags m.deferredTags (t.tagsOf p) }

/-- R169: a block hands the Store Controller a page number. -/
def enqueuePage (p : PageIx) (s : State) : State := s.modStore fun t => t.askWrite p (pageBody s p)

/-- Asks for the writes of several pages, in order. -/
def enqueuePages (ps : List PageIx) (s : State) : State := ps.foldl (fun t p => enqueuePage p t) s

/-- The lowest-numbered deferred page. -/
def Store.lowestDeferred (t : Store) : Option PageIx :=
  ((List.zip allPages t.pages.toList).find? fun x => x.2.deferred).map Prod.fst

/-- R169: the lowest-numbered deferred page takes a free place of the queue, with a snapshot taken now; none when no
place is free or no page is deferred. -/
def fillPlace (s : State) : Option State :=
  if s.store.writing && s.store.waiting.length < Config.writeCapacity then
    s.store.lowestDeferred.map fun p =>
      let entry : WriteEntry :=
        { page := p, snapshot := pageBody s p, tags := (s.store.page p).deferredTags }
      s.modStore fun t =>
        { t.modPage p (fun m => { m with deferred := false, deferredTags := [] }) with
          waiting := t.waiting ++ [entry] }
  else none

/-- R169: deferred pages enter the queue while it has a free place: at most its capacity of them at once. -/
def fillPlaces : Nat → State → State
  | 0, s => s
  | n + 1, s =>
    match fillPlace s with
    | none => s
    | some t => fillPlaces n t

/-- R170: the oldest waiting entry is issued when no write is in flight. -/
def Store.issue (t : Store) : Store :=
  if !t.writing || t.inFlight.isSome then t
  else match t.waiting with
    | [] => t
    | e :: rest =>
      let generation := (t.page e.page).generation + 1
      { t.modPage e.page (fun m => { m with generation := generation }) with
        waiting := rest
        inFlight := some
          { page := e.page, generation := generation, snapshot := e.snapshot, tags := e.tags, attempt := 1 } }

/-- R169, R170: what the Store Controller does when a step's writes have been asked for (log 8). -/
def pumpStore (s : State) : State :=
  fillPlaces Config.writeCapacity ((fillPlaces Config.writeCapacity s).modStore Store.issue)

/-! ## Alerts (R160 to R164) -/

/-- R164: an alert joins at the newest end; at a full queue the oldest is removed and Overrun is set. -/
def queueAlert (a : Alert) (s : State) : State :=
  { s with
    alerts := (s.alerts ++ [a]).drop (s.alerts.length + 1 - Config.alertCapacity)
    overrun := s.overrun || decide (Config.alertCapacity ≤ s.alerts.length) }

/-- R160: a watch rule matches an entry. -/
def ruleAccepts (r : WatchRule) (roster : Nat) (k : FaultKey) : Bool :=
  (BitVec.ofNat 5 roster &&& r.slotMask) == (r.slotValue &&& r.slotMask)
    && (match r.cls with
        | none => true
        | some c => c == k.cls)
    && (k.code &&& r.codeMask) == (r.codeValue &&& r.codeMask)
    && (match r.subject with
        | none => true
        | some v => k.subject == some v)

/-- R162: the lowest-numbered rule, 1 to 8, that matches. -/
def WatchTable.firstHit (w : WatchTable) (roster : Nat) (k : FaultKey) : Option Nat :=
  (w.rules.toList.findIdx? fun r => match r with
    | none => false
    | some r => ruleAccepts r roster k).map (· + 1)

/-- R162: the hit of the Fault alert that the watch mode asks for, or none. -/
def WatchTable.hit (w : WatchTable) (roster : Nat) (k : FaultKey) : Option Nat :=
  match w.mode with
  | .openAll => some 0
  | .rules => w.firstHit roster k
  | .closed => none

/-- R162: an entry is offered to the matcher. -/
def offerEntry (roster : Nat) (k : FaultKey) (s : State) : State :=
  match s.watch.hit roster k with
  | none => s
  | some h =>
    queueAlert { kind := .fault, slot := roster, cls := some k.cls, code := k.code, subject := k.subject
                 hit := h, stamp := s.now } s

/-- R163: a Presence alert of code 1 (Absent) or 2 (Joined), while the presence-alert enable is set. -/
def presenceAlert (i : SlotIx) (code : Byte) (s : State) : State :=
  if s.watch.presence then
    queueAlert { kind := .presence, slot := slotNumber i, cls := none, code := code, subject := none
                 hit := 0, stamp := s.now } s
  else s

/-! ## Fault rosters (R151 to R157) -/

/-- The roster with a number, 0 for the hub. -/
def State.roster (s : State) (n : Fin 17) : FaultRoster :=
  if h : n.val = 0 then s.hubFaults else (s.slot ⟨n.val - 1, by omega⟩).faults

/-- The roster number of a slot. -/
def rosterOfSlot (i : SlotIx) : Fin 17 := ⟨i.val + 1, by omega⟩

/-- R151: a roster is replaced; a change of a slot's roster enqueues its faults page. -/
def putRoster (n : Fin 17) (r : FaultRoster) (s : State) : State :=
  if h : n.val = 0 then { s with hubFaults := r }
  else
    let i : SlotIx := ⟨n.val - 1, by omega⟩
    if (s.slot i).faults = r then s
    else enqueuePage (faultsPage i) (s.modSlot i fun x => { x with faults := r })

/-- How an entry reaches a roster: a condition that opens (R154 Raised, R155) or an event fault (R156). -/
inductive EntryKind where
  | condition | event
  deriving DecidableEq, Repr

/-- The record with a key. -/
def FaultRoster.find (r : FaultRoster) (k : FaultKey) : Option FaultRecord := r.records.find? fun x => x.key == k

/-- R152: an entry moves its record to the newest end of the recency order. -/
def FaultRoster.refresh (r : FaultRoster) (k : FaultKey) : List FaultKey := (r.recency.filter (· != k)) ++ [k]

/-- A removed record leaves the others in their order (R151). -/
def FaultRoster.remove (r : FaultRoster) (k : FaultKey) : FaultRoster :=
  { r with records := r.records.filter (·.key != k), recency := r.recency.filter (· != k) }

/-- R154 to R156: the record of an entry whose key has one. -/
def FaultRecord.again (x : FaultRecord) (kind : EntryKind) (now : Stamp) : FaultRecord :=
  { x with
    state := match kind with
      | .condition => .opened
      | .event => x.state
    acked := false, lastSeen := now
    occurrences := saturate Config.counterCeiling (x.occurrences + 1) }

/-- R154 to R156: the record of an entry whose key has none. -/
def FaultRecord.first (k : FaultKey) (origin : Origin) (kind : EntryKind) (now : Stamp) : FaultRecord :=
  { key := k, origin := origin
    state := match kind with
      | .condition => .opened
      | .event => .gone
    acked := false, firstSeen := now, lastSeen := now, occurrences := 1 }

/-- A new record joins at the end of both orders. -/
def FaultRoster.add (r : FaultRoster) (x : FaultRecord) : FaultRoster :=
  { r with records := r.records ++ [x], recency := r.recency ++ [x.key] }

/-- R157: the Gone record that stands oldest in the recency order. -/
def FaultRoster.oldestGone (r : FaultRoster) : Option FaultKey :=
  r.recency.find? fun k => match r.find k with
    | none => false
    | some x => x.state == .gone

/-- R154 to R157: an entry: the roster after it, and whether it was recorded (and so is offered to the matcher). -/
def FaultRoster.enter (r : FaultRoster) (k : FaultKey) (origin : Origin) (kind : EntryKind) (now : Stamp) :
    FaultRoster × Bool :=
  match r.find k with
  | some _ =>
    ({ r with
       records := r.records.map fun x => if x.key == k then x.again kind now else x
       recency := r.refresh k }, true)
  | none =>
    if r.records.length < Config.rosterCapacity then (r.add (.first k origin kind now), true)
    else match r.oldestGone with
      | some g => ((r.remove g).add (.first k origin kind now), true)
      | none => ({ r with overflowed := true }, false)

/-- R154, R155: the condition with a key has ended: its record becomes Gone. -/
def FaultRoster.finish (r : FaultRoster) (k : FaultKey) : FaultRoster :=
  { r with records := r.records.map fun x => if x.key == k then { x with state := .gone } else x }

/-- An entry to a roster, offered to the matcher when it was recorded (R162). -/
def enterFault (n : Fin 17) (k : FaultKey) (origin : Origin) (kind : EntryKind) (s : State) : State :=
  let (r, recorded) := (s.roster n).enter k origin kind s.now
  let t := putRoster n r s
  if recorded then offerEntry n.val k t else t

/-- R155: a hub condition opens. -/
def openCondition (n : Fin 17) (k : FaultKey) (s : State) : State := enterFault n k .hub .condition s

/-- R155: a hub condition ends. -/
def endCondition (n : Fin 17) (k : FaultKey) (s : State) : State := putRoster n ((s.roster n).finish k) s

/-- R156: an event fault is entered. -/
def eventFault (n : Fin 17) (k : FaultKey) (s : State) : State := enterFault n k .hub .event s

/-! ## Keys of the hub's faults (R153) -/

def keyCaution : FaultKey := { cls := 128, code := 1, subject := none }
def keyIsolated : FaultKey := { cls := 128, code := 2, subject := none }
def keyModelChanged : FaultKey := { cls := 128, code := 3, subject := none }
def keyDiscontinuity (meter : Nat) : FaultKey := { cls := 129, code := 1, subject := some (BitVec.ofNat 8 meter) }
def keyNotTaken : FaultKey := { cls := 130, code := 1, subject := none }
def keyLocalChange (item : Option Nat) : FaultKey := { cls := 130, code := 2, subject := item.map (BitVec.ofNat 8) }
def keyOutOfRange (item : Nat) : FaultKey := { cls := 130, code := 3, subject := some (BitVec.ofNat 8 item) }
def keyDriver (g : SegId) : FaultKey := { cls := 131, code := 2, subject := some (BitVec.ofNat 8 (segNumber g)) }
def keyNoisy (g : SegId) : FaultKey := { cls := 131, code := 3, subject := some (BitVec.ofNat 8 (segNumber g)) }
def keyPageFailed (p : PageIx) : FaultKey := { cls := 132, code := 1, subject := some (BitVec.ofNat 8 p.val) }
def keyStopped : FaultKey := { cls := 132, code := 2, subject := none }

/-- R11: the number of a line-fault kind. -/
def faultKindNumber : LineFaultKind → Nat
  | .biasLost => 1
  | .shorted => 2
  | .grounded => 3

/-- R11: Segment/Line with subject 16 × kind + segment. -/
def keyLine (g : SegId) (kind : LineFaultKind) : FaultKey :=
  { cls := 131, code := 1, subject := some (BitVec.ofNat 8 (16 * faultKindNumber kind + segNumber g)) }

/-! ## Answers (R183, R184, R187) -/

/-- R187: the value of a status code. -/
def Status.code : Status → Byte
  | .done => 0
  | .nothingToDeliver => 1
  | .withdrawn => 2
  | .tooLate => 3
  | .busy => 16
  | .tableBusy => 17
  | .noReservation => 18
  | .refusedInState => 19
  | .baseMoved => 20
  | .notListed => 21
  | .notIdentified => 22
  | .segmentRunning => 23
  | .badRequest => 24
  | .frameRejected => 25
  | .storeStopped => 26

/-- R184: the bytes of an answer frame. -/
def Answer.frame (a : Answer) : List Byte :=
  let counted := be2 (a.body.length + 6) ++ [a.kind ||| 0x80, a.status.code] ++ a.body
  [0xA5] ++ counted ++ be2 (check16 counted)

/-- R184: an answer is handed to a transmitter: it is sent at once or waits behind those handed before. -/
def Port.hand (x : Port) (a : Answer) : Port :=
  match x.transmitting with
  | none => { x with transmitting := some a }
  | some _ => { x with waiting := x.waiting ++ [a] }

/-- R182, R184: a refusal answer; while the waiting place for refusals is held it is not sent. -/
def Port.refuse (x : Port) (kind : Byte) (status : Status) : Port :=
  if x.transmitting.isSome && x.waiting.any (fun a => !a.own) then x
  else x.hand { kind := kind, status := status, body := [], own := false }

/-- R183: the answer of the port's request in progress. A port that no longer holds the request discards it. -/
def Port.answer (x : Port) (status : Status) (body : List Byte) : Port :=
  match x.request with
  | none => x
  | some kind => x.hand { kind := kind, status := status, body := body, own := true }

/-- The request in progress on a port is answered. -/
def answer (p : PortId) (status : Status) (body : List Byte) (s : State) : State :=
  s.modPort p fun x => x.answer status body

/-- An answer to a request that may have been dropped: none is a dropped request (R183). -/
def answerTo (p : Option PortId) (status : Status) (body : List Byte) (s : State) : State :=
  match p with
  | none => s
  | some p => answer p status body s

/-! ## Reservations (R102, R103) -/

/-- Both registers that hold a slot are cleared. -/
def clearReservations (i : SlotIx) (s : State) : State :=
  let clear (x : Port) : Port := if x.reservation = some i then { x with reservation := none } else x
  (s.modPort .collector clear).modPort .office clear

/-! ## Delivery queue (R118 to R120) -/

/-- The queue entry of a slot. -/
def State.entry (s : State) (i : SlotIx) : Option DeliveryEntry := s.queue.find? fun e => e.slot == i

/-- R120: the entry of a slot leaves the queue. -/
def removeEntry (i : SlotIx) (s : State) : State := { s with queue := s.queue.filter fun e => e.slot != i }

/-- R119: an entry joins at the end of the order of entry. -/
def joinQueue (i : SlotIx) (priority : Nat) (origin : EntryOrigin) (s : State) : State :=
  { s with
    queue := s.queue ++
      [{ slot := i, priority := priority, origin := origin, attempts := 1, withdrawal := false, withdrawPort := none }] }

/-- The entry of a slot is changed in its place. -/
def modEntry (i : SlotIx) (f : DeliveryEntry → DeliveryEntry) (s : State) : State :=
  { s with queue := s.queue.map fun e => if e.slot == i then f e else e }

end Sys2Proof.Machine
end

