-- ==== Sys2Proof/Machine/Flags.lean ====
section
/-! DEFINITION. The marks and output lines that follow the state: the garble counter with the Noisy mark (R9, R10),
the attention lines (R166) and the status outputs on the strap pins (R175). -/

namespace Sys2Proof.Machine

/-- R9, R10: a rise of the garble counter, subject to the threshold. -/
def garbleRise (g : SegId) (s : State) : State :=
  let x := s.seg g
  if x.garble < x.params.threshold then s.modSeg g fun x => { x with garble := x.garble + 1 }
  else if x.noisy then s
  else openCondition 0 (keyNoisy g) (s.modSeg g fun x => { x with noisy := true })

/-- R9, R10: a fall of the garble counter; at half the threshold the Noisy mark clears. -/
def garbleFall (g : SegId) (s : State) : State :=
  let x := s.seg g
  let count := x.garble - 1
  let t := s.modSeg g fun x => { x with garble := count }
  if x.noisy && 0 < x.garble && count == x.params.threshold / 2 then
    endCondition 0 (keyNoisy g) (t.modSeg g fun x => { x with noisy := false })
  else t

/-- R10: the counter is set to 0, the Noisy mark clears and Segment/Noisy goes Gone if it is Open. -/
def garbleReset (g : SegId) (s : State) : State :=
  endCondition 0 (keyNoisy g) (s.modSeg g fun x => { x with garble := 0, noisy := false })

/-- R166: both attention lines are asserted while an alert is queued or the store is Degraded or Stopped. -/
def State.attention (s : State) : Bool :=
  !s.alerts.isEmpty || s.store.state == .degraded || s.store.state == .stopped

/-- R175: the store state on the two speed pins. -/
def StoreState.pins : StoreState → BitVec 2
  | .loading => 0
  | .ready => 1
  | .degraded => 2
  | .stopped => 3

/-- R175: a segment's state on two node pins. -/
def SegState.pins : SegState → BitVec 2
  | .halted => 0
  | .starting => 1
  | .running => 2
  | .faulted => 3

/-- R175: the eight strap pins as status outputs: speed pins 1 and 0, then node pins 5 (B Noisy), 4 (A Noisy), 3 and
2 (B's state), 1 and 0 (A's state). -/
def State.statusPins (s : State) : BitVec 8 :=
  s.store.state.pins ++ BitVec.ofBool s.segB.noisy ++ BitVec.ofBool s.segA.noisy
    ++ s.segB.state.pins ++ s.segA.state.pins

end Sys2Proof.Machine
end

