-- ==== Sys2Proof/Machine/Images.lean ====
section
/-! DEFINITION. The Settings Image Manager's and the Regulation Unit's shared operations: images and drafts (R97 to
R101, R110), effective limits and inertness (R138 to R141), the pending outcome (R144 to R147), the check word
(R125), and the ends of a delivery that other blocks bring about (R130, R134). -/

namespace Sys2Proof.Machine

/-! ## Items (R97) -/

/-- The range of an item, numbered from 1. -/
def Identity.range (r : Identity) (item : Nat) : Option (Nat × Nat) :=
  if item = 0 then none else r.ranges[item - 1]?

/-- R97: a value clamped to an item's range. -/
def clampTo (range : Nat × Nat) (v : Nat) : Nat := clamp range.1 range.2 v

/-- A value lies outside a range. -/
def outsideRange (range : Nat × Nat) (v : Nat) : Bool := v < range.1 || range.2 < v

/-- R97: the values of items 1, 2, … each clamped to its item's range. -/
def clampValues (ranges : List (Nat × Nat)) (values : List Nat) : List Nat := List.zipWith clampTo ranges values

/-- The items whose value lies outside its range, in rising item number. -/
def itemsOutside (ranges : List (Nat × Nat)) (values : List Nat) : List Nat :=
  ((List.zipWith outsideRange ranges values).zipIdx.filter Prod.fst).map fun x => x.2 + 1

/-- The items at which two lists of values differ, in rising item number. -/
def itemsDiffering (old new : List Nat) : List Nat :=
  ((List.zipWith (fun a b => a != b) old new).zipIdx.filter Prod.fst).map fun x => x.2 + 1

/-- The Active value of the regulated item; none when there is no such item in the image. -/
def Slot.activeLevel (x : Slot) : Option Nat :=
  match x.active with
  | none => none
  | some values => if x.regItem = 0 then none else values[x.regItem - 1]?

/-- R125: the sum C of a list of values, weighted from item number k on. -/
def weightedSum : Nat → List Nat → Nat
  | _, [] => 0
  | k, v :: vs => k * (v + 1) + weightedSum (k + 1) vs

/-- R125: the check word of a list of item values and a question. -/
def checkWord (values : List Nat) (q : BitVec 4) : Nat := (weightedSum 1 values + 4099 * q.toNat) % 65536

/-! ## Regulation parameters (R138 to R141) -/

/-- R139: the range the effective limits follow: that of the regulated item, when the record is known and has it. -/
def Slot.regulatedRange (x : Slot) : Option (Nat × Nat) :=
  match x.identity with
  | none => none
  | some r => r.range x.regItem

/-- R139: the effective minimum and maximum. -/
def Slot.effectiveLimits (x : Slot) : Nat × Nat :=
  match x.regulatedRange with
  | some range =>
    let lo := match x.reg.lmin with
      | .follow => range.1
      | .value v => clampTo range v
    let hi := match x.reg.lmax with
      | .follow => range.2
      | .value v => clamp lo range.2 v
    (lo, hi)
  | none =>
    let lo := match x.reg.lmin with
      | .follow => 1
      | .value v => v
    let hi := match x.reg.lmax with
      | .follow => 65535
      | .value v => v
    (lo, max lo hi)

/-- R141: regulation of the slot is inert. -/
def Slot.inert (x : Slot) : Bool :=
  !x.reg.enabled || x.regItem == 0
    || (match x.identity with
        | none => false
        | some r => decide (r.ranges.length < x.regItem))
    || x.active.isNone

/-- R147: the pending outcome is dropped and the settings page enqueued. -/
def dropOutcome (i : SlotIx) (s : State) : State :=
  if (s.slot i).outcome.isNone then s
  else enqueuePage (settingsPage i) (s.modSlot i fun x => { x with outcome := none })

/-- R139, R141: a pending outcome that the slot may no longer hold is dropped, the window kept. -/
def settleOutcome (i : SlotIx) (s : State) : State :=
  let x := s.slot i
  match x.outcome with
  | none => s
  | some v => if x.inert || outsideRange x.effectiveLimits v then dropOutcome i s else s

/-- R74: both window counters are reset to 0 and the book page is enqueued. -/
def resetWindow (i : SlotIx) (s : State) : State :=
  enqueuePage (bookPage i) (s.modSlot i fun x => { x with book := { x.book with paid := 0, award := 0 } })

/-! ## Drafts (R99 to R101, R110) -/

/-- R99: the draft becomes Clean: equal to the Active image, its marks and Base Moved clear. -/
def Slot.withCleanDraft (x : Slot) : Slot := { x with draft := Draft.cleanOver x.active }

/-- The draft takes a state, its values and marks kept. -/
def setDraftState (i : SlotIx) (d : DraftState) (s : State) : State :=
  s.modSlot i fun x => { x with draft := { x.draft with state := d } }

/-- R110: a level is written into the Clean draft, which becomes Queued with origin Regulation. -/
def applyOutcome (i : SlotIx) (level : Nat) (s : State) : State :=
  let t := s.modSlot i fun x =>
    { x with
      draft := { x.draft with values := x.draft.values.set (x.regItem - 1) level, state := .queued }
      confirmed := false, outcome := none }
  enqueuePage (settingsPage i) (clearReservations i (joinQueue i (s.slot i).reg.priority .regulation t))

/-- R145: a pending outcome is offered to the draft: dropped, applied or left waiting. The model's choice (log 35):
where the Active image has no value of the regulated item, the outcome counts as different from it. -/
def offerOutcome (i : SlotIx) (s : State) : State :=
  let x := s.slot i
  match x.outcome with
  | none => s
  | some level =>
    if x.activeLevel = some level then dropOutcome i s
    else if x.draft.state = .clean then applyOutcome i level s
    else s

/-- R52, R53: the Active image is emptied and made Unread, with the draft Clean and empty, its queue entry and both
reservations gone, the readback cancelled (R114) and the confirmed mark clear (R135). The settings page is enqueued. -/
def unreadImages (i : SlotIx) (s : State) : State :=
  let t := s.modSlot i fun x =>
    { x with active := none, draft := Draft.cleanOver none, readback := none, confirmed := false }
  enqueuePage (settingsPage i) (clearReservations i (removeEntry i t))

/-- R116: the draft follows a new Active image: a Clean draft is set to it, an Edited or Queued one becomes Edited
with Base Moved set, a Queued one leaving the queue. -/
def followActive (i : SlotIx) (s : State) : State :=
  match (s.slot i).draft.state with
  | .clean => s.modSlot i Slot.withCleanDraft
  | .edited => s.modSlot i fun x => { x with draft := { x.draft with baseMoved := true } }
  | .queued =>
    removeEntry i (s.modSlot i fun x => { x with draft := { x.draft with state := .edited, baseMoved := true } })
  | .delivering => s

/-- R114: the readback starts again from item 1 with no values held. -/
def Slot.withReadbackReset (x : Slot) : Slot :=
  { x with readback := x.readback.map fun _ => { next := 1, held := [] } }

/-! ## Withdrawal and suspension (R130, R134) -/

/-- R118: the place of an origin in its list. -/
def originCode : EntryOrigin → Nat
  | .collector => 0
  | .office => 1
  | .regulation => 2

/-- R133: what an answer of Withdrawn carries of the removed entry. -/
def withdrawnBody (e : DeliveryEntry) : List Byte := be1 (originCode e.origin) ++ be1 e.priority ++ be1 e.attempts

/-- R133, R134: a withdrawal takes effect: the entry leaves the queue, the draft becomes Edited, and the request is
answered Withdrawn. -/
def withdrawEntry (i : SlotIx) (port : Option PortId) (s : State) : State :=
  match s.entry i with
  | none => s
  | some e => answerTo port .withdrawn (withdrawnBody e) (removeEntry i (setDraftState i .edited s))

/-- R127, R130, R134: the draft returns to Queued, the delivery record is emptied, and a withdrawal mark takes
effect. -/
def returnToQueue (g : SegId) (i : SlotIx) (s : State) : State :=
  let t := (setDraftState i .queued s).modSeg g fun x => { x with delivery := none }
  match t.entry i with
  | none => t
  | some e => if e.withdrawal then withdrawEntry i e.withdrawPort t else t

/-- R130: the delivery in flight on a segment, if any, is suspended. -/
def suspendDelivery (g : SegId) (s : State) : State :=
  match (s.seg g).delivery with
  | none => s
  | some d => returnToQueue g d.slot s

end Sys2Proof.Machine
end

