-- ==== Sys2Proof/Machine/Operands.lean ====
section
/-! DEFINITION. What stands on the table line: characters with their parity (R1), the hub's frames (R2, R19), a
table's answer (R3), and the form of each answer body (R20 to R28). -/

namespace Sys2Proof.Machine

/-! ## Characters (R1) -/

/-- The number of ones among the eight data bits. -/
def onesOf (b : Byte) : Nat := (List.range 8).countP fun k => b.getLsbD k

/-- R1: the parity bit that makes the number of ones even. -/
def parityOf (data : Byte) (address : Bool) : Bool := (onesOf data + address.toNat) % 2 == 1

/-- R1: a character error: a low stop bit, or a parity that does not hold. -/
def charError (c : LineChar) : Bool := !c.stop || c.parity != parityOf c.data c.address

/-- A character free of error. -/
def goodChar (data : Byte) (address : Bool) : LineChar :=
  { data := data, address := address, parity := parityOf data address, stop := true }

/-! ## The hub's frames (R2, R19) -/

/-- R19: the kind value of a frame. -/
def HubFrame.kind : HubFrame → Nat
  | .presenceProbe => 1
  | .identify => 2
  | .meterPoll => 3
  | .faultPoll _ => 4
  | .itemFrame _ => 5
  | .checkQuery _ => 6
  | .readbackRequest _ => 7

/-- R19: the paired answer kind of a frame. -/
def HubFrame.answerKind (f : HubFrame) : Nat := f.kind + 128

/-- R19: the body of a frame. -/
def HubFrame.body : HubFrame → List Byte
  | .presenceProbe => []
  | .identify => []
  | .meterPoll => []
  | .faultPoll resend => mark resend
  | .itemFrame items => be1 items.length ++ items.flatMap fun x => be1 x.1 ++ be2 x.2
  | .checkQuery q => be1 q.toNat
  | .readbackRequest start => be1 start

/-- R2: the data characters of a frame: kind, body length, body, check character. -/
def HubFrame.dataBytes (f : HubFrame) : List Byte :=
  let front := be1 f.kind ++ be2 f.body.length ++ f.body
  front ++ [checkCharacter front]

/-- R2: the characters of a frame to a line address. -/
def frameChars (address : Nat) (f : HubFrame) : List LineChar :=
  goodChar (BitVec.ofNat 8 address) true :: f.dataBytes.map fun b => goodChar b false

/-- R5: what the echo comparator finds in one character time is a collision. -/
def echoCollides (sent : LineChar) : Option LineChar → Bool
  | none => true
  | some c => charError c || c.data != sent.data || c.address != sent.address

/-! ## A table's answer (R3, R20) -/

/-- R20: the game-state of a value. -/
def gameStateOf : Nat → Option GameState
  | 0 => some .attract
  | 1 => some .game
  | 2 => some .service
  | 3 => some .halt
  | _ => none

/-- R20: the value of a game-state. -/
def gameStateCode : GameState → Nat
  | .attract => 0
  | .game => 1
  | .service => 2
  | .halt => 3

/-- R20: the status of a value. -/
def answerStatusOf : Nat → Option AnswerStatus
  | 0 => some .accepted
  | 1 => some .refusedInGame
  | 2 => some .refusedInService
  | _ => none

/-- R20: the value of a status. -/
def answerStatusCode : AnswerStatus → Nat
  | .accepted => 0
  | .refusedInGame => 1
  | .refusedInService => 2

/-- R3: the bytes of a well-formed answer, up to and with its check character. -/
def answerBytes (address kind : Nat) (gs : GameState) (status : AnswerStatus) (rest : List Byte) : List Byte :=
  let front := be1 address ++ be1 kind ++ be2 (rest.length + 2)
    ++ be1 (gameStateCode gs) ++ be1 (answerStatusCode status) ++ rest
  front ++ [checkCharacter front]

/-- What one more character makes of an answer of which `received` has been taken (R3, R6). -/
inductive AnswerProgress where
  /-- The answer goes on. -/
  | more
  /-- R6: a Garbled condition first appears at this character. -/
  | bad
  /-- The check character of a well-formed answer: its game-state, status and the rest of its body. -/
  | complete (gs : GameState) (status : AnswerStatus) (rest : List Byte)
  deriving DecidableEq, Repr

/-- R6: `bad` unless a condition holds. -/
def goOnIf (ok : Bool) : AnswerProgress := if ok then .more else .bad

/-- R3, R6: a character of an answer to frame `f` at line address `address`, after the characters `received`. -/
def takeAnswerChar (address : Nat) (f : HubFrame) (received : List Byte) (c : LineChar) : AnswerProgress :=
  if charError c || c.address then .bad
  else
    let all := received ++ [c.data]
    let length := halfAt all 2
    match received.length with
    | 0 => goOnIf (c.data.toNat == address)
    | 1 => goOnIf (c.data.toNat == f.answerKind)
    | 2 => .more
    | 3 => goOnIf (decide (2 ≤ length ∧ length ≤ 320))
    | 4 => goOnIf (gameStateOf c.data.toNat).isSome
    | 5 => goOnIf (answerStatusOf c.data.toNat).isSome
    | n =>
      if n < 4 + length then .more
      else if sumBytes all % 256 != 0 then .bad
      else match gameStateOf (byteAt all 4), answerStatusOf (byteAt all 5) with
        | some gs, some status => .complete gs status ((received.drop 6))
        | _, _ => .bad

/-! ## Answer bodies after the status (R21 to R28) -/

/-- A list of numbers stands in strictly rising order. -/
def rising : List Nat → Bool
  | [] => true
  | [_] => true
  | a :: b :: rest => decide (a < b) && rising (b :: rest)

/-- A meter id, 0 to 23. -/
def meterOf (n : Nat) : Option (Fin 24) := if h : n < 24 then some ⟨n, h⟩ else none

/-- R22: the model code of a usable Presence Reply. -/
def parsePresenceReply (rest : List Byte) : Option Nat :=
  if rest.length = 2 then some (halfAt rest 0) else none

/-- R23: a usable Identity Record. -/
def parseIdentity (rest : List Byte) : Option Identity :=
  let m := byteAt rest 3
  let n := byteAt rest (4 + m)
  let ids := ((rest.drop 4).take m).map BitVec.toNat
  let ranges := (List.range n).map fun k => (halfAt rest (5 + m + 4 * k), halfAt rest (7 + m + 4 * k))
  if 1 ≤ m ∧ m ≤ 24 ∧ 1 ≤ n ∧ n ≤ 64 ∧ rest.length = 5 + m + 4 * n ∧ ids.all (· < 24) ∧ rising ids
      ∧ ranges.all (fun r => decide (r.1 ≤ r.2)) then
    some { model := halfAt rest 0, revision := byteAt rest 2, meters := ids.filterMap meterOf, ranges := ranges }
  else none

/-- R24: a usable Meter Report: the epoch and the entries, in the table's order. -/
structure MeterReport where
  epoch   : Byte
  entries : List (Fin 24 × Half)
  deriving DecidableEq, Repr

/-- R24: a usable Meter Report. -/
def parseMeterReport (rest : List Byte) : Option MeterReport :=
  let n := byteAt rest 1
  let ids := (List.range n).map fun k => byteAt rest (2 + 3 * k)
  if 1 ≤ n ∧ n ≤ 24 ∧ rest.length = 2 + 3 * n ∧ ids.all (· < 24) ∧ ids.Nodup then
    some
      { epoch := rest.getD 0 0
        entries := (List.range n).filterMap fun k =>
          (meterOf (byteAt rest (2 + 3 * k))).map fun m => (m, BitVec.ofNat 16 (halfAt rest (3 + 3 * k))) }
  else none

/-- R25: a change entry of a Fault Report. -/
structure FaultChange where
  key    : FaultKey
  raised : Bool
  deriving DecidableEq, Repr

/-- R25: a usable Fault Report. -/
structure FaultReport where
  more    : Bool
  changes : List FaultChange
  deriving DecidableEq, Repr

/-- R25: a change entry at an offset. -/
def changeAt (rest : List Byte) (off : Nat) : FaultChange :=
  { key :=
      { cls := rest.getD off 0, code := rest.getD (off + 1) 0
        subject := if byteAt rest (off + 2) = 1 then some (rest.getD (off + 3) 0) else none }
    raised := byteAt rest (off + 4) == 1 }

/-- R25: a usable Fault Report. -/
def parseFaultReport (rest : List Byte) : Option FaultReport :=
  let n := byteAt rest 1
  if byteAt rest 0 ≤ 1 ∧ n ≤ 6 ∧ rest.length = 2 + 5 * n
      ∧ (List.range n).all fun k => byteAt rest (4 + 5 * k) ≤ 1 && byteAt rest (6 + 5 * k) ≤ 1 then
    some { more := byteAt rest 0 == 1, changes := (List.range n).map fun k => changeAt rest (2 + 5 * k) }
  else none

/-- R27: the count of a usable Item Ack to a frame of k items. -/
def parseItemAck (k : Nat) (rest : List Byte) : Option Nat :=
  if rest.length = 1 ∧ byteAt rest 0 ≤ k then some (byteAt rest 0) else none

/-- R28: the reply of a usable Check Word. -/
def parseCheckWord (rest : List Byte) : Option Nat := if rest.length = 2 then some (halfAt rest 0) else none

/-- R28: the values of a usable Readback Frame from item `start`. -/
def parseReadback (start : Nat) (rest : List Byte) : Option (List Nat) :=
  let k := byteAt rest 0
  if k ≤ 8 ∧ rest.length = 1 + 3 * k
      ∧ (List.range k).all fun j => byteAt rest (1 + 3 * j) == start + j then
    some ((List.range k).map fun j => halfAt rest (2 + 3 * j))
  else none

/-! ## Outcomes (R6) -/

/-- R6: the four outcomes of an exchange that runs to its end. Good carries the body after the status. -/
inductive ExOutcome where
  | silent
  | garbled
  | refused (gs : GameState)
  | good (gs : GameState) (rest : List Byte)
  deriving DecidableEq, Repr

/-- R6: the outcome of a well-formed answer, by its status. -/
def answerOutcome (gs : GameState) (status : AnswerStatus) (rest : List Byte) : ExOutcome :=
  match status with
  | .accepted => .good gs rest
  | .refusedInGame => .refused gs
  | .refusedInService => .refused gs

/-- R29: the game-state an outcome carries. -/
def ExOutcome.gameState : ExOutcome → Option GameState
  | .silent => none
  | .garbled => none
  | .refused gs => some gs
  | .good gs _ => some gs

end Sys2Proof.Machine
end

