-- ==== Sys2Proof/Machine/Fold.lean ====
section
/-! DEFINITION. The Meter Folding Unit (R64 to R74) and the evaluation its window feed starts (R142 to R144). -/

namespace Sys2Proof.Machine

/-- R64: the role of a report. -/
inductive FoldRole where
  | routine | catchUp | closing
  deriving DecidableEq, Repr

/-- R59: meters 15 and 16 count seconds. -/
def isTimeMeter (m : Fin 24) : Bool := m == 15 || m == 16

/-- R64, R68: the plausibility limit of a meter in a role. -/
def foldLimit (role : FoldRole) (m : Fin 24) : Nat :=
  match role with
  | .catchUp => if isTimeMeter m then Config.catchUpTimeLimit else Config.catchUpCountLimit
  | .routine => if isTimeMeter m then Config.timeLimit else Config.countLimit
  | .closing => if isTimeMeter m then Config.timeLimit else Config.countLimit

/-- R69: an amount is added to a total, which saturates. -/
def Total.add (t : Total) (d : Nat) : Total :=
  { val := saturate Config.totalCeiling (t.val + d), sat := t.sat || decide (Config.totalCeiling < t.val + d) }

/-- R65 to R67: the amount of an entry with raw value r. -/
def foldAmount (epochChange : Bool) (baseline : Option Half) (r : Half) : Nat :=
  if epochChange then r.toNat
  else match baseline with
    | none => 0
    | some b => (r - b).toNat

/-- A fold part-way: the book, the amounts folded per meter, and the meters of the discontinuities, in order. -/
structure FoldAcc where
  book    : Book
  amounts : Vector Nat 24
  gaps    : List (Fin 24)
  deriving DecidableEq, Repr

/-- R69: an amount is folded into the book. -/
def Book.fold (b : Book) (m : Fin 24) (d : Nat) (r : Half) : Book :=
  { b with
    current := b.current.set m.val ((b.current[m.val]).add d)
    lifetime := b.lifetime.set m.val ((b.lifetime[m.val]).add d)
    baselines := b.baselines.set m.val (some r) }

/-- R68, R70: an amount beyond its limit is not folded. -/
def Book.gap (b : Book) (m : Fin 24) (r : Half) : Book :=
  { b with
    baselines := b.baselines.set m.val (some r)
    discont := saturate Config.counterCeiling (b.discont + 1) }

/-- R64 to R70: one entry of a report. -/
def foldEntry (meters : List (Fin 24)) (role : FoldRole) (epochChange : Bool) (acc : FoldAcc)
    (entry : Fin 24 × Half) : FoldAcc :=
  let m := entry.1
  let r := entry.2
  if meters.contains m then
    let d := foldAmount epochChange acc.book.baselines[m.val] r
    if d ≤ foldLimit role m then
      { acc with book := acc.book.fold m d r, amounts := acc.amounts.set m.val d }
    else { acc with book := acc.book.gap m r, gaps := acc.gaps ++ [m] }
  else acc

/-- R65: an epoch change is found. -/
def Book.epochChanged (b : Book) (epoch : Byte) : Bool :=
  match b.epoch with
  | none => false
  | some e => e != epoch

/-- R64 to R71: the fold of a report into a book. -/
def Book.foldReport (b : Book) (meters : List (Fin 24)) (role : FoldRole) (report : MeterReport) : FoldAcc :=
  let acc := report.entries.foldl (foldEntry meters role (b.epochChanged report.epoch))
    { book := b, amounts := Vector.replicate 24 0, gaps := [] }
  { acc with book := { acc.book with epoch := some report.epoch } }

/-- R71: a field of the book page that a fold may change has changed. -/
def bookPageChanged (b b' : Book) : Bool :=
  decide (b.current ≠ b'.current) || decide (b.baselines ≠ b'.baselines) || decide (b.epoch ≠ b'.epoch)
    || b.discont != b'.discont

/-- R71: the fold ends and the pages whose fields changed are enqueued. -/
def endFold (i : SlotIx) (b' : Book) (s : State) : State :=
  let b := (s.slot i).book
  let t := s.modSlot i fun x => { x with book := b' }
  let u := if bookPageChanged b b' then enqueuePage (bookPage i) t else t
  if b.lifetime = b'.lifetime then u else enqueuePage (closedPage i) u

/-- R72: the paid and award increments are added to the window counters. -/
def windowFeed (i : SlotIx) (amounts : Vector Nat 24) (s : State) : State :=
  let b := (s.slot i).book
  let paid := saturate Config.counterCeiling (b.paid + (amounts[7] - amounts[8]))
  let award := saturate Config.counterCeiling
    (b.award + (amounts[9] + amounts[10] + amounts[11] + amounts[12]))
  if paid = b.paid ∧ award = b.award then s
  else enqueuePage (bookPage i) (s.modSlot i fun x => { x with book := { x.book with paid := paid, award := award } })

/-- R142: the window's replay percentage. -/
def windowPercent (paid award : Nat) : Nat := min (roundHalfUp (award * 1000) paid) 9999

/-- R142: the new level from the clamped base, by the deadband. -/
def nextLevel (r : RegParams) (limits : Nat × Nat) (percent base : Nat) : Nat :=
  let l := clamp limits.1 limits.2 base
  if r.target + r.deadband < percent then min (l + r.step) limits.2
  else if percent < r.target - r.deadband then max (l - r.step) limits.1
  else l

/-- R144: the outcome of an evaluation from base `base` to level `level`. -/
def takeOutcome (i : SlotIx) (base level : Nat) (s : State) : State :=
  if level = base then s
  else if (s.slot i).activeLevel = some level then dropOutcome i s
  else offerOutcome i (enqueuePage (settingsPage i) (s.modSlot i fun x => { x with outcome := some level }))

/-- R143: the base level of an evaluation. -/
def Slot.baseLevel (x : Slot) : Nat :=
  match x.outcome with
  | some v => v
  | none => x.activeLevel.getD 0

/-- R142: an evaluation. -/
def evaluate (i : SlotIx) (s : State) : State :=
  let x := s.slot i
  let level := nextLevel x.reg x.effectiveLimits (windowPercent x.book.paid x.book.award) x.baseLevel
  takeOutcome i x.baseLevel level (resetWindow i s)

/-- R73, R141: a complete window is evaluated when the slot is not inert. The model's choice (log 36): R73's test
holds also where one report's increment alone reaches W after a reset by Set Items, of which R148 says otherwise. -/
def windowTest (i : SlotIx) (s : State) : State :=
  let x := s.slot i
  if !x.inert && decide (x.reg.window ≤ x.book.paid) then evaluate i s else s

/-- R71 to R73: the taking of a usable Meter Report: the discontinuities, the fold's end, the feed and the test. The
meter timer restarts (R37). -/
def takeReport (i : SlotIx) (role : FoldRole) (report : MeterReport) (s : State) : State :=
  let x := s.slot i
  let meters := match x.identity with
    | none => []
    | some r => r.meters
  let acc := x.book.foldReport meters role report
  let t := acc.gaps.foldl (fun u m => eventFault (rosterOfSlot i) (keyDiscontinuity m.val) u) s
  let u := windowTest i (windowFeed i acc.amounts (endFold i acc.book t))
  u.modSlot i fun x => { x with due := { x.due with meter := 0 } }

end Sys2Proof.Machine
end

