-- ==== Sys2Proof/Machine/Answers.lean ====
section
/-! DEFINITION. The bodies of the answers: the fields that the rule serving a request lists, in the order listed,
encoded as chapter 11 states (log 11 for the points it leaves open). -/

namespace Sys2Proof.Machine

/-! ## Fields -/

/-- A field that may be absent: its present byte, then the field when present. -/
def optField {α : Type} (enc : α → List Byte) : Option α → List Byte
  | none => mark false
  | some v => mark true ++ enc v

/-- A list: its count, then its members. -/
def listField {α : Type} (enc : α → List Byte) (l : List α) : List Byte := be1 l.length ++ l.flatMap enc

/-- A slot number. -/
def slotField (i : SlotIx) : List Byte := be1 (slotNumber i)

/-- R39: the place of a table state in its list. -/
def tableStateCode : TableState → Nat
  | .unlisted => 0
  | .absent => 1
  | .joining => 2
  | .active => 3
  | .caution => 4
  | .isolated => 5

/-- R36: the place of a join step in its list. -/
def joinStepCode : JoinStep → Nat
  | .identify => 0
  | .readback _ _ => 1
  | .catchUp => 2

/-- R99: the place of a draft state in its list. -/
def draftStateCode : DraftState → Nat
  | .clean => 0
  | .edited => 1
  | .queued => 2
  | .delivering => 3

/-- R83: the place of a close record's state in its list. -/
def closeStateCode : CloseRecord → Nat
  | .idle => 0
  | .polling _ _ _ => 1
  | .storing _ _ _ _ => 2

/-- R162, R163: the code of an alert kind. The model's choice (log 11): no rule lists all four kinds, and they are
numbered in the order of R162 and then of R163's table. -/
def alertKindCode : AlertKind → Nat
  | .fault => 0
  | .presence => 1
  | .diverged => 2
  | .store => 3

/-- A total with its saturated mark. -/
def totalField (t : Total) : List Byte := be4 t.val ++ mark t.sat

/-- R75 to R78: the derived figures of a period, each followed by its marks: no-data, source-saturated, limit mark
(log 11: R75 lists them in this order and gives no layout). The model's choice (log 11): paid plays have no mark and
awards their capped mark alone. -/
def figuresField (f : Figures) : List Byte :=
  be4 f.paid ++ be4 f.awards ++ mark f.awardsCapped
    ++ be2 f.percent.val ++ mark f.percent.noData ++ mark f.percent.sourceSat ++ mark f.percent.capped
    ++ be4 f.ballTime.val ++ mark f.ballTime.noData ++ mark f.ballTime.sourceSat
    ++ be4 f.gameTime.val ++ mark f.gameTime.noData ++ mark f.gameTime.sourceSat
    ++ be4 f.takings ++ mark f.takingsSource ++ mark f.takingsSat

/-- R138: Lmin or Lmax: the follow byte, and the number when it is one. -/
def limitField : Limit → List Byte
  | .follow => mark true
  | .value v => mark false ++ be2 v

/-- R138: the eight regulation parameters, each followed by what `after` gives for its place: in the answer of R140 its
clamped mark, the one of Enabled, which is never set, included (log 11). -/
def regField (r : RegParams) (after : Fin 8 → List Byte) : List Byte :=
  mark r.enabled ++ after 0 ++ be2 r.target ++ after 1 ++ be1 r.deadband ++ after 2 ++ be2 r.window ++ after 3
    ++ be1 r.step ++ after 4 ++ limitField r.lmin ++ after 5 ++ limitField r.lmax ++ after 6
    ++ be1 r.priority ++ after 7

/-! ## Read Roster and Write Roster Entry (R43, R40) -/

/-- R43: the fields of a slot. -/
def rosterField (x : Slot) : List Byte :=
  be1 (tableStateCode x.table) ++ be1 (segNumber x.seg) ++ be1 x.addr ++ be2 x.model ++ be1 x.regItem
    ++ x.coins.toList.flatMap be2 ++ be2 x.note ++ be1 x.score ++ be1 x.silent ++ be1 x.goodProbes
    ++ optField (fun g => be1 (match g with
        | GameState.attract => 0
        | GameState.game => 1
        | GameState.service => 2
        | GameState.halt => 3)) x.game
    ++ mark x.localCheck
    ++ optField (fun j => be1 (joinStepCode j)) x.join
    ++ optField (fun r : Identity =>
        be2 r.model ++ be1 r.revision ++ listField (fun m => be1 m.val) r.meters ++ be1 r.ranges.length) x.identity

/-! ## Read Audits (R79, R80) and Close Period (R90, R92) -/

/-- R80: the store state. The model's choice (log 11): its place in R173's list, with Loading as 0, as in Read
Status. -/
def storeStateField (s : State) : List Byte := be1 s.store.state.pins.toNat

/-- R79: a meter of the Book state view: its baseline and whether it is in the meter set (2: set not known). -/
def bookMeterField (x : Slot) (m : Fin 24) : List Byte :=
  optField (fun b : Half => be2 b.toNat) x.book.baselines[m.val]
    ++ be1 (match x.identity with
        | none => 2
        | some r => if r.meters.contains m then 1 else 0)

/-- R79: the content of a view, with the store state (R80). The model's choices (log 11): no count stands before the
24 meters, which R79 fixes, and the store state stands last. -/
def auditBody (s : State) (x : Slot) (view : AuditView) : List Byte :=
  let b := x.book
  (match view with
    | .current =>
      b.current.toList.flatMap totalField ++ figuresField (x.figures b.current) ++ be2 b.period.toNat
        ++ mark b.lostCurrent ++ mark b.modelChanged
    | .closed =>
      b.closed.toList.flatMap totalField ++ figuresField (x.figures b.closed)
        ++ optField (fun t => be2 (b.period - 1).toNat ++ stampBytes t) b.closeStamp
        ++ mark b.lostClosed ++ mark b.modelChanged
    | .lifetime =>
      b.lifetime.toList.flatMap totalField ++ figuresField (x.figures b.lifetime)
        ++ mark b.modelChanged ++ be2 b.discont
    | .bookState =>
      (List.finRange 24).flatMap (bookMeterField x) ++ optField (fun e : Byte => [e]) b.epoch
        ++ be2 b.paid ++ be2 b.award ++ be2 b.discont ++ regField x.reg (fun _ => []) ++ optField be2 x.outcome)
    ++ storeStateField s

/-- R90: the answer to a Close Period of one slot. The model's choice (log 11): no count stands before the 24 totals. -/
def closeBody (i : SlotIx) (final stored : Bool) (k : ClosedFigures) : List Byte :=
  slotField i ++ mark final ++ mark stored ++ be2 k.number.toNat ++ stampBytes k.stamp
    ++ k.totals.toList.flatMap totalField ++ figuresField k.figures ++ mark k.lost ++ mark k.modelChanged

/-- R92: one result of a Close All. The model's choices (log 11): closed is 0 and found Table Busy 1, their places in
R92's list, and a slot found Table Busy ends there, with no present byte for the fields of a closed one. -/
def closeResultField (x : SlotIx × CloseResult) : List Byte :=
  slotField x.1 ++
    match x.2 with
    | .pending => []
    | .tableBusy => be1 1
    | .closed final stored number takings sat =>
      be1 0 ++ mark final ++ mark stored ++ be2 number.toNat ++ be4 takings ++ mark sat

/-- R92: the answer to a Close All. -/
def closeAllBody (l : List (SlotIx × CloseResult)) : List Byte := listField closeResultField l

/-! ## Read Settings and Read Draft (R104, R105) -/

/-- R104 and the layout of chapter 11: the answer to Read Settings. -/
def settingsAnswer (i : SlotIx) (x : Slot) : List Byte :=
  slotField i
    ++ optField (fun values : List Nat => be1 values.length ++ values.flatMap be2) x.active
    ++ optField (fun r : Identity =>
        be1 r.ranges.length ++ r.ranges.flatMap fun q => be2 q.1 ++ be2 q.2) x.identity
    ++ be1 x.regItem
    ++ (match x.readback with
        | none => mark false ++ [Config.noReadbackItem]
        | some r => mark true ++ be1 r.next)
    ++ mark x.localCheck
    ++ be1 (match x.game with
        | none => 255
        | some .attract => 0
        | some .game => 1
        | some .service => 2
        | some .halt => 3)

/-- R105: the fields of a queue entry that Read Draft carries. -/
def draftEntryField (e : DeliveryEntry) : List Byte :=
  be1 e.priority ++ be1 (originCode e.origin) ++ be1 e.attempts ++ mark e.withdrawal

/-- R105: the answer to Read Draft. The model's choice (log 11): the draft values are a list after its count, so that an
empty draft is a count of 0, with no present byte. -/
def draftAnswer (i : SlotIx) (s : State) : List Byte :=
  let x := s.slot i
  be1 (draftStateCode x.draft.state)
    ++ listField (fun v : Nat × Bool => be2 v.1 ++ mark v.2) (x.draft.values.zip x.draft.touched)
    ++ mark x.draft.baseMoved
    ++ mark (s.collector.reservation == some i) ++ mark (s.office.reservation == some i)
    ++ optField draftEntryField (s.entry i)
    ++ optField be2 x.outcome

/-! ## Read Faults, alerts and the watch table (R158, R165, R161) -/

/-- R152: a fault record with its place in the recency order. -/
def recordField (r : FaultRoster) (x : FaultRecord) : List Byte :=
  [x.key.cls, x.key.code] ++ optField (fun b : Byte => [b]) x.key.subject
    ++ mark (x.origin == .hub) ++ mark (x.state == .gone) ++ mark x.acked
    ++ stampBytes x.firstSeen ++ stampBytes x.lastSeen ++ be2 x.occurrences ++ be1 (r.place x.key)

/-- R158: the Open records whose acknowledged mark is clear. -/
def FaultRoster.unacknowledged (r : FaultRoster) : Nat := r.records.countP fun x => x.state == .opened && !x.acked

/-- R158: the answer to Read Faults. The model's choice (log 11): the number of records that R158 lists first is the
count of the list of records, and no second count stands before them. -/
def faultsAnswer (r : FaultRoster) : List Byte :=
  be1 r.records.length ++ mark r.overflowed ++ be1 r.unacknowledged ++ r.records.flatMap (recordField r)

/-- R162, R163: an alert. -/
def alertField (a : Alert) : List Byte :=
  be1 (alertKindCode a.kind) ++ be1 a.slot ++ optField (fun b : Byte => [b]) a.cls ++ [a.code]
    ++ optField (fun b : Byte => [b]) a.subject ++ be1 a.hit ++ stampBytes a.stamp

/-- R165: the answer to Take Alerts. -/
def alertsAnswer (l : List Alert) (overrun : Bool) : List Byte := listField alertField l ++ mark overrun

/-- R160: a watch rule. -/
def watchRuleField (r : WatchRule) : List Byte :=
  be1 r.slotValue.toNat ++ be1 r.slotMask.toNat ++ optField (fun b : Byte => [b]) r.cls
    ++ [r.codeValue, r.codeMask] ++ optField (fun b : Byte => [b]) r.subject

/-- R161: the whole watch table. The model's choices (log 11): mode, presence-alert enable, rules, in the order of
page 0; no count before the eight rules; a class of Any as a clear present byte. -/
def watchAnswer (w : WatchTable) : List Byte :=
  be1 (watchModeCode w.mode) ++ mark w.presence ++ w.rules.toList.flatMap (optField watchRuleField)

/-! ## Read Status (R188) -/

/-- R180: the Store Controller. -/
def storeField (t : Store) : List Byte :=
  be1 t.state.pins.toNat ++ mark t.formatted ++ mark t.nodeMismatch ++ be1 t.waiting.length
    ++ optField (fun w : WriteInFlight => be1 w.page.val) t.inFlight
    ++ be1 (allPages.countP fun p => (t.page p).deferred)
    ++ listField (fun p : PageIx => be1 p.val) (allPages.filter fun p => (t.page p).bad)

/-- R17: the eight line parameters, each followed by what `after` gives for its place. The model's choice (log 11): each
value is followed by its clamped mark, the speed code's, which is never set, included. -/
def lineParamsField (p : LineParams) (after : Fin 8 → List Byte) : List Byte :=
  be1 p.speed.toNat ++ after 0 ++ be1 p.guard ++ after 1 ++ be1 p.window ++ after 2 ++ be1 p.threshold ++ after 3
    ++ be1 p.faultInt ++ after 4 ++ be2 p.meterInt ++ after 5 ++ be2 p.checkInt ++ after 6
    ++ be1 p.probeInt ++ after 7

/-- R18, R188: a segment. The model's choice (log 11): the line-fault inputs asserted are three marks, in the order of
R11's kinds. -/
def segmentField (x : Segment) : List Byte :=
  be1 x.state.pins.toNat ++ mark x.haltPending ++ be1 x.garble ++ be1 x.params.threshold ++ mark x.noisy
    ++ be2 x.collisions ++ mark x.inputs.bias ++ mark x.inputs.short ++ mark x.inputs.ground
    ++ be1 x.params.speed.toNat ++ be1 x.params.guard ++ be1 x.params.window ++ be1 x.params.faultInt
    ++ be2 x.params.meterInt ++ be2 x.params.checkInt ++ be1 x.params.probeInt

/-- R122: the number of Item Frames of a change list. -/
def frameCount (changes : List (Nat × Nat)) : Nat := (changes.length + 7) / 8

/-- R122: the delivery in flight on a segment. -/
def deliveryField (d : DeliveryRecord) : List Byte :=
  slotField d.slot
    ++ be1 (match d.phase with
        | .items => 0
        | .check => 1)
    ++ be1 (frameCount d.changes) ++ be1 d.acked

/-- R118: an entry of the delivery queue, and whether it is in flight. -/
def entryField (s : State) (e : DeliveryEntry) : List Byte :=
  slotField e.slot ++ be1 e.priority ++ be1 (originCode e.origin) ++ be1 e.attempts ++ mark e.withdrawal
    ++ mark ((s.slot e.slot).draft.state == .delivering)

/-- R188: one port: the kind of its request in progress and its attention line. The model's choice (log 11): the kind is
its number in R186's table, 1 to 23. -/
def portField (s : State) (p : PortId) : List Byte :=
  optField (fun k : Byte => [k]) (s.port p).request ++ mark s.attention

/-- R185, R188: the plug state: its place in R185's list, Plugged and then Unplugged. -/
def plugField (x : Port) : List Byte := be1 (if x.plugged then 0 else 1)

/-- R188: the answer to Read Status. -/
def statusAnswer (s : State) : List Byte :=
  be1 s.node.toNat ++ be4 s.clock.toNat ++ mark s.clockUnset
    ++ storeField s.store
    ++ segmentField s.segA ++ segmentField s.segB
    ++ optField deliveryField s.segA.delivery ++ optField deliveryField s.segB.delivery
    ++ listField (entryField s) s.queue
    ++ optField slotField s.collector.reservation ++ optField slotField s.office.reservation
    ++ allSlots.flatMap (fun i => be1 (closeStateCode (s.slot i).close))
    ++ be1 s.alerts.length ++ mark s.overrun
    ++ portField s .collector ++ plugField s.collector ++ portField s .office

end Sys2Proof.Machine
end

