-- ==== Sys2Proof/Machine/Collection.lean ====
section
/-! DEFINITION. The Collection Unit (R83 to R95): starting a close, the copy, its store group and its answer. -/

namespace Sys2Proof.Machine

/-! ## Answers of closes (R90, R92) -/

/-- R92: a Close All is answered when the last of its closes has ended. -/
def settleCloseAll (p : PortId) (s : State) : State :=
  match (s.port p).closeAll with
  | none => s
  | some l =>
    if l.all fun x => x.2 != .pending then
      answer p .done (closeAllBody l) (s.modPort p fun x => { x with closeAll := none })
    else s

/-- The result of a slot is entered in the Close All record of a port. -/
def noteCloseAll (p : PortId) (i : SlotIx) (r : CloseResult) (s : State) : State :=
  settleCloseAll p (s.modPort p fun x =>
    { x with closeAll := x.closeAll.map fun l => l.map fun e => if e.1 == i then (i, r) else e })

/-- R89, R90: the store group of a close has ended: the record returns to Idle and the close is answered, or takes
its place in its Close All. A close that is no longer Storing was abandoned, and the result is discarded (R94). -/
def finishClose (i : SlotIx) (stored : Bool) (s : State) : State :=
  match (s.slot i).close with
  | .storing port ofAll final kept =>
    let t := s.modSlot i fun x => { x with close := .idle }
    if ofAll then
      match port with
      | none => t
      | some p =>
        noteCloseAll p i (.closed final stored kept.number kept.figures.takings kept.figures.takingsSat) t
    else answerTo port .done (closeBody i final stored kept) t
  | .idle => s
  | .polling _ _ _ => s

/-! ## Groups (R172) -/

/-- R172: an entry, the write in flight or a deferred mark carries the tag of a group. -/
def Store.carriesTag (t : Store) (g : GroupRecord) : Bool :=
  t.waiting.any (fun e => e.tags.contains g.tag)
    || (match t.inFlight with
        | none => false
        | some w => w.tags.contains g.tag)
    || (t.page (bookPage g.slot)).deferredTags.contains g.tag
    || (t.page (closedPage g.slot)).deferredTags.contains g.tag

/-- R172: a group has ended: its result is reported to the close of its slot, or discarded when a restart has abandoned
that close. -/
def reportGroup (stored : Bool) (g : GroupRecord) (s : State) : State :=
  if g.abandoned then s else finishClose g.slot stored s

/-- R172: groups whose tag nothing carries any more end, stored when their failed mark is clear. -/
def settleGroups (s : State) : State :=
  let ended := s.store.groups.filter fun g => !s.store.carriesTag g
  let t := s.modStore fun u => { u with groups := u.groups.filter fun g => u.carriesTag g }
  ended.foldl (fun u g => reportGroup (!g.failed) g u) t

/-- A tag that no group not yet ended has. -/
def Store.freshTag (t : Store) : Nat := t.groups.foldl (fun n g => max n (g.tag + 1)) 0

/-- R172: a group record is made for the close of a slot. -/
def openGroup (i : SlotIx) (s : State) : State :=
  s.modStore fun t =>
    { t with groups := t.groups ++ [{ slot := i, tag := t.freshTag, failed := false, abandoned := false }] }

/-! ## The copy (R88, R89) -/

/-- R88: the book after the copy. -/
def Book.copied (b : Book) (stamp : Stamp) : Book :=
  { b with
    closed := b.current, current := Vector.replicate 24 Total.zero, period := b.period + 1
    closeStamp := some stamp, lostClosed := b.lostCurrent, lostCurrent := false }

/-- R88, R90: what the close keeps for its answer. The model's choice (log 33): the Lost and Model changed marks are
those at the copy, like the figures. -/
def Slot.closedFigures (x : Slot) (stamp : Stamp) : ClosedFigures :=
  { number := x.book.period, stamp := stamp, totals := x.book.current, figures := x.figures x.book.current
    lost := x.book.lostCurrent, modelChanged := x.book.modelChanged }

/-- R88, R89: the copy is made, the close record moves to Storing and the store group is enqueued; while the store
makes no writes the group ends at once as not stored. -/
def closeNow (i : SlotIx) (final : Bool) (port : Option PortId) (ofAll : Bool) (s : State) : State :=
  let stamp := s.now
  let t := s.modSlot i fun x =>
    { x with
      book := x.book.copied stamp
      close := .storing port ofAll final (x.closedFigures stamp)
      due := { x.due with closing := false } }
  if t.store.writing then enqueuePages [bookPage i, closedPage i] (openGroup i t)
  else finishClose i false t

/-- R86, R87: a close in Polling ends, with or without its final reading. -/
def endPolling (i : SlotIx) (final : Bool) (s : State) : State :=
  match (s.slot i).close with
  | .polling port ofAll _ => closeNow i final port ofAll s
  | .idle => s
  | .storing _ _ _ _ => s

/-- R85: a close starts on a slot. -/
def startClose (i : SlotIx) (port : PortId) (ofAll : Bool) (s : State) : State :=
  let x := s.slot i
  if x.inService && (s.seg x.seg).state == .running then
    s.modSlot i fun x =>
      { x with close := .polling (some port) ofAll 0, due := { x.due with closing := true } }
  else closeNow i false (some port) ofAll s

end Sys2Proof.Machine
end

