-- ==== Sys2Proof/Machine/Roster.lean ====
section
/-! DEFINITION. The Table Roster (R45 to R58): the link error score, the table states with the notices of their
changes, and the steps of a join. -/

namespace Sys2Proof.Machine

/-! ## Notices (R57) -/

/-- R57: the table has left Active and Caution: a delivery in flight to it is suspended, its readback starts again
(R114), and a close in Polling ends without final reading. -/
def leaveService (i : SlotIx) (s : State) : State :=
  let g := (s.slot i).seg
  let mine := match (s.seg g).delivery with
    | none => false
    | some d => d.slot == i
  let t := if mine then suspendDelivery g s else s
  endPolling i false (t.modSlot i Slot.withReadbackReset)

/-- The table becomes Absent: score and both counts 0, no join. -/
def Slot.nowAbsent (x : Slot) : Slot :=
  { x with table := .absent, score := 0, silent := 0, goodProbes := 0, join := none }

/-- R46: the eighth consecutive silence. -/
def absentBySilence (i : SlotIx) (s : State) : State :=
  let x := s.slot i
  let t := s.modSlot i fun x => { x.nowAbsent with due := { x.due with probe := 0 } }
  let u := presenceAlert i 1 (if x.table = .caution then endCondition (rosterOfSlot i) keyCaution t else t)
  if x.inService then leaveService i u else u

/-- R48: the score has reached 160 in Caution. -/
def isolate (i : SlotIx) (score : Nat) (s : State) : State :=
  let t := s.modSlot i fun x =>
    { x with table := .isolated, score := score, silent := 0, goodProbes := 0, due := { x.due with probe := 0 } }
  leaveService i (openCondition (rosterOfSlot i) keyIsolated (endCondition (rosterOfSlot i) keyCaution t))

/-- R58, R41: a listed table becomes Absent by a request or a restart, its probe timer run. -/
def absentByRequest (i : SlotIx) (s : State) : State :=
  let x := s.slot i
  let t := s.modSlot i fun x =>
    { x.nowAbsent with due := { x.due with probe := Config.timerCeiling, more := false } }
  let u := if x.table = .caution then endCondition (rosterOfSlot i) keyCaution t else t
  leaveService i u

/-! ## The link error score (R45) -/

/-- R45: the score after an outcome. -/
def nextScore (score : Nat) : ExOutcome → Nat
  | .silent => saturate 255 (score + 4)
  | .garbled => saturate 255 (score + 8)
  | .refused _ => score - 1
  | .good _ _ => score - 1

/-- R45: the consecutive-silent count after an outcome. -/
def nextSilent (silent : Nat) : ExOutcome → Nat
  | .silent => silent + 1
  | .garbled => 0
  | .refused _ => 0
  | .good _ _ => 0

/-- R45: the outcome moves the score and the count, and the table state is settled from the new values. -/
def linkScore (i : SlotIx) (o : ExOutcome) (s : State) : State :=
  let x := s.slot i
  let score := nextScore x.score o
  let silent := nextSilent x.silent o
  if 8 ≤ silent then absentBySilence i s
  else if 160 ≤ score then isolate i score s
  else
    let t := s.modSlot i fun x => { x with score := score, silent := silent }
    if 64 ≤ score ∧ x.table = .active then
      openCondition (rosterOfSlot i) keyCaution (t.modSlot i fun x => { x with table := .caution })
    else if score < 64 ∧ x.table = .caution then
      endCondition (rosterOfSlot i) keyCaution (t.modSlot i fun x => { x with table := .active })
    else t

/-- R29: the roster takes the game-state of an answer. -/
def takeGameState (i : SlotIx) (gs : GameState) (s : State) : State :=
  s.modSlot i fun x =>
    { x with
      game := some gs
      localCheck := x.localCheck || (gs == .attract && x.game == some .service) }

/-- R8, R29, R45: the Table Roster takes an outcome for the addressed table. -/
def rosterTakes (i : SlotIx) (o : ExOutcome) (s : State) : State :=
  let t := match o.gameState with
    | none => s
    | some gs => takeGameState i gs s
  if (t.slot i).inService then linkScore i o t else t

/-! ## Joining (R49 to R56) -/

/-- R49, R50: the table becomes Joining, with Identify as the first step. -/
def startJoin (i : SlotIx) (s : State) : State :=
  s.modSlot i fun x =>
    { x with table := .joining, score := 0, silent := 0, goodProbes := 0, join := some .identify }

/-- R56: a join step fails. -/
def failJoin (i : SlotIx) (s : State) : State :=
  s.modSlot i fun x => { x.nowAbsent with due := { x.due with probe := 0 } }

/-- R49, R50: the outcome of a Presence Probe; its timer restarts (R37). `usable`: a usable Presence Reply. -/
def takeProbe (i : SlotIx) (o : ExOutcome) (usable : Bool) (s : State) : State :=
  let t := s.modSlot i fun x => { x with due := { x.due with probe := 0 } }
  match (s.slot i).table, o with
  | .absent, .good _ _ => if usable then startJoin i t else t
  | .isolated, .good _ _ =>
    if usable then
      if (s.slot i).goodProbes + 1 < 12 then
        t.modSlot i fun x => { x with goodProbes := x.goodProbes + 1, silent := 0 }
      else startJoin i t
    else t.modSlot i fun x => { x with goodProbes := 0, silent := 0 }
  | .isolated, .refused _ => t.modSlot i fun x => { x with goodProbes := 0, silent := 0 }
  | .isolated, .garbled => t.modSlot i fun x => { x with goodProbes := 0, silent := 0 }
  | .isolated, .silent =>
    if (s.slot i).silent + 1 < 8 then
      t.modSlot i fun x => { x with goodProbes := 0, silent := x.silent + 1 }
    else absentBySilence i t
  | _, _ => t

/-- R52: a different model code than the one learned. -/
def changeModel (i : SlotIx) (model : Nat) (s : State) : State :=
  let t := enqueuePage (rosterPage i) (s.modSlot i fun x => { x with model := model })
  let u := unreadImages i (eventFault (rosterOfSlot i) keyModelChanged t)
  let v := resetWindow i (dropOutcome i u)
  enqueuePage (bookPage i) (v.modSlot i fun x =>
    { x with
      book := { x.book with baselines := Vector.replicate 24 none, epoch := none, modelChanged := true } })

/-- R51 step 1: the model check. -/
def checkModel (i : SlotIx) (model : Nat) (s : State) : State :=
  let x := s.slot i
  if x.model = model then s
  else if x.model = 0 then enqueuePage (rosterPage i) (s.modSlot i fun x => { x with model := model })
  else changeModel i model s

/-- R139: a numeric limit is clamped into the regulated item's range. -/
def Limit.clampInto (range : Nat × Nat) : Limit → Limit
  | .follow => .follow
  | .value v => .value (clampTo range v)

/-- R139: the parameters when a record with the regulated item's range arrives. -/
def RegParams.clampInto (range : Nat × Nat) (r : RegParams) : RegParams :=
  { r with lmin := r.lmin.clampInto range, lmax := r.lmax.clampInto range }

/-- R51 step 2, R139: the record is stored, and the Regulation Unit is handed its ranges. -/
def storeIdentity (i : SlotIx) (r : Identity) (s : State) : State :=
  let t := s.modSlot i fun x => { x with identity := some r }
  let x := t.slot i
  let u := match r.range x.regItem with
    | none => t
    | some range =>
      if x.reg.clampInto range = x.reg then t
      else enqueuePage (rosterPage i) (t.modSlot i fun x => { x with reg := x.reg.clampInto range })
  settleOutcome i u

/-- R53: Settings/Out of range for each of a list of items. -/
def enterOutOfRange (i : SlotIx) (items : List Nat) (s : State) : State :=
  items.foldl (fun t k => eventFault (rosterOfSlot i) (keyOutOfRange k) t) s

/-- R53: the draft held over a passing Active image is checked against the new ranges. -/
def checkDraft (i : SlotIx) (r : Identity) (s : State) : State :=
  let d := (s.slot i).draft
  if (itemsOutside r.ranges d.values).isEmpty then s
  else
    let fix (t : State) : State := t.modSlot i fun x =>
      { x with
        draft :=
          { x.draft with values := clampValues r.ranges x.draft.values, state := .edited, baseMoved := true } }
    match d.state with
    | .queued => fix (removeEntry i s)
    | .edited => fix s
    | .clean => s
    | .delivering => s

/-- R51 step 3, R53: the Active image is checked against the record. -/
def checkSettings (i : SlotIx) (r : Identity) (s : State) : State :=
  match (s.slot i).active with
  | none => s
  | some values =>
    if values.length ≠ r.ranges.length then dropOutcome i (unreadImages i s)
    else
      let items := itemsOutside r.ranges values
      if items.isEmpty then checkDraft i r s
      else enterOutOfRange i items (dropOutcome i (unreadImages i s))

/-- R51: a usable Identity Record is taken. -/
def takeIdentity (i : SlotIx) (r : Identity) (s : State) : State :=
  let t := checkSettings i r (storeIdentity i r (checkModel i r.model s))
  t.modSlot i fun x =>
    { x with join := some (if x.active.isNone then .readback 1 [] else .catchUp) }

/-- R54, R113: the count that a Readback Frame from item `start` of N items should carry. -/
def expectedCount (n start : Nat) : Nat := min 8 (n + 1 - start)

/-- R54: the join readback has read item N. -/
def endJoinReadback (i : SlotIx) (r : Identity) (values : List Nat) (s : State) : State :=
  let t := enterOutOfRange i (itemsOutside r.ranges values) s
  let u := enqueuePage (settingsPage i) (t.modSlot i fun x =>
    { x with active := some (clampValues r.ranges values), confirmed := false })
  (followActive i u).modSlot i fun x => { x with join := some .catchUp }

/-- R54: a usable Readback Frame of a join. -/
def takeJoinReadback (i : SlotIx) (values : List Nat) (s : State) : State :=
  match (s.slot i).join, (s.slot i).identity with
  | some (.readback next held), some r =>
    let n := r.ranges.length
    if values.length ≠ expectedCount n next then failJoin i s
    else if n < next + 8 then endJoinReadback i r (held ++ values) s
    else s.modSlot i fun x => { x with join := some (.readback (next + 8) (held ++ values)) }
  | _, _ => s

/-- R55: the join completes. -/
def completeJoin (i : SlotIx) (s : State) : State :=
  let t := s.modSlot i fun x =>
    { x with
      table := .active, score := 0, silent := 0, goodProbes := 0, join := none
      due := { x.due with fault := Config.timerCeiling, check := 0 } }
  presenceAlert i 2 (endCondition (rosterOfSlot i) keyIsolated t)

end Sys2Proof.Machine
end

