-- ==== Sys2Proof/Machine/Delivery.lean ====
section
/-! DEFINITION. The Delivery Engine (R122 to R134) and the Settings Image Manager's readback and routine check (R112
to R117). -/

namespace Sys2Proof.Machine

/-! ## Starting a delivery (R122) -/

/-- R122: the items at which the draft differs from the Active image, with their draft values. -/
def changeList (active draft : List Nat) : List (Nat × Nat) :=
  ((List.zip active draft).zipIdx.filter fun x => x.1.1 != x.1.2).map fun x => (x.2 + 1, x.1.2)

/-- R122: the items of the next Item Frame. -/
def DeliveryRecord.nextItems (d : DeliveryRecord) : List (Nat × Nat) := (d.changes.drop (8 * d.acked)).take 8

/-- R122: a picked entry's delivery starts: the draft becomes Delivering, its readback starts again, and the delivery
record is filled. -/
def startDelivery (g : SegId) (i : SlotIx) (s : State) : State :=
  let x := s.slot i
  let changes := changeList (x.active.getD []) x.draft.values
  let t := (setDraftState i .delivering s).modSlot i Slot.withReadbackReset
  t.modSeg g fun y =>
    { y with
      delivery := some
        { slot := i, changes := changes, acked := 0
          phase := if changes.isEmpty then .check else .items, question := none } }

/-! ## Ends of a delivery (R126 to R128) -/

/-- R117, R126: a matching Check Word confirms the delivery. -/
def confirmDelivery (g : SegId) (i : SlotIx) (s : State) : State :=
  let t := s.modSlot i fun x =>
    { x with
      active := some x.draft.values, draft := Draft.cleanOver (some x.draft.values)
      readback := none, localCheck := false, confirmed := true }
  let u := removeEntry i (enqueuePage (settingsPage i) t)
  let v := match s.entry i with
    | none => u
    | some e => if e.withdrawal then answerTo e.withdrawPort .tooLate (slotField i) u else u
  offerOutcome i (v.modSeg g fun y => { y with delivery := none })

/-- R128: the third mismatch. -/
def diverge (g : SegId) (i : SlotIx) (e : DeliveryEntry) (s : State) : State :=
  let t := eventFault (rosterOfSlot i) keyNotTaken (setDraftState i .edited (removeEntry i s))
  let u := queueAlert
    { kind := .diverged, slot := slotNumber i, cls := some keyNotTaken.cls, code := keyNotTaken.code
      subject := none, hit := 0, stamp := t.now } t
  let v := if e.withdrawal then answerTo e.withdrawPort .withdrawn (withdrawnBody e) u else u
  v.modSeg g fun y => { y with delivery := none }

/-- R127, R128: a Check Word that differs. -/
def mismatch (g : SegId) (i : SlotIx) (s : State) : State :=
  match s.entry i with
  | none => s
  | some e =>
    if e.attempts < 3 then returnToQueue g i (modEntry i (fun e => { e with attempts := e.attempts + 1 }) s)
    else diverge g i e s

/-- R124: a usable Check Word of a delivery. -/
def takeDeliveryWord (g : SegId) (i : SlotIx) (q : BitVec 4) (reply : Nat) (s : State) : State :=
  let t := s.modSlot i fun x => { x with due := { x.due with check := 0 } }
  if reply = checkWord (s.slot i).draft.values q then confirmDelivery g i t else mismatch g i t

/-- R123: a usable Item Ack of count `n` for a frame of k items, from a table in game-state `gs` (R131). The model's
choice (log 34): a frame with a short count is not among the frames acknowledged (R122). -/
def takeItemAck (g : SegId) (i : SlotIx) (k n : Nat) (gs : GameState) (s : State) : State :=
  let t := if 1 ≤ n then s.modSlot i fun x => { x with localCheck := true } else s
  let u := t.modSeg g fun y =>
    { y with
      delivery := y.delivery.map fun d =>
        if n = k then
          { d with
            acked := d.acked + 1
            phase := if d.changes.length ≤ 8 * (d.acked + 1) then .check else .items }
        else { d with phase := .check } }
  if gs = .attract then u else suspendDelivery g u

/-! ## Routine check and local-change readback (R112 to R116) -/

/-- R112: a usable routine Check Word. -/
def takeRoutineWord (i : SlotIx) (q : BitVec 4) (reply : Nat) (s : State) : State :=
  s.modSlot i fun x =>
    { x with
      localCheck := false
      due := { x.due with check := 0 }
      readback :=
        if reply = checkWord (x.active.getD []) q then x.readback
        else some (x.readback.getD { next := 1, held := [] }) }

/-- R115 step 4: Settings/Local change for each item that differs, or once with no subject. -/
def enterLocalChange (i : SlotIx) (items : List Nat) (s : State) : State :=
  if items.isEmpty then eventFault (rosterOfSlot i) (keyLocalChange none) s
  else items.foldl (fun t k => eventFault (rosterOfSlot i) (keyLocalChange (some k)) t) s

/-- R115, R116: a local-change readback completes with its N values. The confirmed mark clears when the Active image
changes (R135, log 31). -/
def endLocalReadback (i : SlotIx) (r : Identity) (values : List Nat) (s : State) : State :=
  let x := s.slot i
  let new := clampValues r.ranges values
  let changed := itemsDiffering (x.active.getD []) new
  let t := enterOutOfRange i (itemsOutside r.ranges values) s
  let u := enqueuePage (settingsPage i) (t.modSlot i fun x =>
    { x with active := some new, readback := none, confirmed := x.confirmed && x.active == some new })
  let v := followActive i (enterLocalChange i changed u)
  if x.regItem ≠ 0 ∧ (v.slot i).activeLevel ≠ x.activeLevel then resetWindow i (dropOutcome i v) else v

/-- R113: a usable Readback Frame from item `start` for a local-change readback. -/
def takeLocalReadback (i : SlotIx) (start : Nat) (values : List Nat) (s : State) : State :=
  match (s.slot i).readback, (s.slot i).identity with
  | some b, some r =>
    let n := r.ranges.length
    if b.next ≠ start ∨ values.length ≠ expectedCount n start then s
    else if n < start + 8 then endLocalReadback i r (b.held ++ values) s
    else s.modSlot i fun x => { x with readback := some { next := start + 8, held := b.held ++ values } }
  | _, _ => s

end Sys2Proof.Machine
end

