-- ==== Sys2Proof/Machine/Scheduler.lean ====
section
/-! DEFINITION. The Exchange Schedulers (R30 to R37): what is due for a table, the pick of a delivery, the routine
visit, and the choice at an opportunity. -/

namespace Sys2Proof.Machine

/-- R30: the chosen frame is handed to the Segment Controller. A Check Query takes the slot's question counter, which
advances at once (R121). -/
def sendFrame (g : SegId) (i : SlotIx) (f : HubFrame) (asker : Asker) (s : State) : State :=
  let t := s.modSeg g fun y =>
    { y with
      exchange := some
        { slot := i, address := (s.slot i).addr, frame := f, asker := asker, phase := .waiting, received := [] } }
  match f with
  | .checkQuery _ => t.modSlot i fun x => { x with question := x.question + 1 }
  | _ => t

/-- R31: the next frame of the delivery in flight. -/
def sendDelivery (g : SegId) (d : DeliveryRecord) (s : State) : State :=
  match d.phase with
  | .items => sendFrame g d.slot (.itemFrame d.nextItems) .delivery s
  | .check =>
    let q := (s.slot d.slot).question
    sendFrame g d.slot (.checkQuery q) .delivery
      (s.modSeg g fun y => { y with delivery := some { d with question := some q } })

/-- R33: a queue entry is eligible on a segment. -/
def eligible (g : SegId) (s : State) (e : DeliveryEntry) : Bool :=
  let x := s.slot e.slot
  x.seg == g && x.draft.state == .queued && x.inService && x.inAttract

/-- R33: of two entries, the one with the lower priority value, or between equals the lower slot. -/
def sooner (a b : DeliveryEntry) : DeliveryEntry :=
  if b.priority < a.priority ∨ (b.priority = a.priority ∧ b.slot < a.slot) then b else a

/-- R33: the pick among entries. -/
def pickOf : List DeliveryEntry → Option DeliveryEntry
  | [] => none
  | e :: es => some (es.foldl sooner e)

/-- R33: the entry picked on a segment. -/
def pickEntry (g : SegId) (s : State) : Option DeliveryEntry := pickOf (s.queue.filter (eligible g s))

/-- R35, R36: the first due exchange of a table, with its asking block. -/
def dueExchange (p : LineParams) (x : Slot) : Option (HubFrame × Asker) :=
  match x.table with
  | .unlisted => none
  | .absent => if p.probeInt ≤ x.due.probe then some (.presenceProbe, .roster) else none
  | .isolated => if Config.isolatedProbeInterval ≤ x.due.probe then some (.presenceProbe, .roster) else none
  | .joining =>
    match x.join with
    | none => none
    | some .identify => some (.identify, .roster)
    | some (.readback next _) => some (.readbackRequest next, .roster)
    | some .catchUp => some (.meterPoll, .roster)
  | .active | .caution =>
    if p.faultInt ≤ x.due.fault ∨ x.due.more then some (.faultPoll x.due.resend, .faultAndAlert)
    else if p.meterInt ≤ x.due.meter then some (.meterPoll, .meterFolding)
    else if (x.localCheck ∨ p.checkInt ≤ x.due.check) ∧ x.inAttract ∧ x.active.isSome then
      some (.checkQuery x.question, .settings)
    else match x.readback with
      | some b => some (.readbackRequest b.next, .settings)
      | none => none

/-- R34: the order in which listed slots are examined, from the one next above the pointer. -/
def visitOrder (pointer : Option SlotIx) (slots : List SlotIx) : List SlotIx :=
  match pointer with
  | none => slots
  | some p => slots.filter (fun i => p < i) ++ slots.filter (fun i => i ≤ p)

/-- R34: the slot that the round-robin pointer finds. -/
def nextVisit (g : SegId) (s : State) : Option SlotIx :=
  (visitOrder (s.seg g).pointer (s.slotsOf g)).find? fun i => (dueExchange (s.seg g).params (s.slot i)).isSome

/-- R34: a routine visit. -/
def routineVisit (g : SegId) (s : State) : State :=
  match nextVisit g s with
  | none => s
  | some i =>
    match dueExchange (s.seg g).params (s.slot i) with
    | none => s
    | some (f, asker) => sendFrame g i f asker (s.modSeg g fun y => { y with pointer := some i })

/-- R32: the lowest slot of the segment whose closing-poll mark is set. -/
def nextClosing (g : SegId) (s : State) : Option SlotIx := (s.slotsOf g).find? fun i => (s.slot i).due.closing

/-- R30: an opportunity of the segment. -/
def Segment.opportunity (x : Segment) : Bool := x.state == .running && x.exchange.isNone && !x.haltPending

/-- R31: the choice at an opportunity: the delivery in flight, a closing poll, a new delivery, a routine visit. -/
def choose (g : SegId) (s : State) : State :=
  if !(s.seg g).opportunity then s
  else match (s.seg g).delivery with
    | some d => sendDelivery g d s
    | none =>
      match nextClosing g s with
      | some i => sendFrame g i .meterPoll .collection s
      | none =>
        match pickEntry g s with
        | some e =>
          let t := startDelivery g e.slot s
          match (t.seg g).delivery with
          | some d => sendDelivery g d t
          | none => t
        | none => routineVisit g s

/-- The choice on both segments. -/
def chooseBoth (s : State) : State := choose .b (choose .a s)

/-! ## Due timers (R37) -/

/-- R36, R37: the interval that a timer of a slot is compared with. -/
def timerInterval (p : LineParams) (x : Slot) : DueTimer → Nat
  | .fault => p.faultInt
  | .meter => p.meterInt
  | .check => p.checkInt
  | .probe => if x.table = .isolated then Config.isolatedProbeInterval else p.probeInt

/-- R37: a timer has reached an interval. -/
def DueRecord.reach (d : DueRecord) (t : DueTimer) (interval : Nat) : DueRecord :=
  match t with
  | .fault => { d with fault := max d.fault interval }
  | .meter => { d with meter := max d.meter interval }
  | .check => { d with check := max d.check interval }
  | .probe => { d with probe := max d.probe interval }

/-- R37: the timers count a second, up to their ceiling. -/
def DueRecord.tick (d : DueRecord) : DueRecord :=
  { d with
    fault := saturate Config.timerCeiling (d.fault + 1), meter := saturate Config.timerCeiling (d.meter + 1)
    check := saturate Config.timerCeiling (d.check + 1), probe := saturate Config.timerCeiling (d.probe + 1) }

/-- R83, R87: the closing timer counts a second, up to the closing timeout. -/
def CloseRecord.tick : CloseRecord → CloseRecord
  | .idle => .idle
  | .polling port ofAll timer => .polling port ofAll (saturate Config.closingTimeout (timer + 1))
  | .storing port ofAll final kept => .storing port ofAll final kept

/-- R37, R83: a second passes for a slot's timers. -/
def Slot.tick (x : Slot) : Slot :=
  { x with due := if x.listed then x.due.tick else x.due, close := x.close.tick }

end Sys2Proof.Machine
end

