-- ==== Sys2Proof/Machine/Segments.lean ====
section
/-! DEFINITION. The Segment Controllers (R4 to R18): the entry into Starting, the end of an exchange and the taking
of its outcome by the roster, the asking block and the garble counter (R8), abandonment (R14), halts (R15). -/

namespace Sys2Proof.Machine

/-! ## Line-fault inputs (R11) -/

/-- R11: the level of an input. -/
def LineInputs.level (x : LineInputs) : LineFaultKind → Bool
  | .biasLost => x.bias
  | .shorted => x.short
  | .grounded => x.ground

/-- R11: an input takes a level. -/
def LineInputs.put (x : LineInputs) (kind : LineFaultKind) (b : Bool) : LineInputs :=
  match kind with
  | .biasLost => { x with bias := b }
  | .shorted => { x with short := b }
  | .grounded => { x with ground := b }

/-- R11: an input is asserted. -/
def LineInputs.asserted (x : LineInputs) : Bool := x.bias || x.short || x.ground

/-- R11: the record of a kind opens if its input is asserted. -/
def openIfAsserted (g : SegId) (kind : LineFaultKind) (s : State) : State :=
  if (s.seg g).inputs.level kind then openCondition 0 (keyLine g kind) s else s

/-- R11, R13: a segment enters Starting: the written speed code takes effect (R1) and the line-fault check is made. The
model's choice (log 32): the records of several asserted inputs open in the order of R11's kinds. -/
def enterStarting (g : SegId) (s : State) : State :=
  let t := s.modSeg g fun y =>
    { y with state := if y.inputs.asserted then .faulted else .starting, lineSpeed := y.params.speed }
  openIfAsserted g .grounded (openIfAsserted g .shorted (openIfAsserted g .biasLost t))

/-! ## Abandonment and halts (R14, R15) -/

/-- R14, R37, R26, R129: what the asking block does when its exchange is abandoned. -/
def askerAbandons (g : SegId) (x : Exchange) (s : State) : State :=
  match x.frame with
  | .presenceProbe => s.modSlot x.slot fun y => { y with due := { y.due with probe := 0 } }
  | .faultPoll _ => s.modSlot x.slot fun y => { y with due := { y.due with resend := true } }
  | .itemFrame _ => suspendDelivery g s
  | .checkQuery _ => if x.asker = .delivery then suspendDelivery g s else s
  | .identify => s
  | .meterPoll => s
  | .readbackRequest _ => s

/-- R14: the exchange in flight, if any, stops at once with no outcome, the driver off. -/
def abandonExchange (g : SegId) (s : State) : State :=
  match (s.seg g).exchange with
  | none => s
  | some x => askerAbandons g x (s.modSeg g fun y => { y with exchange := none, driverOn := false })

/-- Answers Done on each of a list of ports. -/
def answerAll (ps : List PortId) (s : State) : State := ps.foldl (fun t p => answer p .done [] t) s

/-- R15, R132: the segment becomes Halted: a delivery between its frames is suspended, and the pending Halt Segment
requests are answered Done. -/
def haltNow (g : SegId) (s : State) : State :=
  let waiters := (s.seg g).haltWaiters
  let t := suspendDelivery g (s.modSeg g fun y =>
    { y with state := .halted, haltPending := false, haltWaiters := [], driverOn := false })
  answerAll waiters t

/-- R11, R12, R15: the segment becomes Faulted, abandoning the exchange in flight; with a halt pending it becomes
Halted instead. -/
def faultNow (g : SegId) (s : State) : State :=
  let pending := (s.seg g).haltPending
  let t := suspendDelivery g (abandonExchange g (s.modSeg g fun y => { y with state := .faulted, driverOn := false }))
  if pending then haltNow g t else t

/-! ## Taking an outcome (R8) -/

/-- R26, R35: the outcome of a Fault Poll without a usable report. -/
def takeFaultPollFailure (i : SlotIx) (o : ExOutcome) (s : State) : State :=
  match o with
  | .refused _ => s
  | .silent => s.modSlot i fun x => { x with due := { x.due with resend := true } }
  | .garbled => s.modSlot i fun x => { x with due := { x.due with resend := true } }
  | .good _ _ => s.modSlot i fun x => { x with due := { x.due with resend := true } }

/-- R153, R154: one change entry of a Fault Report. -/
def takeFaultChange (i : SlotIx) (c : FaultChange) (s : State) : State :=
  if 128 ≤ c.key.cls.toNat then s
  else if c.raised then enterFault (rosterOfSlot i) c.key .table .condition s
  else putRoster (rosterOfSlot i) ((s.roster (rosterOfSlot i)).finish c.key) s

/-- R154, R26, R35, R37: a usable Fault Report. -/
def takeFaultReport (i : SlotIx) (r : FaultReport) (s : State) : State :=
  let t := r.changes.foldl (fun u c => takeFaultChange i c u) s
  t.modSlot i fun x => { x with due := { x.due with fault := 0, resend := false, more := r.more } }

/-- R56: an outcome of a join step without a usable body: Refused leaves the step, the others fail the join. -/
def takeJoinFailure (i : SlotIx) (o : ExOutcome) (s : State) : State :=
  match o with
  | .refused _ => s
  | .silent => failJoin i s
  | .garbled => failJoin i s
  | .good _ _ => failJoin i s

/-- The body of an outcome: that of a Good answer. -/
def ExOutcome.bodyOf : ExOutcome → Option (List Byte)
  | .good _ rest => some rest
  | .silent => none
  | .garbled => none
  | .refused _ => none

/-- R20, R21: what an outcome hands on of a body of some form: nothing unless it is Good and in form. -/
def ExOutcome.usable {α : Type} (o : ExOutcome) (parse : List Byte → Option α) : Option α :=
  match o.bodyOf with
  | none => none
  | some rest => parse rest

/-- R55, R64, R86, R87: a usable Meter Report in the role its asking block gives it. -/
def takeMeterReport (i : SlotIx) (asker : Asker) (r : MeterReport) (s : State) : State :=
  match asker with
  | .roster => completeJoin i (takeReport i .catchUp r s)
  | .collection => endPolling i true (takeReport i .closing r s)
  | _ => takeReport i .routine r s

/-- R123, R131: the outcome of an Item Frame of k items. -/
def takeItemFrame (g : SegId) (i : SlotIx) (k : Nat) (o : ExOutcome) (s : State) : State :=
  match o.usable (parseItemAck k), o.gameState with
  | some n, some gs => takeItemAck g i k n gs s
  | _, _ => suspendDelivery g s

/-- R8, R20, R21: the asking block takes the outcome and, when it is usable, the body. -/
def askerTakes (g : SegId) (x : Exchange) (o : ExOutcome) (s : State) : State :=
  let i := x.slot
  match x.frame with
  | .presenceProbe => takeProbe i o (o.usable parsePresenceReply).isSome s
  | .identify =>
    match o.usable parseIdentity with
    | some r => takeIdentity i r s
    | none => takeJoinFailure i o s
  | .meterPoll =>
    match o.usable parseMeterReport with
    | some r => takeMeterReport i x.asker r s
    | none => if x.asker = .roster then takeJoinFailure i o s else s
  | .faultPoll _ =>
    match o.usable parseFaultReport with
    | some r => takeFaultReport i r s
    | none => takeFaultPollFailure i o s
  | .itemFrame items => takeItemFrame g i items.length o s
  | .checkQuery q =>
    match o.usable parseCheckWord with
    | some w => if x.asker = .delivery then takeDeliveryWord g i q w s else takeRoutineWord i q w s
    | none => if x.asker = .delivery then suspendDelivery g s else s
  | .readbackRequest start =>
    match o.usable (parseReadback start) with
    | some values => if x.asker = .roster then takeJoinReadback i values s else takeLocalReadback i start values s
    | none => if x.asker = .roster then takeJoinFailure i o s else s

/-- R9: the garble counter takes the outcome. -/
def garbleTakes (g : SegId) (o : ExOutcome) (s : State) : State :=
  match o with
  | .silent => s
  | .garbled => garbleRise g s
  | .refused _ => garbleFall g s
  | .good _ _ => garbleFall g s

/-- R8: the outcome of an exchange is handed on: to the roster, the asking block and the garble counter (log 24). -/
def handOn (g : SegId) (x : Exchange) (o : ExOutcome) (s : State) : State :=
  garbleTakes g o (askerTakes g x o (rosterTakes x.slot o s))

/-- R8, R15, R30: the exchange in flight ends with an outcome; then a pending halt completes, or the next opportunity
arises. -/
def endExchange (g : SegId) (o : ExOutcome) (s : State) : State :=
  match (s.seg g).exchange with
  | none => s
  | some x =>
    let t := handOn g x o (s.modSeg g fun y => { y with exchange := none, driverOn := false })
    if (t.seg g).haltPending then haltNow g t else choose g t

/-- The exchange in flight on a segment is changed. -/
def modExchange (g : SegId) (f : Exchange → Exchange) (s : State) : State :=
  s.modSeg g fun y => { y with exchange := y.exchange.map f }

/-- The phase of the exchange in flight on a segment. -/
def State.phase (s : State) (g : SegId) : Option Phase := (s.seg g).exchange.map Exchange.phase

/-- R7, R13: the receiver takes characters outside an exchange: Starting, or Running with no frame on the line (log
9). -/
def State.listening (s : State) (g : SegId) : Bool :=
  match (s.seg g).state with
  | .starting => true
  | .running => s.phase g == none || s.phase g == some .waiting
  | .halted => false
  | .faulted => false

end Sys2Proof.Machine
end

