-- ==== Sys2Proof/Machine/Load.lean ====
section
/-! DEFINITION. The load sequencer (R176 to R178), the end of a page write (R170, R171) and the Stopped store (R173). -/

namespace Sys2Proof.Machine

/-! ## Content of the pages read at the load (R176) -/

/-- The loaded fields of the four slots of a roster page. -/
def loadRoster (k : Fin 4) (f : Nat → Slot) (s : State) : State :=
  (rosterSlots k).zipIdx.foldl (fun t x => t.setSlot x.1 (f x.2)) s

/-- R176: the content of a page that passed its check goes to its owner. -/
def takePage (p : PageIx) (body : List Byte) (s : State) : State :=
  match pageKind p with
  | .format =>
    let held := hasFormatMark body
    let t := if held then { s with watch := watchOf body } else s
    t.modStore fun u =>
      { u with
        nodeMismatch := byteAt body 2 != s.node.toNat
        load := { u.load with zero := if held then .held else .noMark } }
  | .roster k => loadRoster k (fun j => slotFrom p.val body (30 * j)) s
  | .book i => s.modSlot i fun x => { x with book := bookFrom p.val body x.book }
  | .closed i => s.modSlot i fun x => { x with book := closedFrom p.val body x.book }
  | .settings i => s.modSlot i (settingsFrom p.val body)
  | .faults i => s.modSlot i fun x => { x with faults := faultsFrom p.val body }
  | .spare => s

/-- R167, R176: the content of a page whose three reads failed. -/
def failPage (p : PageIx) (s : State) : State :=
  match pageKind p with
  | .format =>
    { s with watch := WatchTable.default }.modStore fun u => { u with load := { u.load with zero := .failed } }
  | .roster k => loadRoster k (fun _ => Slot.unlisted) s
  | .book i => s.modSlot i fun x => { x with book := x.book.withoutBookPage }
  | .closed i => s.modSlot i fun x => { x with book := x.book.withoutClosedPage }
  | .settings i => s.modSlot i fun x => { x with active := none, draft := Draft.cleanOver none, outcome := none }
  | .faults i => s.modSlot i fun x => { x with faults := { FaultRoster.empty with overflowed := true } }
  | .spare => s

/-! ## The end of the load (R176 to R178) -/

/-- R176: the page is read at the load: pages 0 to 4, then the pages of the listed slots. -/
def pageRead (s : State) (p : PageIx) : Bool :=
  match pageKind p with
  | .format => true
  | .roster _ => true
  | .book i => (s.slot i).listed
  | .closed i => (s.slot i).listed
  | .settings i => (s.slot i).listed
  | .faults i => (s.slot i).listed
  | .spare => false

/-- R176: the next page to read, in rising page number. -/
def nextPage (s : State) : Option PageIx := allPages.find? fun p => s.store.load.page < p && pageRead s p

/-- R177: the load formats the store. -/
def mustFormat (t : Store) : Bool :=
  t.load.zero == .noMark
    || (t.load.zero == .failed && [1, 2, 3, 4].all fun p : PageIx => t.load.failed.contains p)

/-- R177: a format. -/
def formatStore (s : State) : State :=
  { s with
    slots := Vector.replicate 16 Slot.unlisted
    watch := WatchTable.default
    store :=
      { s.store with
        formatted := true
        pages := Vector.replicate 128 { PageMarks.clear with deferred := true } } }

/-- R176: the pages that failed are entered in roster 0 as event faults. -/
def enterLoadFailures (s : State) : State :=
  s.store.load.failed.foldl (fun t p => eventFault 0 (keyPageFailed p) t) s

/-- R149: what the end of the load does with a slot's pending outcome. -/
def offerLoaded (i : SlotIx) (s : State) : State := offerOutcome i (settleOutcome i s)

/-- R178: the load ends, and both segments enter Starting. The model's choice (log 32): segment A before segment B. -/
def endLoad (s : State) : State :=
  let t := if mustFormat s.store then formatStore s else enterLoadFailures s
  let u := t.modStore fun x => { x with state := .ready }
  let v := u.forSlots u.listedSlots offerLoaded
  enterStarting .b (enterStarting .a v)

/-- R176: the load goes on with the next page, or ends. -/
def advanceLoad (s : State) : State :=
  match nextPage s with
  | some p => s.modStore fun t => { t with load := { t.load with page := p, tries := 0 } }
  | none => endLoad s

/-- R176: a read of the page being loaded fails; after the third the page takes its failed content. -/
def readFails (s : State) : State :=
  if s.store.load.tries + 1 < 3 then
    s.modStore fun t => { t with load := { t.load with tries := t.load.tries + 1 } }
  else
    let p := s.store.load.page
    let t := failPage p s
    advanceLoad (t.modStore fun u =>
      { u.modPage p (fun m => { m with generation := 0 }) with
        load := { u.load with failed := u.load.failed ++ [p] } })

/-- R176: a read of the page being loaded completes with 256 bytes. -/
def readCompletes (bytes : List Byte) (s : State) : State :=
  let p := s.store.load.page
  if passesCheck p bytes then
    let t := takePage p ((bytes.drop 4).take 250) s
    advanceLoad (t.modStore fun u => u.modPage p fun m => { m with generation := BitVec.ofNat 16 (halfAt bytes 2) })
  else readFails s

/-! ## The end of a write (R170 to R173) -/

/-- R163: a Store alert of a Store record. -/
def storeAlert (k : FaultKey) (s : State) : State :=
  queueAlert { kind := .store, slot := 0, cls := some k.cls, code := k.code, subject := k.subject
               hit := 0, stamp := s.now } s

/-- R173: the store becomes Stopped. -/
def stopStore (s : State) : State :=
  let groups := s.store.groups
  let t := s.modStore fun u =>
    { u with
      state := .stopped, waiting := [], groups := []
      pages := u.pages.map fun m => { m with deferred := false, deferredTags := [] } }
  let v := groups.foldl (fun w g => reportGroup false g w) t
  storeAlert keyStopped (openCondition 0 keyStopped v)

/-- R171: a page has failed its second attempt. -/
def failWrite (w : WriteInFlight) (s : State) : State :=
  let t := s.modStore fun u => { u.modPage w.page (fun m => { m with bad := true }) with inFlight := none }
  let v := storeAlert (keyPageFailed w.page) (openCondition 0 (keyPageFailed w.page) t)
  let x := v.modStore fun u =>
    { u with groups := u.groups.map fun g => if w.tags.contains g.tag then { g with failed := true } else g }
  match x.store.state with
  | .ready => settleGroups (x.modStore fun u => { u with state := .degraded })
  | .degraded => stopStore x
  | .loading => x
  | .stopped => x

/-- R170: the write in flight has verified. A verified write of page 0 clears the node-mismatch mark (R176). -/
def verifyWrite (w : WriteInFlight) (s : State) : State :=
  let bad := (s.store.page w.page).bad
  let t := s.modStore fun u =>
    { u.modPage w.page (fun m => { m with bad := false }) with
      inFlight := none, nodeMismatch := u.nodeMismatch && w.page != 0 }
  settleGroups (if bad then endCondition 0 (keyPageFailed w.page) t else t)

/-- R170: an attempt of the write in flight has ended, equal or different. -/
def endAttempt (equal : Bool) (w : WriteInFlight) (s : State) : State :=
  if equal then verifyWrite w s
  else if w.attempt < 2 then s.modStore fun u => { u with inFlight := some { w with attempt := 2 } }
  else failWrite w s

end Sys2Proof.Machine
end

