-- ==== Sys2Proof/Machine/LineEvents.lean ====
section
/-! DEFINITION. The commands that are events of a table line segment (chapters 1 and 2): one meaning per row of the
table. An event that the state of the segment rules out changes nothing (log 3). -/

namespace Sys2Proof.Machine

/-! ## Transmission (R4, R5) -/

/-- The driver of a segment is enabled or released. -/
def setDriver (g : SegId) (on : Bool) (s : State) : State := s.modSeg g fun y => { y with driverOn := on }

/-- The exchange in flight on a segment takes a phase. -/
def setPhase (g : SegId) (ph : Phase) (s : State) : State := modExchange g (fun x => { x with phase := ph }) s

/-- R4: the transmitter enables the driver and sends the frame that waits for an idle line. -/
def transmitFrame (g : SegId) (s : State) : State :=
  if (s.seg g).state = .running ∧ s.phase g = some .waiting then setDriver g true (setPhase g .sending s) else s

/-- TRANSMIT_FRAME. -/
def execTransmitFrame (g : SegId) (s : State) : Host.Outcome State Fault Refusal :=
  .next (pumpStore (transmitFrame g s))

/-- R4, R5: the turnaround guard ends and the driver is released: the wait for the answer begins, or, after a
collision, the quiet wait. -/
def guardEnd (g : SegId) (s : State) : State :=
  match s.phase g with
  | some .sending => setDriver g false (setPhase g .window s)
  | some .garbled => setDriver g false s
  | _ => s

/-- GUARD_END. -/
def execGuardEnd (g : SegId) (s : State) : Host.Outcome State Fault Refusal :=
  .next (pumpStore (guardEnd g s))

/-- R4, R5: what was taken during the transmission or the guard is a collision. -/
def isCollision (x : Exchange) : CollisionCause → Bool
  | .guardStart => true
  | .echo position taken =>
    match (frameChars x.address x.frame)[position]? with
    | none => false
    | some sent => echoCollides sent taken

/-- R5: a collision: the count rises and the exchange is found Garbled; the driver stays enabled for the guard. -/
def collide (g : SegId) (s : State) : State :=
  setPhase g .garbled (s.modSeg g fun y =>
    { y with collisions := saturate Config.counterCeiling (y.collisions + 1) })

/-- R5: the echo comparator or the receiver finds a collision while the driver is enabled. -/
def collision (g : SegId) (cause : CollisionCause) (s : State) : State :=
  match (s.seg g).exchange with
  | none => s
  | some x => if x.phase = .sending ∧ isCollision x cause then collide g s else s

/-- COLLISION. -/
def execCollision (g : SegId) (cause : CollisionCause) (s : State) : Host.Outcome State Fault Refusal :=
  .next (pumpStore (collision g cause s))

/-! ## The answer (R6) -/

/-- R6: the answer window passes without a start bit. -/
def answerWindowExpiry (g : SegId) (s : State) : State :=
  if s.phase g = some .window then endExchange g .silent s else s

/-- ANSWER_WINDOW_EXPIRY. -/
def execAnswerWindowExpiry (g : SegId) (s : State) : Host.Outcome State Fault Refusal :=
  .next (pumpStore (answerWindowExpiry g s))

/-- R6: the exchange waits for its answer or receives it. -/
def Phase.receiving (ph : Phase) : Bool := ph == .window || ph == .answer

/-- R3, R6: a character taken in an exchange: the answer goes on, is found Garbled, or is complete. -/
def takeAnswerCharacter (g : SegId) (c : LineChar) (s : State) : State :=
  match (s.seg g).exchange with
  | none => s
  | some x =>
    if x.phase.receiving then
      match takeAnswerChar x.address x.frame x.received c with
      | .more => modExchange g (fun x => { x with phase := .answer, received := x.received ++ [c.data] }) s
      | .bad => setPhase g .garbled s
      | .complete gs status rest => endExchange g (answerOutcome gs status rest) s
    else s

/-- ANSWER_CHARACTER_TAKEN. -/
def execAnswerCharacterTaken (g : SegId) (c : LineChar) (s : State) : Host.Outcome State Fault Refusal :=
  .next (pumpStore (takeAnswerCharacter g c s))

/-- R3: the characters received so far begin the well-formed answer that the operands give, and its length is one
that an answer may have. -/
def answerFits (x : Exchange) (gs : GameState) (status : AnswerStatus) (rest : List Byte) : Bool :=
  decide (rest.length + 2 ≤ 320)
    && x.received.isPrefixOf (answerBytes x.address x.frame.answerKind gs status rest)

/-- R6: the rest of a well-formed answer arrives, up to its check character (log 4). -/
def answerComplete (g : SegId) (gs : GameState) (status : AnswerStatus) (rest : List Byte) (s : State) : State :=
  match (s.seg g).exchange with
  | none => s
  | some x =>
    if x.phase.receiving && answerFits x gs status rest then endExchange g (answerOutcome gs status rest) s else s

/-- ANSWER_COMPLETE. -/
def execAnswerComplete (g : SegId) (gs : GameState) (status : AnswerStatus) (rest : List Byte) (s : State) :
    Host.Outcome State Fault Refusal :=
  .next (pumpStore (answerComplete g gs status rest s))

/-- R6: the completion deadline passes before the check character has arrived. -/
def completionDeadline (g : SegId) (s : State) : State :=
  if s.phase g = some .answer then setPhase g .garbled s else s

/-- COMPLETION_DEADLINE. -/
def execCompletionDeadline (g : SegId) (s : State) : Host.Outcome State Fault Refusal :=
  .next (pumpStore (completionDeadline g s))

/-! ## The quiet wait (R7) -/

/-- R5, R7: the exchange has been found Garbled and the driver is released, so its quiet wait and its hard limit run. -/
def State.quietWaiting (s : State) (g : SegId) : Bool := s.phase g == some .garbled && !(s.seg g).driverOn

/-- R7: a Garbled exchange ends. -/
def endGarbled (g : SegId) (s : State) : State := if s.quietWaiting g then endExchange g .garbled s else s

/-- QUIET_WAIT_END. -/
def execQuietWaitEnd (g : SegId) (s : State) : Host.Outcome State Fault Refusal :=
  .next (pumpStore (endGarbled g s))

/-- HARD_LIMIT. -/
def execHardLimit (g : SegId) (s : State) : Host.Outcome State Fault Refusal :=
  .next (pumpStore (endGarbled g s))

/-- R7, R9: a character taken outside an exchange is discarded; with a character error it is a line character error. -/
def strayCharacter (g : SegId) (c : LineChar) (s : State) : State :=
  if s.listening g && charError c then garbleRise g s else s

/-- STRAY_CHARACTER. -/
def execStrayCharacter (g : SegId) (c : LineChar) (s : State) : Host.Outcome State Fault Refusal :=
  .next (pumpStore (strayCharacter g c s))

/-! ## Line faults and the driver (R11, R12) -/

/-- An input of a segment takes a level. -/
def setInput (g : SegId) (kind : LineFaultKind) (b : Bool) (s : State) : State :=
  s.modSeg g fun y => { y with inputs := y.inputs.put kind b }

/-- R11: an input becomes asserted. -/
def lineFaultAsserted (g : SegId) (kind : LineFaultKind) (s : State) : State :=
  if (s.seg g).inputs.level kind then s
  else
    let t := setInput g kind true s
    match (s.seg g).state with
    | .halted => t
    | .faulted => openCondition 0 (keyLine g kind) t
    | .starting => faultNow g (openCondition 0 (keyLine g kind) t)
    | .running => faultNow g (openCondition 0 (keyLine g kind) t)

/-- LINE_FAULT_ASSERTED. -/
def execLineFaultAsserted (g : SegId) (kind : LineFaultKind) (s : State) : Host.Outcome State Fault Refusal :=
  .next (pumpStore (lineFaultAsserted g kind s))

/-- R11: an input becomes deasserted. -/
def lineFaultDeasserted (g : SegId) (kind : LineFaultKind) (s : State) : State :=
  if (s.seg g).inputs.level kind then endCondition 0 (keyLine g kind) (setInput g kind false s) else s

/-- LINE_FAULT_DEASSERTED. -/
def execLineFaultDeasserted (g : SegId) (kind : LineFaultKind) (s : State) : Host.Outcome State Fault Refusal :=
  .next (pumpStore (lineFaultDeasserted g kind s))

/-- R12: the driver has been enabled for 40 ms without a release. -/
def driverStuck (g : SegId) (s : State) : State :=
  if (s.seg g).driverOn then faultNow g (openCondition 0 (keyDriver g) s) else s

/-- DRIVER_STUCK. -/
def execDriverStuck (g : SegId) (s : State) : Host.Outcome State Fault Refusal :=
  .next (pumpStore (driverStuck g s))

/-- R12, R13, R30: 20 ms of idle line have passed in Starting: the segment becomes Running and its first opportunity
arises. -/
def startIdleElapsed (g : SegId) (s : State) : State :=
  if (s.seg g).state = .starting then
    choose g (endCondition 0 (keyDriver g) (s.modSeg g fun y => { y with state := .running }))
  else s

/-- START_IDLE_ELAPSED. -/
def execStartIdleElapsed (g : SegId) (s : State) : Host.Outcome State Fault Refusal :=
  .next (pumpStore (startIdleElapsed g s))

/-! ## Due timers (R37) -/

/-- R37, R30: a due-record timer of a listed table reaches the interval it is compared with; the chooser may choose. -/
def dueTimerRun (i : SlotIx) (t : DueTimer) (s : State) : State :=
  let x := s.slot i
  if x.listed then
    choose x.seg (s.modSlot i fun y =>
      { y with due := y.due.reach t (timerInterval (s.seg x.seg).params x t) })
  else s

/-- DUE_TIMER_RUN. -/
def execDueTimerRun (i : SlotIx) (t : DueTimer) (s : State) : Host.Outcome State Fault Refusal :=
  .next (pumpStore (dueTimerRun i t s))

end Sys2Proof.Machine
end

