-- ==== Sys2Proof/Machine/Frames.lean ====
section
/-! DEFINITION. Request frames (R181, R182, R186 and the request layouts of chapter 11): the kinds, the reading of a
body in its form, and the frame that a master sends for a request. -/

namespace Sys2Proof.Machine

/-! ## Kinds (R186) -/

/-- R186: the kind of a request. -/
def requestKind : Request → Byte
  | .readStatus => 1
  | .setClock _ => 2
  | .restartHub => 3
  | .readRoster _ => 4
  | .writeRosterEntry _ _ => 5
  | .removeTable _ => 6
  | .setRegulation _ _ => 7
  | .setLineParameters _ _ => 8
  | .haltSegment _ => 9
  | .resumeSegment _ => 10
  | .readAudits _ _ => 11
  | .closePeriod _ => 12
  | .readSettings _ => 13
  | .readDraft _ _ => 14
  | .setItems _ _ => 15
  | .submitDraft _ _ => 16
  | .discardDraft _ => 17
  | .withdrawDelivery _ => 18
  | .readFaults _ => 19
  | .acknowledgeFaults _ _ => 20
  | .setWatchRules _ => 21
  | .takeAlerts _ => 22
  | .acknowledgeStoreFault => 23

/-- R182: the kind is one of those in R186. -/
def knownKind (k : Byte) : Bool := decide (1 ≤ k.toNat ∧ k.toNat ≤ 23)

/-! ## Reading a body -/

/-- A segment field: 0 for A, 1 for B. -/
def segField : Byte → Option SegId
  | 0 => some .a
  | 1 => some .b
  | _ => none

/-- A mark, option, yes-or-no or present byte. -/
def boolField : Byte → Option Bool
  | 0 => some false
  | 1 => some true
  | _ => none

/-- A field after its present byte: it is read only when that byte is 1. -/
def presentField {α : Type} (present : Byte) (field : Option α) : Option (Option α) :=
  match boolField present with
  | none => none
  | some false => some none
  | some true => field.map some

/-- A two-byte field. -/
def halfField (hi lo : Byte) : Half := hi ++ lo

/-- A four-byte field. -/
def wordField (a b c d : Byte) : BitVec 32 := a ++ b ++ c ++ d

/-- R17: the speed code of Set Line Parameters, 0 to 7. -/
def speedField (b : Byte) : Option (BitVec 3) := if b.toNat < 8 then some (b.setWidth 3) else none

/-- R79: a view. -/
def viewField : Byte → Option AuditView
  | 0 => some .current
  | 1 => some .closed
  | 2 => some .lifetime
  | 3 => some .bookState
  | _ => none

/-- R160: a watch mode. -/
def modeField : Byte → Option WatchMode
  | 0 => some .openAll
  | 1 => some .rules
  | 2 => some .closed
  | _ => none

/-- R160: a slot value or slot mask, 0 to 31. -/
def slotBits (b : Byte) : Option (BitVec 5) := if b.toNat < 32 then some (b.setWidth 5) else none

/-- R138: Lmin or Lmax: the follow byte and the number. -/
def limitArgField (follow hi lo : Byte) : Option LimitArg :=
  (boolField follow).map fun f => if f then .follow else .value (halfField hi lo)

/-- R106: pairs of item number and value. -/
def pairFields : List Byte → Option (List (Byte × Half))
  | [] => some []
  | item :: hi :: lo :: rest => (pairFields rest).map fun l => (item, halfField hi lo) :: l
  | [_] => none
  | [_, _] => none

/-- R161: the rules of Set Watch Rules, ten bytes each. -/
def ruleFields : List Byte → Option (List (Byte × Option WatchRule))
  | [] => some []
  | number :: used :: sv :: sm :: any :: cls :: cv :: cm :: compare :: subject :: rest =>
    match boolField used, slotBits sv, slotBits sm, boolField any, boolField compare, ruleFields rest with
    | some used, some sv, some sm, some any, some compare, some l =>
      let rule : WatchRule :=
        { slotValue := sv, slotMask := sm, cls := if any then none else some cls
          codeValue := cv, codeMask := cm, subject := if compare then some subject else none }
      some ((number, if used then some rule else none) :: l)
    | _, _, _, _, _, _ => none
  | _ => none

/-- R17: the body of Set Line Parameters. -/
def parseLineParams : List Byte → Option Request
  | [seg, p1, speed, p2, guard, p3, window, p4, threshold, p5, fault, p6, m1, m0, p7, c1, c0, p8, probe] =>
    match segField seg, presentField p1 (speedField speed), presentField p2 (some guard),
      presentField p3 (some window), presentField p4 (some threshold), presentField p5 (some fault),
      presentField p6 (some (halfField m1 m0)), presentField p7 (some (halfField c1 c0)),
      presentField p8 (some probe) with
    | some seg, some speed, some guard, some window, some threshold, some fault, some meter, some check,
        some probe =>
      some (.setLineParameters seg
        { speed := speed, guard := guard, window := window, threshold := threshold, faultInt := fault
          meterInt := meter, checkInt := check, probeInt := probe })
    | _, _, _, _, _, _, _, _, _ => none
  | _ => none

/-- R140: the body of Set Regulation. -/
def parseRegulation : List Byte → Option Request
  | [slot, p1, enabled, p2, t1, t0, p3, d1, d0, p4, w1, w0, p5, s1, s0, p6, fmin, n1, n0, p7, fmax, x1, x0, p8,
      priority] =>
    match presentField p1 (boolField enabled), presentField p2 (some (halfField t1 t0)),
      presentField p3 (some (halfField d1 d0)), presentField p4 (some (halfField w1 w0)),
      presentField p5 (some (halfField s1 s0)), presentField p6 (limitArgField fmin n1 n0),
      presentField p7 (limitArgField fmax x1 x0), presentField p8 (some priority) with
    | some enabled, some target, some deadband, some window, some step, some lmin, some lmax, some priority =>
      some (.setRegulation slot
        { enabled := enabled, target := target, deadband := deadband, window := window, step := step
          lmin := lmin, lmax := lmax, priority := priority })
    | _, _, _, _, _, _, _, _ => none
  | _ => none

/-- R40: the body of Write Roster Entry. -/
def parseRosterEntry : List Byte → Option Request
  | [slot, seg, addr, item, a1, a0, b1, b0, c1, c0, d1, d0, n1, n0] =>
    (segField seg).map fun seg =>
      .writeRosterEntry slot
        { seg := seg, addr := addr, regItem := item
          coins := #v[halfField a1 a0, halfField b1 b0, halfField c1 c0, halfField d1 d0]
          note := halfField n1 n0 }
  | _ => none

/-- R161: the body of Set Watch Rules. -/
def parseWatchRules : List Byte → Option Request
  | p1 :: mode :: p2 :: enable :: count :: rules =>
    match presentField p1 (modeField mode), presentField p2 (boolField enable), ruleFields rules with
    | some mode, some enable, some l =>
      if l.length = count.toNat ∧ count.toNat ≤ 8 then
        some (.setWatchRules { mode := mode, presence := enable, rules := l })
      else none
    | _, _, _ => none
  | _ => none

/-- R159: the body of Acknowledge Faults. -/
def parseAcknowledge : List Byte → Option Request
  | [roster, present, cls, code, p, subject] =>
    (presentField present ((presentField p (some subject)).map fun x =>
      ({ cls := cls, code := code, subject := x } : FaultKey))).map fun key => .acknowledgeFaults roster key
  | _ => none

/-- R106: the body of Set Items. -/
def parseSetItems : List Byte → Option Request
  | slot :: count :: pairs =>
    match pairFields pairs with
    | some l => if l.length = count.toNat then some (.setItems slot l) else none
    | none => none
  | _ => none

/-- A body that holds nothing. -/
def parseEmpty (r : Request) : List Byte → Option Request
  | [] => some r
  | _ => none

/-- A body of one byte. -/
def parseOne (f : Byte → Option Request) : List Byte → Option Request
  | [a] => f a
  | _ => none

/-- A body of two bytes. -/
def parseTwo (f : Byte → Byte → Option Request) : List Byte → Option Request
  | [a, b] => f a b
  | _ => none

/-- R182: the request that a body of a kind spells, none when it is out of form. -/
def parseRequest (kind : Byte) (body : List Byte) : Option Request :=
  match kind.toNat with
  | 1 => parseEmpty .readStatus body
  | 2 =>
    match body with
    | [a, b, c, d] => some (.setClock (wordField a b c d))
    | _ => none
  | 3 => parseEmpty .restartHub body
  | 4 => parseOne (fun a => some (.readRoster a)) body
  | 5 => parseRosterEntry body
  | 6 => parseOne (fun a => some (.removeTable a)) body
  | 7 => parseRegulation body
  | 8 => parseLineParams body
  | 9 => parseOne (fun a => (segField a).map .haltSegment) body
  | 10 => parseOne (fun a => (segField a).map .resumeSegment) body
  | 11 => parseTwo (fun a b => (viewField b).map (.readAudits a)) body
  | 12 => parseOne (fun a => some (.closePeriod a)) body
  | 13 => parseOne (fun a => some (.readSettings a)) body
  | 14 => parseTwo (fun a b => (boolField b).map (.readDraft a)) body
  | 15 => parseSetItems body
  | 16 => parseTwo (fun a b => some (.submitDraft a b)) body
  | 17 => parseOne (fun a => some (.discardDraft a)) body
  | 18 => parseOne (fun a => some (.withdrawDelivery a)) body
  | 19 => parseOne (fun a => some (.readFaults a)) body
  | 20 => parseAcknowledge body
  | 21 => parseWatchRules body
  | 22 => parseOne (fun a => some (.takeAlerts a)) body
  | 23 => parseEmpty .acknowledgeStoreFault body
  | _ => none

/-! ## Writing a body -/

/-- The two bytes of a two-byte field. -/
def halfBytes (h : Half) : List Byte := [(h >>> 8).setWidth 8, h.setWidth 8]

/-- The four bytes of a four-byte field. -/
def wordBytes (w : BitVec 32) : List Byte :=
  [(w >>> 24).setWidth 8, (w >>> 16).setWidth 8, (w >>> 8).setWidth 8, w.setWidth 8]

/-- A present byte and its field, 0 when absent. -/
def presentBytes {α : Type} (width : Nat) (enc : α → List Byte) : Option α → List Byte
  | none => 0 :: List.replicate width 0
  | some v => 1 :: enc v

/-- R138: Lmin or Lmax. -/
def limitArgBytes : LimitArg → List Byte
  | .follow => [1, 0, 0]
  | .value v => 0 :: halfBytes v

/-- A segment field. -/
def segByte : SegId → Byte
  | .a => 0
  | .b => 1

/-- A view. -/
def viewByte : AuditView → Byte
  | .current => 0
  | .closed => 1
  | .lifetime => 2
  | .bookState => 3

/-- A watch mode. -/
def modeByte : WatchMode → Byte
  | .openAll => 0
  | .rules => 1
  | .closed => 2

/-- R161: a rule of Set Watch Rules. -/
def ruleArgBytes (x : Byte × Option WatchRule) : List Byte :=
  match x.2 with
  | none => x.1 :: List.replicate 9 0
  | some r =>
    [x.1, 1, r.slotValue.setWidth 8, r.slotMask.setWidth 8, markByte r.cls.isNone, r.cls.getD 0, r.codeValue,
      r.codeMask, markByte r.subject.isSome, r.subject.getD 0]

/-- The body of a request (chapter 11). -/
def requestBody : Request → List Byte
  | .readStatus => []
  | .setClock v => wordBytes v
  | .restartHub => []
  | .readRoster slot => [slot]
  | .writeRosterEntry slot e =>
    [slot, segByte e.seg, e.addr, e.regItem] ++ halfBytes e.coins[0] ++ halfBytes e.coins[1]
      ++ halfBytes e.coins[2] ++ halfBytes e.coins[3] ++ halfBytes e.note
  | .removeTable slot => [slot]
  | .setRegulation slot a =>
    [slot] ++ presentBytes 1 mark a.enabled ++ presentBytes 2 halfBytes a.target
      ++ presentBytes 2 halfBytes a.deadband ++ presentBytes 2 halfBytes a.window
      ++ presentBytes 2 halfBytes a.step ++ presentBytes 3 limitArgBytes a.lmin
      ++ presentBytes 3 limitArgBytes a.lmax ++ presentBytes 1 (fun b => [b]) a.priority
  | .setLineParameters seg a =>
    [segByte seg] ++ presentBytes 1 (fun b : BitVec 3 => [b.setWidth 8]) a.speed
      ++ presentBytes 1 (fun b => [b]) a.guard ++ presentBytes 1 (fun b => [b]) a.window
      ++ presentBytes 1 (fun b => [b]) a.threshold ++ presentBytes 1 (fun b => [b]) a.faultInt
      ++ presentBytes 2 halfBytes a.meterInt ++ presentBytes 2 halfBytes a.checkInt
      ++ presentBytes 1 (fun b => [b]) a.probeInt
  | .haltSegment seg => [segByte seg]
  | .resumeSegment seg => [segByte seg]
  | .readAudits slot view => [slot, viewByte view]
  | .closePeriod slot => [slot]
  | .readSettings slot => [slot]
  | .readDraft slot reserve => [slot, markByte reserve]
  | .setItems slot pairs => [slot, BitVec.ofNat 8 pairs.length] ++ pairs.flatMap fun x => x.1 :: halfBytes x.2
  | .submitDraft slot priority => [slot, priority]
  | .discardDraft slot => [slot]
  | .withdrawDelivery slot => [slot]
  | .readFaults roster => [roster]
  | .acknowledgeFaults roster key =>
    roster :: presentBytes 4 (fun k : FaultKey =>
      [k.cls, k.code] ++ presentBytes 1 (fun b => [b]) k.subject) key
  | .setWatchRules a =>
    presentBytes 1 (fun m => [modeByte m]) a.mode ++ presentBytes 1 mark a.presence
      ++ [BitVec.ofNat 8 a.rules.length] ++ a.rules.flatMap ruleArgBytes
  | .takeAlerts count => [count]
  | .acknowledgeStoreFault => []

/-- R181: the bytes of a request frame after its start character, from the length byte to the check. -/
def requestFrameBytes (r : Request) : List Byte :=
  let counted := [BitVec.ofNat 8 ((requestBody r).length + 4), requestKind r] ++ requestBody r
  counted ++ be2 (check16 counted)

/-- R181: a frame has its form: as many bytes as its length byte gives, 4 to 160. -/
def frameWhole (frame : List Byte) : Bool :=
  let n := byteAt frame 0
  decide (4 ≤ n ∧ n ≤ 160) && frame.length == n

/-- R181: a frame passes its check. -/
def framePasses (frame : List Byte) : Bool :=
  let n := frame.length - 2
  (sumBytes (frame.take n) + halfAt frame n) % 65536 == 0

/-- The kind of a frame. -/
def frameKind (frame : List Byte) : Byte := frame.getD 1 0

/-- The body of a frame. -/
def frameBody (frame : List Byte) : List Byte := (frame.take (frame.length - 2)).drop 2

end Sys2Proof.Machine
end

