-- ==== Sys2Proof/Machine/Serve.lean ====
section
/-! DEFINITION. What each request does when its serving block takes it (R186): one definition per request. The port
holds the request in progress already; each answers it, or leaves it waiting where its rule says so (R183). -/

namespace Sys2Proof.Machine

/-- The request is answered with a refusal, which carries no body (R184). -/
def refuseRequest (p : PortId) (status : Status) (s : State) : State := answer p status [] s

/-! ## The part (R188, R82, R179) -/

/-- R188: Read Status. -/
def serveReadStatus (p : PortId) (s : State) : State := answer p .done (statusAnswer s) s

/-- R82: Set Clock. -/
def serveSetClock (p : PortId) (v : BitVec 32) (s : State) : State :=
  answer p .done (be4 v.toNat) { s with clock := v, clockUnset := false }

/-- R179, R184: a port at a restart. The answer in transmission is sent to its end; answers waiting are discarded,
and only the restart's own request stays in progress (log 18). -/
def Port.restarted (x : Port) (request : Option Byte) : Port :=
  { x with
    receiver := .hunting, request := request, waiting := [], reservation := none, closeAll := none
    transmitting := x.transmitting.map fun a => { a with own := false } }

/-- R94: a slot's close is abandoned at a restart. -/
def Slot.closeAbandoned (x : Slot) : Slot := { x with close := .idle, due := { x.due with closing := false } }

/-- R18, R137, R179 steps 3 and 6: a segment's exchange is abandoned, its pending halt is dropped and a delivery
returns to Queued. -/
def restartSegment (g : SegId) (s : State) : State :=
  suspendDelivery g (abandonExchange g (s.modSeg g fun y => { y with haltPending := false, haltWaiters := [] }))

/-- R38, R58: a listed table at a restart. -/
def restartTable (i : SlotIx) (s : State) : State := (absentByRequest i s).modSlot i fun x => { x with game := none }

/-- R18: the line quality of a segment at a restart, and its pointer (R38). -/
def restartLine (g : SegId) (s : State) : State :=
  (garbleReset g s).modSeg g fun y => { y with collisions := 0, pointer := none }

/-- R179: Restart Hub. The model's choice (log 32): segment A enters Starting before segment B. -/
def serveRestartHub (p : PortId) (s : State) : State :=
  let own (q : PortId) : Option Byte := if q = p then some 3 else none
  let t := (s.modPort .collector fun x => x.restarted (own .collector)).modPort .office
    fun x => x.restarted (own .office)
  let t := { t with
    slots := t.slots.map Slot.closeAbandoned
    queue := t.queue.map fun e => { e with withdrawPort := none }
    store := { t.store with groups := t.store.groups.map fun g => { g with abandoned := true } } }
  let t := restartSegment .b (restartSegment .a t)
  let t := t.forSlots t.listedSlots restartTable
  let t := restartLine .b (restartLine .a t)
  answer p .done [] (enterStarting .b (enterStarting .a t))

/-! ## Table Roster (R40 to R43) -/

/-- R43: Read Roster. -/
def serveReadRoster (p : PortId) (slot : Byte) (s : State) : State :=
  if slot = 0 then answer p .done (allSlots.flatMap fun i => rosterField (s.slot i)) s
  else match slotOf slot with
    | none => refuseRequest p .badRequest s
    | some i => answer p .done (rosterField (s.slot i)) s

/-- R40: the request is in its ranges, and the regulated item within a known record's N. -/
def rosterArgOk (e : RosterArg) (x : Slot) : Bool :=
  decide (1 ≤ e.addr.toNat ∧ e.addr.toNat ≤ 8 ∧ e.regItem.toNat ≤ 64)
    && (!x.listed || match x.identity with
        | none => true
        | some r => decide (e.regItem.toNat ≤ r.ranges.length))

/-- R40 step 3: another listed slot holds the pair of segment and line address. -/
def placeTaken (i : SlotIx) (e : RosterArg) (s : State) : Bool :=
  s.listedSlots.any fun j => j != i && (s.slot j).seg == e.seg && (s.slot j).addr == e.addr.toNat

/-- R40 step 4: a segment concerned is not Halted. -/
def rosterSegmentRuns (i : SlotIx) (e : RosterArg) (s : State) : Bool :=
  (s.seg e.seg).state != .halted || ((s.slot i).listed && (s.seg (s.slot i).seg).state != .halted)

/-- The written fields of a slot entry. -/
def Slot.withEntry (x : Slot) (e : RosterArg) : Slot :=
  { x with
    seg := e.seg, addr := e.addr.toNat, regItem := e.regItem.toNat
    coins := e.coins.map BitVec.toNat, note := e.note.toNat }

/-- The five pages of a slot, its roster page first. -/
def slotPages (i : SlotIx) : List PageIx := [rosterPage i, bookPage i, closedPage i, settingsPage i, faultsPage i]

/-- R40: an Unlisted slot is listed. A close whose group has not ended keeps its record (R95). -/
def listSlot (i : SlotIx) (e : RosterArg) (s : State) : State :=
  enqueuePages (slotPages i) (s.modSlot i fun x =>
    { Slot.unlisted.withEntry e with
      table := .absent, due := DueRecord.listed, close := x.close, question := x.question })

/-- R41: a listed slot is edited. -/
def editSlot (i : SlotIx) (e : RosterArg) (s : State) : State :=
  let x := s.slot i
  let t := s.modSlot i fun y => y.withEntry e
  let u := if x.seg = e.seg ∧ x.addr = e.addr.toNat then t
    else (absentByRequest i t).modSlot i fun y => { y with game := none, due := DueRecord.listed }
  let v := if x.regItem = e.regItem.toNat then u else resetWindow i (dropOutcome i u)
  enqueuePage (rosterPage i) v

/-- R40, R41: Write Roster Entry. The model's choice (log 11): the entry as it now stands, which the answer carries, is
the fields of Read Roster (R43), without the regulation parameters. -/
def serveWriteRosterEntry (p : PortId) (slot : Byte) (e : RosterArg) (s : State) : State :=
  match slotOf slot with
  | none => refuseRequest p .badRequest s
  | some i =>
    if !rosterArgOk e (s.slot i) || placeTaken i e s then refuseRequest p .badRequest s
    else if rosterSegmentRuns i e s then refuseRequest p .segmentRunning s
    else
      let t := if (s.slot i).listed then editSlot i e s else listSlot i e s
      answer p .done (rosterField (t.slot i)) t

/-- R42: the slot becomes Unlisted. The regulation parameters stay (R138). -/
def removeSlot (i : SlotIx) (s : State) : State :=
  let t := clearReservations i (removeEntry i (endPolling i false s))
  enqueuePages (slotPages i) (t.modSlot i fun x => { Slot.unlisted with close := x.close, reg := x.reg })

/-- R42: Remove Table. -/
def serveRemoveTable (p : PortId) (slot : Byte) (s : State) : State :=
  match slotOf slot with
  | none => refuseRequest p .badRequest s
  | some i =>
    if !(s.slot i).listed then refuseRequest p .notListed s
    else if (s.seg (s.slot i).seg).state ≠ .halted then refuseRequest p .segmentRunning s
    else answer p .done [] (removeSlot i s)

/-! ## Regulation Unit (R138 to R140) -/

/-- A written number clamped into its range, and its clamped mark; an absent one keeps the present value. -/
def writeClamped (lo hi old : Nat) : Option Nat → Nat × Bool
  | none => (old, false)
  | some v => (clamp lo hi v, clamp lo hi v != v)

/-- R138: a written Lmin or Lmax, at least `lo`. -/
def writeLimit (lo : Nat) (old : Limit) : Option LimitArg → Limit × Bool
  | none => (old, false)
  | some .follow => (.follow, false)
  | some (.value v) => (.value (clamp lo 65535 v.toNat), clamp lo 65535 v.toNat != v.toNat)

/-- R138: a numeric Lmax is raised to a numeric Lmin that a request writes; an Lmin that follows its item, or is not
in the request, raises nothing. -/
def Limit.raisedBy (lmin : Option LimitArg) (lo : Nat) : Limit → Limit
  | .follow => .follow
  | .value v =>
    match lmin with
    | some (.value _) => .value (max lo v)
    | some .follow => .value v
    | none => .value v

/-- R138, R140: the parameters after Set Regulation, with the clamped mark of each. -/
def RegParams.write (r : RegParams) (a : RegulationArg) : RegParams × Vector Bool 8 :=
  let target := writeClamped 50 500 r.target (a.target.map BitVec.toNat)
  let deadband := writeClamped 0 100 r.deadband (a.deadband.map BitVec.toNat)
  let window := writeClamped 50 1000 r.window (a.window.map BitVec.toNat)
  let step := writeClamped 1 100 r.step (a.step.map BitVec.toNat)
  let lmin := writeLimit 1 r.lmin a.lmin
  let lmax := writeLimit lmin.1.floor (r.lmax.raisedBy a.lmin lmin.1.floor) a.lmax
  let priority := writeClamped 0 7 r.priority (a.priority.map BitVec.toNat)
  ({ enabled := a.enabled.getD r.enabled, target := target.1, deadband := deadband.1, window := window.1
     step := step.1, lmin := lmin.1, lmax := lmax.1, priority := priority.1 },
    #v[false, target.2, deadband.2, window.2, step.2, lmin.2, lmax.2, priority.2])

/-- R140: what the answer to Set Regulation carries. -/
def regulationAnswer (x : Slot) (marks : Vector Bool 8) : List Byte :=
  regField x.reg (fun k => mark marks[k.val])
    ++ be2 x.effectiveLimits.1 ++ be2 x.effectiveLimits.2 ++ be1 x.regItem
    ++ optField be2 x.outcome ++ mark x.inert

/-- R140: Set Regulation. -/
def serveSetRegulation (p : PortId) (slot : Byte) (a : RegulationArg) (s : State) : State :=
  match slotOf slot with
  | none => refuseRequest p .badRequest s
  | some i =>
    if !(s.slot i).listed then refuseRequest p .notListed s
    else
      let w := (s.slot i).reg.write a
      let t := settleOutcome i (enqueuePage (rosterPage i) (s.modSlot i fun x => { x with reg := w.1 }))
      answer p .done (regulationAnswer (t.slot i) w.2) t

/-! ## Segment Controllers (R15 to R17) -/

/-- R17: the parameters after Set Line Parameters, with the clamped mark of each. -/
def LineParams.write (x : LineParams) (a : LineParamsArg) : LineParams × Vector Bool 8 :=
  let guard := writeClamped 0 15 x.guard (a.guard.map BitVec.toNat)
  let window := writeClamped 2 50 x.window (a.window.map BitVec.toNat)
  let threshold := writeClamped 1 254 x.threshold (a.threshold.map BitVec.toNat)
  let fault := writeClamped 1 60 x.faultInt (a.faultInt.map BitVec.toNat)
  let meter := writeClamped 5 600 x.meterInt (a.meterInt.map BitVec.toNat)
  let check := writeClamped 60 3600 x.checkInt (a.checkInt.map BitVec.toNat)
  let probe := writeClamped 2 60 x.probeInt (a.probeInt.map BitVec.toNat)
  ({ speed := (a.speed.map (BitVec.setWidth 2)).getD x.speed, guard := guard.1, window := window.1
     threshold := threshold.1, faultInt := fault.1, meterInt := meter.1, checkInt := check.1, probeInt := probe.1 },
    #v[false, guard.2, window.2, threshold.2, fault.2, meter.2, check.2, probe.2])

/-- R17: codes 4 to 7 do not name a speed. -/
def badSpeed : Option (BitVec 3) → Bool
  | none => false
  | some code => decide (4 ≤ code.toNat)

/-- R17: Set Line Parameters. -/
def serveSetLineParameters (p : PortId) (g : SegId) (a : LineParamsArg) (s : State) : State :=
  if badSpeed a.speed then refuseRequest p .badRequest s
  else if (s.seg g).state ≠ .halted then refuseRequest p .segmentRunning s
  else
    let w := (s.seg g).params.write a
    let t := s.modSeg g fun y => { y with params := w.1 }
    let u := if a.threshold.isSome then garbleReset g t else t
    answer p .done (lineParamsField w.1 fun k => mark w.2[k.val]) u

/-- R15: Halt Segment. -/
def serveHaltSegment (p : PortId) (g : SegId) (s : State) : State :=
  match (s.seg g).state with
  | .halted => answer p .done [] s
  | .starting => answer p .done [] (haltNow g s)
  | .faulted => answer p .done [] (haltNow g s)
  | .running =>
    if (s.seg g).exchange.isNone then answer p .done [] (haltNow g s)
    else s.modSeg g fun y => { y with haltPending := true, haltWaiters := y.haltWaiters ++ [p] }

/-- R16: a Halted or Faulted segment is resumed. -/
def resumeNow (g : SegId) (s : State) : State :=
  let t := garbleReset g s
  let u := t.forSlots (t.slotsOf g) absentByRequest
  enterStarting g (u.modSeg g fun y => { y with pointer := none })

/-- R16: Resume Segment. -/
def serveResumeSegment (p : PortId) (g : SegId) (s : State) : State :=
  match (s.seg g).state with
  | .halted => answer p .done [] (resumeNow g s)
  | .faulted => answer p .done [] (resumeNow g s)
  | .starting => refuseRequest p .refusedInState s
  | .running => refuseRequest p .refusedInState s

/-! ## Meter Folding Unit and Collection Unit (R79, R84, R91) -/

/-- R79: Read Audits. -/
def serveReadAudits (p : PortId) (slot : Byte) (view : AuditView) (s : State) : State :=
  match slotOf slot with
  | none => refuseRequest p .badRequest s
  | some i =>
    if !(s.slot i).listed then refuseRequest p .notListed s
    else answer p .done (auditBody s (s.slot i) view) s

/-- R91: Close All. -/
def closeAll (p : PortId) (s : State) : State :=
  let slots := s.listedSlots
  let free := slots.filter fun i => (s.slot i).close == .idle
  let record := slots.map fun i => (i, if (s.slot i).close = .idle then CloseResult.pending else .tableBusy)
  let t := s.modPort p fun x => { x with closeAll := some record }
  settleCloseAll p (t.forSlots free fun i u => startClose i p true u)

/-- R84, R91: Close Period. -/
def serveClosePeriod (p : PortId) (slot : Byte) (s : State) : State :=
  if slot = 0 then chooseBoth (closeAll p s)
  else match slotOf slot with
    | none => refuseRequest p .badRequest s
    | some i =>
      if !(s.slot i).listed then refuseRequest p .notListed s
      else if (s.slot i).close ≠ .idle then refuseRequest p .tableBusy s
      else choose (s.slot i).seg (startClose i p false s)

/-! ## Settings Image Manager (R104 to R109) -/

/-- R104: Read Settings. -/
def serveReadSettings (p : PortId) (slot : Byte) (s : State) : State :=
  match slotOf slot with
  | none => refuseRequest p .badRequest s
  | some i =>
    if !(s.slot i).listed then refuseRequest p .notListed s
    else answer p .done (settingsAnswer i (s.slot i)) s

/-- R105: Read Draft. -/
def serveReadDraft (p : PortId) (slot : Byte) (reserve : Bool) (s : State) : State :=
  match slotOf slot with
  | none => refuseRequest p .badRequest s
  | some i =>
    if !(s.slot i).listed then refuseRequest p .notListed s
    else
      let t := if reserve then s.modPort p fun x => { x with reservation := some i } else s
      answer p .done (draftAnswer i t) t

/-- R106: the first check of Set Items that fails, none when the request is accepted. -/
def setItemsRefusal (p : PortId) (slot : Byte) (pairs : List (Byte × Half)) (s : State) : Option Status :=
  match slotOf slot with
  | none => some .badRequest
  | some i =>
    let x := s.slot i
    if pairs.length = 0 ∨ 16 < pairs.length ∨ pairs.any (fun e => e.1 == 0) then some .badRequest
    else if !x.listed then some .notListed
    else match x.identity with
      | none => some .notIdentified
      | some r =>
        if pairs.any (fun e => decide (r.ranges.length < e.1.toNat)) then some .badRequest
        else if x.draft.state = .queued ∨ x.draft.state = .delivering ∨ x.active.isNone then some .refusedInState
        else if (s.port p).reservation ≠ some i then some .noReservation
        else none

/-- R107: the value that a pair writes. -/
def itemValue (r : Identity) (e : Byte × Half) : Nat :=
  match r.range e.1.toNat with
  | none => e.2.toNat
  | some range => clampTo range e.2.toNat

/-- R107: a pair is written into a draft. -/
def Draft.setItem (d : Draft) (r : Identity) (e : Byte × Half) : Draft :=
  { d with
    values := d.values.set (e.1.toNat - 1) (itemValue r e)
    touched := d.touched.set (e.1.toNat - 1) true }

/-- R107: what the answer to Set Items carries for a pair. -/
def itemField (r : Identity) (e : Byte × Half) : List Byte :=
  [e.1] ++ be2 (itemValue r e) ++ mark (itemValue r e != e.2.toNat)

/-- R107: an accepted Set Items. -/
def setItems (p : PortId) (i : SlotIx) (r : Identity) (pairs : List (Byte × Half)) (s : State) : State :=
  let x := s.slot i
  let draft := { pairs.foldl (fun d e => d.setItem r e) x.draft with state := .edited }
  let cleared := (s.port (otherPort p)).reservation == some i
  let t := s.modSlot i fun y => { y with draft := draft, confirmed := false }
  let u := if cleared then t.modPort (otherPort p) fun y => { y with reservation := none } else t
  let v := if x.regItem ≠ 0 ∧ pairs.any (fun e => e.1.toNat == x.regItem) then resetWindow i (dropOutcome i u) else u
  answer p .done
    (listField (itemField r) pairs ++ be1 (draftStateCode .edited) ++ mark cleared) v

/-- R106, R107: Set Items. -/
def serveSetItems (p : PortId) (slot : Byte) (pairs : List (Byte × Half)) (s : State) : State :=
  match setItemsRefusal p slot pairs s, slotOf slot with
  | some status, _ => refuseRequest p status s
  | none, none => refuseRequest p .badRequest s
  | none, some i =>
    match (s.slot i).identity with
    | none => refuseRequest p .notIdentified s
    | some r => setItems p i r pairs s

/-- R108: the first check of Submit Draft that fails. -/
def submitRefusal (p : PortId) (i : SlotIx) (priority : Byte) (s : State) : Option Status :=
  let x := s.slot i
  if 7 < priority.toNat then some .badRequest
  else if !x.listed then some .notListed
  else if x.draft.state ≠ .edited then some .refusedInState
  else if x.draft.baseMoved then some .baseMoved
  else if (s.port p).reservation ≠ some i then some .noReservation
  else none

/-- R118: the origin of a master's submission. -/
def originOf : PortId → EntryOrigin
  | .collector => .collector
  | .office => .office

/-- R108: an accepted Submit Draft. -/
def submitDraft (p : PortId) (i : SlotIx) (priority : Byte) (s : State) : State :=
  let x := s.slot i
  if x.active = some x.draft.values then
    let t := offerOutcome i (clearReservations i (s.modSlot i Slot.withCleanDraft))
    choose x.seg (answer p .nothingToDeliver [] t)
  else
    let t := joinQueue i priority.toNat (originOf p) (setDraftState i .queued s)
    choose x.seg (answer p .done [] (clearReservations i (t.modSlot i fun y => { y with confirmed := false })))

/-- R108: Submit Draft. -/
def serveSubmitDraft (p : PortId) (slot priority : Byte) (s : State) : State :=
  match slotOf slot with
  | none => refuseRequest p .badRequest s
  | some i =>
    match submitRefusal p i priority s with
    | some status => refuseRequest p status s
    | none => submitDraft p i priority s

/-- R109: an accepted Discard Draft. -/
def discardDraft (p : PortId) (i : SlotIx) (s : State) : State :=
  let t := offerOutcome i (clearReservations i (s.modSlot i Slot.withCleanDraft))
  choose (s.slot i).seg (answer p .done [] t)

/-- R109: Discard Draft. -/
def serveDiscardDraft (p : PortId) (slot : Byte) (s : State) : State :=
  match slotOf slot with
  | none => refuseRequest p .badRequest s
  | some i =>
    if !(s.slot i).listed then refuseRequest p .notListed s
    else match (s.slot i).draft.state with
      | .queued => refuseRequest p .refusedInState s
      | .delivering => refuseRequest p .refusedInState s
      | .clean => discardDraft p i s
      | .edited => discardDraft p i s

/-! ## Delivery Engine (R133) -/

/-- R133: the withdrawal mark is set on the entry of a Delivering draft. -/
def markWithdrawal (p : PortId) (i : SlotIx) (s : State) : State :=
  modEntry i (fun e => { e with withdrawal := true, withdrawPort := some p }) s

/-- R133: a withdrawal mark is set on the slot's entry. -/
def State.withdrawalPending (s : State) (i : SlotIx) : Bool :=
  match s.entry i with
  | none => false
  | some e => e.withdrawal

/-- R133: Withdraw Delivery. -/
def serveWithdrawDelivery (p : PortId) (slot : Byte) (s : State) : State :=
  match slotOf slot with
  | none => refuseRequest p .badRequest s
  | some i =>
    if !(s.slot i).listed then refuseRequest p .notListed s
    else match (s.slot i).draft.state with
      | .queued => withdrawEntry i (some p) s
      | .delivering =>
        if s.withdrawalPending i then refuseRequest p .refusedInState s else markWithdrawal p i s
      | .clean =>
        if (s.slot i).confirmed then answer p .tooLate (slotField i) s else refuseRequest p .refusedInState s
      | .edited => refuseRequest p .refusedInState s

/-! ## Fault and Alert Unit (R158 to R165) -/

/-- R158: the roster that a roster field names: 0 to 16, none for any other value. -/
def rosterOf (b : Byte) : Option (Fin 17) := if h : b.toNat < 17 then some ⟨b.toNat, h⟩ else none

/-- R158: the roster may be read: roster 0, or that of a listed slot. -/
def rosterReadable (n : Fin 17) (s : State) : Bool :=
  if h : n.val = 0 then true else (s.slot ⟨n.val - 1, by omega⟩).listed

/-- R158: Read Faults. -/
def serveReadFaults (p : PortId) (roster : Byte) (s : State) : State :=
  match rosterOf roster with
  | none => refuseRequest p .badRequest s
  | some n =>
    if rosterReadable n s then answer p .done (faultsAnswer (s.roster n)) s else refuseRequest p .notListed s

/-- R159: a record matches an acknowledgement. -/
def ackMatches (key : Option FaultKey) (x : FaultRecord) : Bool :=
  match key with
  | none => true
  | some k => x.key == k

/-- R159: a roster after an acknowledgement: matching Gone records removed, matching Open records acknowledged,
Overflowed clear. -/
def FaultRoster.acknowledge (r : FaultRoster) (key : Option FaultKey) : FaultRoster :=
  let gone := (r.records.filter fun x => ackMatches key x && x.state == .gone).map FaultRecord.key
  { records := (r.records.filter fun x => !(ackMatches key x && x.state == .gone)).map fun x =>
      if ackMatches key x then { x with acked := true } else x
    recency := r.recency.filter fun k => !gone.contains k
    overflowed := false }

/-- R159: Acknowledge Faults. -/
def serveAcknowledgeFaults (p : PortId) (roster : Byte) (key : Option FaultKey) (s : State) : State :=
  match rosterOf roster with
  | none => refuseRequest p .badRequest s
  | some n =>
    if rosterReadable n s then
      let r := s.roster n
      let count (st : FaultState) : Nat := r.records.countP fun x => ackMatches key x && x.state == st
      answer p .done (be1 (count .gone) ++ be1 (count .opened)) (putRoster n (r.acknowledge key) s)
    else refuseRequest p .notListed s

/-- R161: the rule numbers are 1 to 8, none given twice. -/
def ruleNumbersOk (l : List (Byte × Option WatchRule)) : Bool :=
  l.all (fun x => decide (1 ≤ x.1.toNat ∧ x.1.toNat ≤ 8)) && decide (l.map Prod.fst).Nodup

/-- R161: the watch table after the present items are written. -/
def WatchTable.write (w : WatchTable) (a : WatchArg) : WatchTable :=
  { mode := a.mode.getD w.mode
    presence := a.presence.getD w.presence
    rules := Vector.ofFn fun k : Fin 8 =>
      match a.rules.find? fun x => x.1.toNat == k.val + 1 with
      | none => w.rules[k.val]
      | some x => x.2 }

/-- R161: Set Watch Rules. -/
def serveSetWatchRules (p : PortId) (a : WatchArg) (s : State) : State :=
  if ruleNumbersOk a.rules then
    let t := enqueuePage 0 { s with watch := s.watch.write a }
    answer p .done (watchAnswer t.watch) t
  else refuseRequest p .badRequest s

/-- R165: Take Alerts. -/
def serveTakeAlerts (p : PortId) (count : Byte) (s : State) : State :=
  let n := count.toNat
  if 1 ≤ n ∧ n ≤ 8 then
    answer p .done (alertsAnswer (s.alerts.take n) s.overrun)
      { s with alerts := s.alerts.drop n, overrun := false }
  else refuseRequest p .badRequest s

/-! ## Store Controller (R174) -/

/-- R174: Acknowledge Store Fault. -/
def serveAcknowledgeStoreFault (p : PortId) (s : State) : State :=
  match s.store.state with
  | .ready => answer p .done [] s
  | .degraded => answer p .done [] (s.modStore fun t => { t with state := .ready })
  | .stopped => refuseRequest p .storeStopped s
  | .loading => refuseRequest p .busy s

/-! ## Taking a request (R182, R183, R185) -/

/-- R186: a request is handed to its serving block. -/
def serve (p : PortId) : Request → State → State
  | .readStatus => serveReadStatus p
  | .setClock v => serveSetClock p v
  | .restartHub => serveRestartHub p
  | .readRoster slot => serveReadRoster p slot
  | .writeRosterEntry slot e => serveWriteRosterEntry p slot e
  | .removeTable slot => serveRemoveTable p slot
  | .setRegulation slot a => serveSetRegulation p slot a
  | .setLineParameters g a => serveSetLineParameters p g a
  | .haltSegment g => serveHaltSegment p g
  | .resumeSegment g => serveResumeSegment p g
  | .readAudits slot view => serveReadAudits p slot view
  | .closePeriod slot => serveClosePeriod p slot
  | .readSettings slot => serveReadSettings p slot
  | .readDraft slot reserve => serveReadDraft p slot reserve
  | .setItems slot pairs => serveSetItems p slot pairs
  | .submitDraft slot priority => serveSubmitDraft p slot priority
  | .discardDraft slot => serveDiscardDraft p slot
  | .withdrawDelivery slot => serveWithdrawDelivery p slot
  | .readFaults roster => serveReadFaults p roster
  | .acknowledgeFaults roster key => serveAcknowledgeFaults p roster key
  | .setWatchRules a => serveSetWatchRules p a
  | .takeAlerts count => serveTakeAlerts p count
  | .acknowledgeStoreFault => serveAcknowledgeStoreFault p

/-- R183: the port's request slot takes a request of a kind. -/
def holdRequest (p : PortId) (kind : Byte) (s : State) : State := s.modPort p fun x => { x with request := some kind }

/-- R182: the refusal that a frame of a kind meets before it is read: Busy while the store is Loading or the port
has a request in progress. -/
def frameRefusal (p : PortId) (s : State) : Option Status :=
  if s.store.state = .loading then some .busy
  else if (s.port p).request.isSome then some .busy
  else none

/-- R182: a refusal answer, which has no other effect. -/
def refuseFrame (p : PortId) (kind : Byte) (status : Status) (s : State) : State :=
  s.modPort p fun x => x.refuse kind status

/-- R182 steps 2, 3 and 5, R185: a request arrives on a port as a frame that passes its check (log 4). -/
def takeRequest (p : PortId) (r : Request) (s : State) : State :=
  if !(s.port p).plugged then s
  else match frameRefusal p s with
    | some status => refuseFrame p (requestKind r) status s
    | none => serve p r (holdRequest p (requestKind r) s)

/-- R182: a complete frame is checked, and is taken or answered with a refusal. -/
def takeFrame (p : PortId) (frame : List Byte) (s : State) : State :=
  let kind := frameKind frame
  if !framePasses frame then refuseFrame p kind .frameRejected s
  else match frameRefusal p s with
    | some status => refuseFrame p kind status s
    | none =>
      if !knownKind kind then refuseFrame p kind .badRequest s
      else
        let t := holdRequest p kind s
        match parseRequest kind (frameBody frame) with
        | none => refuseRequest p .badRequest t
        | some r => serve p r t

end Sys2Proof.Machine
end

