-- ==== Sys2Proof/Machine/PartEvents.lean ====
section
/-! DEFINITION. The commands that are events of the part itself: power, the clock, the external store and the master
ports (chapters 5, 10 and 11): one meaning per row of the table. -/

namespace Sys2Proof.Machine

/-! ## Power and the clock (R175, R81) -/

/-- R175: supply is applied. The line-fault inputs are levels at the part's pins and stay as they are (log 21). -/
def powerOn (node : BitVec 6) (speed : BitVec 2) (s : State) : State :=
  State.powerOn node speed s.segA.inputs s.segB.inputs s.pending

/-- POWER_ON. -/
def execPowerOn (node : BitVec 6) (speed : BitVec 2) (s : State) : Host.Outcome State Fault Refusal :=
  .next (pumpStore (powerOn node speed s))

/-- R81, R37, R83, R30: a second ends: the clock rises and wraps, the timers count it (log 6), and a timer that has run
out lets the chooser of its segment choose. -/
def clockTick (s : State) : State :=
  chooseBoth { s with clock := s.clock + 1, slots := s.slots.map Slot.tick }

/-- CLOCK_TICK. -/
def execClockTick (s : State) : Host.Outcome State Fault Refusal := .next (pumpStore (clockTick s))

/-- R87: the closing timer expires: a close in Polling ends without final reading. -/
def execClosingTimeout (i : SlotIx) (s : State) : Host.Outcome State Fault Refusal :=
  .next (pumpStore (endPolling i false s))

/-! ## The load (R176) -/

/-- R176: a read of the page being loaded completes. -/
def storePageRead (bytes : List Byte) (s : State) : State :=
  if s.store.state = .loading then readCompletes bytes s else s

/-- STORE_PAGE_READ. -/
def execStorePageRead (bytes : List Byte) (s : State) : Host.Outcome State Fault Refusal :=
  .next (pumpStore (storePageRead bytes s))

/-- R176: a read of the page being loaded does not complete within 25 ms. -/
def pageReadTimeout (s : State) : State := if s.store.state = .loading then readFails s else s

/-- PAGE_READ_TIMEOUT. -/
def execPageReadTimeout (s : State) : Host.Outcome State Fault Refusal := .next (pumpStore (pageReadTimeout s))

/-! ## Page writes (R170) -/

/-- R170: the attempt in flight, if any, ends, with the bytes read back or (none) with a transfer that ran out of
time. -/
def attemptEnds (readback : Option (List Byte)) (s : State) : State :=
  match s.store.inFlight with
  | none => s
  | some w => endAttempt (readback == some w.bytes) w s

/-- STORE_WRITE_VERIFY. -/
def execStoreWriteVerify (readback : List Byte) (s : State) : Host.Outcome State Fault Refusal :=
  .next (pumpStore (attemptEnds (some readback) s))

/-- STORE_TRANSFER_TIMEOUT. -/
def execStoreTransferTimeout (s : State) : Host.Outcome State Fault Refusal :=
  .next (pumpStore (attemptEnds none s))

/-! ## Reception (R181, R182) -/

/-- The receiver of a port takes a state. -/
def setReceiver (p : PortId) (r : Receiver) (s : State) : State := s.modPort p fun x => { x with receiver := r }

/-- R181: one more byte of the receive buffer: the frame is discarded, complete or goes on. -/
def storeByte (p : PortId) (buffer : List Byte) (s : State) : State :=
  let n := byteAt buffer 0
  if n < 4 ∨ 160 < n then setReceiver p .hunting s
  else if buffer.length = n then takeFrame p buffer (setReceiver p .hunting s)
  else setReceiver p (.assembling buffer) s

/-- R181, R185: a byte arrives on a port's receive line. -/
def portByte (p : PortId) (b : Byte) (framingError : Bool) (s : State) : State :=
  if !(s.port p).plugged then s
  else if framingError then setReceiver p .hunting s
  else match (s.port p).receiver with
    | .hunting => if b = 0x5A then setReceiver p (.assembling []) s else s
    | .assembling buffer => storeByte p (buffer ++ [b]) s

/-- PORT_BYTE_RECEIVED. -/
def execPortByteReceived (p : PortId) (b : Byte) (framingError : Bool) (s : State) :
    Host.Outcome State Fault Refusal :=
  .next (pumpStore (portByte p b framingError s))

/-- R181, R182: a whole frame arrives on a port, from its length byte to its check (log 4). -/
def requestFrame (p : PortId) (frame : List Byte) (s : State) : State :=
  if !(s.port p).plugged then s
  else if frameWhole frame then takeFrame p frame (setReceiver p .hunting s)
  else setReceiver p .hunting s

/-- REQUEST_FRAME. -/
def execRequestFrame (p : PortId) (frame : List Byte) (s : State) : Host.Outcome State Fault Refusal :=
  .next (pumpStore (requestFrame p frame s))

/-- R181: more than 5 ms pass within a frame: a frame being assembled is discarded. -/
def frameByteTimeout (p : PortId) (s : State) : State := setReceiver p .hunting s

/-- FRAME_BYTE_TIMEOUT. -/
def execFrameByteTimeout (p : PortId) (s : State) : Host.Outcome State Fault Refusal :=
  .next (pumpStore (frameByteTimeout p s))

/-! ## Transmission (R183, R184) -/

/-- R183, R184: the last byte of the answer in transmission has been sent: the request it answers ends, and the next
waiting answer is sent. -/
def Port.sent (x : Port) : Port :=
  match x.transmitting with
  | none => x
  | some a =>
    { x with
      request := if a.own then none else x.request
      transmitting := x.waiting.head?, waiting := x.waiting.tail }

/-- R184, R185: an answer has been sent. An unplugged port sends nothing. -/
def answerSent (p : PortId) (s : State) : State :=
  if (s.port p).plugged then s.modPort p Port.sent else s

/-- ANSWER_SENT. -/
def execAnswerSent (p : PortId) (s : State) : Host.Outcome State Fault Refusal := .next (pumpStore (answerSent p s))

/-! ## The Collector plug (R185) -/

/-- A request of the Collector that has been dropped: its answer will be discarded. -/
def withoutCollector : Option PortId → Option PortId
  | some .office => some .office
  | some .collector => none
  | none => none

/-- R93: a close whose request is dropped goes on. -/
def CloseRecord.orphaned : CloseRecord → CloseRecord
  | .idle => .idle
  | .polling port ofAll timer => .polling (withoutCollector port) ofAll timer
  | .storing port ofAll final kept => .storing (withoutCollector port) ofAll final kept

/-- R15: a pending halt no longer answers the Collector. -/
def Segment.orphaned (y : Segment) : Segment :=
  { y with haltWaiters := y.haltWaiters.filter fun q => q != PortId.collector }

/-- R185: the Collector's port when it becomes Unplugged. -/
def Port.unplug (x : Port) : Port :=
  { x with
    receiver := .hunting, request := none, transmitting := none, waiting := []
    reservation := none, closeAll := none, plugged := false }

/-- R185, R93, R136, R15: the Collector is unplugged: its port lets go of everything, and the work of a request that
was in progress goes on without it. -/
def unplugCollector (s : State) : State :=
  if s.collector.plugged then
    { s with
      collector := s.collector.unplug
      segA := s.segA.orphaned, segB := s.segB.orphaned
      slots := s.slots.map fun x => { x with close := x.close.orphaned }
      queue := s.queue.map fun e => { e with withdrawPort := withoutCollector e.withdrawPort } }
  else s

/-- COLLECTOR_UNPLUGGED. -/
def execCollectorUnplugged (s : State) : Host.Outcome State Fault Refusal := .next (pumpStore (unplugCollector s))

/-- R185: the Collector is plugged in: the receiver begins Hunting. -/
def plugCollector (s : State) : State :=
  if s.collector.plugged then s
  else s.modPort .collector fun x => { x with plugged := true, receiver := .hunting }

/-- COLLECTOR_PLUGGED. -/
def execCollectorPlugged (s : State) : Host.Outcome State Fault Refusal := .next (pumpStore (plugCollector s))

end Sys2Proof.Machine
end

