-- ==== Sys2Proof/Machine/Requests.lean ====
section
/-! DEFINITION. The commands that are requests of a master (R186): one meaning per row of the table. A request row
stands for a frame of that request that passes its check and arrives on the port (log 4). -/

namespace Sys2Proof.Machine

/-- READ_STATUS (R188). -/
def execReadStatus (p : PortId) (s : State) : Host.Outcome State Fault Refusal :=
  .next (pumpStore (takeRequest p .readStatus s))

/-- SET_CLOCK (R82). -/
def execSetClock (p : PortId) (value : BitVec 32) (s : State) : Host.Outcome State Fault Refusal :=
  .next (pumpStore (takeRequest p (.setClock value) s))

/-- RESTART_HUB (R179). -/
def execRestartHub (p : PortId) (s : State) : Host.Outcome State Fault Refusal :=
  .next (pumpStore (takeRequest p .restartHub s))

/-- READ_ROSTER (R43). -/
def execReadRoster (p : PortId) (slot : Byte) (s : State) : Host.Outcome State Fault Refusal :=
  .next (pumpStore (takeRequest p (.readRoster slot) s))

/-- WRITE_ROSTER_ENTRY (R40, R41). -/
def execWriteRosterEntry (p : PortId) (slot : Byte) (entry : RosterArg) (s : State) :
    Host.Outcome State Fault Refusal :=
  .next (pumpStore (takeRequest p (.writeRosterEntry slot entry) s))

/-- REMOVE_TABLE (R42). -/
def execRemoveTable (p : PortId) (slot : Byte) (s : State) : Host.Outcome State Fault Refusal :=
  .next (pumpStore (takeRequest p (.removeTable slot) s))

/-- SET_REGULATION (R140). -/
def execSetRegulation (p : PortId) (slot : Byte) (arg : RegulationArg) (s : State) :
    Host.Outcome State Fault Refusal :=
  .next (pumpStore (takeRequest p (.setRegulation slot arg) s))

/-- SET_LINE_PARAMETERS (R17). -/
def execSetLineParameters (p : PortId) (seg : SegId) (arg : LineParamsArg) (s : State) :
    Host.Outcome State Fault Refusal :=
  .next (pumpStore (takeRequest p (.setLineParameters seg arg) s))

/-- HALT_SEGMENT (R15). -/
def execHaltSegment (p : PortId) (seg : SegId) (s : State) : Host.Outcome State Fault Refusal :=
  .next (pumpStore (takeRequest p (.haltSegment seg) s))

/-- RESUME_SEGMENT (R16). -/
def execResumeSegment (p : PortId) (seg : SegId) (s : State) : Host.Outcome State Fault Refusal :=
  .next (pumpStore (takeRequest p (.resumeSegment seg) s))

/-- READ_AUDITS (R79). -/
def execReadAudits (p : PortId) (slot : Byte) (view : AuditView) (s : State) :
    Host.Outcome State Fault Refusal :=
  .next (pumpStore (takeRequest p (.readAudits slot view) s))

/-- CLOSE_PERIOD (R84, R91). -/
def execClosePeriod (p : PortId) (slot : Byte) (s : State) : Host.Outcome State Fault Refusal :=
  .next (pumpStore (takeRequest p (.closePeriod slot) s))

/-- READ_SETTINGS (R104). -/
def execReadSettings (p : PortId) (slot : Byte) (s : State) : Host.Outcome State Fault Refusal :=
  .next (pumpStore (takeRequest p (.readSettings slot) s))

/-- READ_DRAFT (R105). -/
def execReadDraft (p : PortId) (slot : Byte) (reserve : Bool) (s : State) :
    Host.Outcome State Fault Refusal :=
  .next (pumpStore (takeRequest p (.readDraft slot reserve) s))

/-- SET_ITEMS (R106, R107). -/
def execSetItems (p : PortId) (slot : Byte) (pairs : List (Byte × Half)) (s : State) :
    Host.Outcome State Fault Refusal :=
  .next (pumpStore (takeRequest p (.setItems slot pairs) s))

/-- SUBMIT_DRAFT (R108). -/
def execSubmitDraft (p : PortId) (slot : Byte) (priority : Byte) (s : State) :
    Host.Outcome State Fault Refusal :=
  .next (pumpStore (takeRequest p (.submitDraft slot priority) s))

/-- DISCARD_DRAFT (R109). -/
def execDiscardDraft (p : PortId) (slot : Byte) (s : State) : Host.Outcome State Fault Refusal :=
  .next (pumpStore (takeRequest p (.discardDraft slot) s))

/-- WITHDRAW_DELIVERY (R133). -/
def execWithdrawDelivery (p : PortId) (slot : Byte) (s : State) : Host.Outcome State Fault Refusal :=
  .next (pumpStore (takeRequest p (.withdrawDelivery slot) s))

/-- READ_FAULTS (R158). -/
def execReadFaults (p : PortId) (roster : Byte) (s : State) : Host.Outcome State Fault Refusal :=
  .next (pumpStore (takeRequest p (.readFaults roster) s))

/-- ACKNOWLEDGE_FAULTS (R159). -/
def execAcknowledgeFaults (p : PortId) (roster : Byte) (key : Option FaultKey) (s : State) :
    Host.Outcome State Fault Refusal :=
  .next (pumpStore (takeRequest p (.acknowledgeFaults roster key) s))

/-- SET_WATCH_RULES (R161). -/
def execSetWatchRules (p : PortId) (arg : WatchArg) (s : State) : Host.Outcome State Fault Refusal :=
  .next (pumpStore (takeRequest p (.setWatchRules arg) s))

/-- TAKE_ALERTS (R165). -/
def execTakeAlerts (p : PortId) (count : Byte) (s : State) : Host.Outcome State Fault Refusal :=
  .next (pumpStore (takeRequest p (.takeAlerts count) s))

/-- ACKNOWLEDGE_STORE_FAULT (R174). -/
def execAcknowledgeStoreFault (p : PortId) (s : State) : Host.Outcome State Fault Refusal :=
  .next (pumpStore (takeRequest p .acknowledgeStoreFault s))

end Sys2Proof.Machine
end

