-- ==== Sys2Proof/Machine/Dispatch.lean ====
section
/-! DEFINITION. One arm per command: the meaning of each row of spec/opcode_table.json. -/

namespace Sys2Proof.Machine

def exec (i : Instr) (s : State) : Host.Outcome State Fault Refusal :=
  match i with
  | .powerOn node speed => Sys2Proof.Machine.execPowerOn node speed s
  | .storePageRead bytes => Sys2Proof.Machine.execStorePageRead bytes s
  | .pageReadTimeout => Sys2Proof.Machine.execPageReadTimeout s
  | .clockTick => Sys2Proof.Machine.execClockTick s
  | .dueTimerRun slot timer => Sys2Proof.Machine.execDueTimerRun slot timer s
  | .transmitFrame seg => Sys2Proof.Machine.execTransmitFrame seg s
  | .guardEnd seg => Sys2Proof.Machine.execGuardEnd seg s
  | .collision seg cause => Sys2Proof.Machine.execCollision seg cause s
  | .answerWindowExpiry seg => Sys2Proof.Machine.execAnswerWindowExpiry seg s
  | .answerComplete seg gs status rest => Sys2Proof.Machine.execAnswerComplete seg gs status rest s
  | .completionDeadline seg => Sys2Proof.Machine.execCompletionDeadline seg s
  | .quietWaitEnd seg => Sys2Proof.Machine.execQuietWaitEnd seg s
  | .hardLimit seg => Sys2Proof.Machine.execHardLimit seg s
  | .strayCharacter seg char => Sys2Proof.Machine.execStrayCharacter seg char s
  | .lineFaultAsserted seg kind => Sys2Proof.Machine.execLineFaultAsserted seg kind s
  | .lineFaultDeasserted seg kind => Sys2Proof.Machine.execLineFaultDeasserted seg kind s
  | .driverStuck seg => Sys2Proof.Machine.execDriverStuck seg s
  | .startIdleElapsed seg => Sys2Proof.Machine.execStartIdleElapsed seg s
  | .closingTimeout slot => Sys2Proof.Machine.execClosingTimeout slot s
  | .storeWriteVerify readback => Sys2Proof.Machine.execStoreWriteVerify readback s
  | .storeTransferTimeout => Sys2Proof.Machine.execStoreTransferTimeout s
  | .requestFrame port frame => Sys2Proof.Machine.execRequestFrame port frame s
  | .frameByteTimeout port => Sys2Proof.Machine.execFrameByteTimeout port s
  | .answerSent port => Sys2Proof.Machine.execAnswerSent port s
  | .collectorUnplugged => Sys2Proof.Machine.execCollectorUnplugged s
  | .collectorPlugged => Sys2Proof.Machine.execCollectorPlugged s
  | .readStatus port => Sys2Proof.Machine.execReadStatus port s
  | .setClock port value => Sys2Proof.Machine.execSetClock port value s
  | .restartHub port => Sys2Proof.Machine.execRestartHub port s
  | .readRoster port slot => Sys2Proof.Machine.execReadRoster port slot s
  | .writeRosterEntry port slot entry => Sys2Proof.Machine.execWriteRosterEntry port slot entry s
  | .removeTable port slot => Sys2Proof.Machine.execRemoveTable port slot s
  | .setRegulation port slot arg => Sys2Proof.Machine.execSetRegulation port slot arg s
  | .setLineParameters port seg arg => Sys2Proof.Machine.execSetLineParameters port seg arg s
  | .haltSegment port seg => Sys2Proof.Machine.execHaltSegment port seg s
  | .resumeSegment port seg => Sys2Proof.Machine.execResumeSegment port seg s
  | .readAudits port slot view => Sys2Proof.Machine.execReadAudits port slot view s
  | .closePeriod port slot => Sys2Proof.Machine.execClosePeriod port slot s
  | .readSettings port slot => Sys2Proof.Machine.execReadSettings port slot s
  | .readDraft port slot reserve => Sys2Proof.Machine.execReadDraft port slot reserve s
  | .setItems port slot pairs => Sys2Proof.Machine.execSetItems port slot pairs s
  | .submitDraft port slot priority => Sys2Proof.Machine.execSubmitDraft port slot priority s
  | .discardDraft port slot => Sys2Proof.Machine.execDiscardDraft port slot s
  | .withdrawDelivery port slot => Sys2Proof.Machine.execWithdrawDelivery port slot s
  | .readFaults port roster => Sys2Proof.Machine.execReadFaults port roster s
  | .acknowledgeFaults port roster key => Sys2Proof.Machine.execAcknowledgeFaults port roster key s
  | .setWatchRules port arg => Sys2Proof.Machine.execSetWatchRules port arg s
  | .takeAlerts port count => Sys2Proof.Machine.execTakeAlerts port count s
  | .acknowledgeStoreFault port => Sys2Proof.Machine.execAcknowledgeStoreFault port s
  | .answerCharacterTaken seg char => Sys2Proof.Machine.execAnswerCharacterTaken seg char s
  | .portByteReceived port byte framingError => Sys2Proof.Machine.execPortByteReceived port byte framingError s

end Sys2Proof.Machine
end

