-- ==== Sys2Proof/WellFormed.lean ====
section
/-! DEFINITION. The well-formed commands: those whose operands have the sizes that the rules give them. The types of
the operands hold every other bound. -/

namespace Sys2Proof

/-- R168, R170, R176: a page is 256 bytes. -/
def pageSized (bytes : List Byte) : Bool := bytes.length == 256

/-- R5, R19: the character of a frame that an echo is compared with is one of at most 30. -/
def causeOk : CollisionCause → Bool
  | .echo position _ => decide (position < 30)
  | .guardStart => true

/-- R3: the rest of an answer's body, after the game-state and the status. -/
def restOk (rest : List Byte) : Bool := decide (rest.length ≤ 318)

/-- R181: as many pairs of Set Items as the body of a frame can carry. -/
def pairsOk (pairs : List (Byte × Half)) : Bool := decide (pairs.length ≤ 51)

/-- R161: a request carries at most eight rules. -/
def rulesOk (rules : List (Byte × Option WatchRule)) : Bool := decide (rules.length ≤ 8)

/-- A request that a frame can carry. -/
def Request.wf : Request → Bool
  | .readStatus => true
  | .setClock _ => true
  | .restartHub => true
  | .readRoster _ => true
  | .writeRosterEntry _ _ => true
  | .removeTable _ => true
  | .setRegulation _ _ => true
  | .setLineParameters _ _ => true
  | .haltSegment _ => true
  | .resumeSegment _ => true
  | .readAudits _ _ => true
  | .closePeriod _ => true
  | .readSettings _ => true
  | .readDraft _ _ => true
  | .setItems _ pairs => pairsOk pairs
  | .submitDraft _ _ => true
  | .discardDraft _ => true
  | .withdrawDelivery _ => true
  | .readFaults _ => true
  | .acknowledgeFaults _ _ => true
  | .setWatchRules arg => rulesOk arg.rules
  | .takeAlerts _ => true
  | .acknowledgeStoreFault => true

/-- The command that is the row of a request, on a port (R186). -/
def requestCommand (p : PortId) : Request → Instr
  | .readStatus => .readStatus p
  | .setClock v => .setClock p v
  | .restartHub => .restartHub p
  | .readRoster slot => .readRoster p slot
  | .writeRosterEntry slot e => .writeRosterEntry p slot e
  | .removeTable slot => .removeTable p slot
  | .setRegulation slot a => .setRegulation p slot a
  | .setLineParameters g a => .setLineParameters p g a
  | .haltSegment g => .haltSegment p g
  | .resumeSegment g => .resumeSegment p g
  | .readAudits slot view => .readAudits p slot view
  | .closePeriod slot => .closePeriod p slot
  | .readSettings slot => .readSettings p slot
  | .readDraft slot reserve => .readDraft p slot reserve
  | .setItems slot pairs => .setItems p slot pairs
  | .submitDraft slot priority => .submitDraft p slot priority
  | .discardDraft slot => .discardDraft p slot
  | .withdrawDelivery slot => .withdrawDelivery p slot
  | .readFaults roster => .readFaults p roster
  | .acknowledgeFaults roster key => .acknowledgeFaults p roster key
  | .setWatchRules arg => .setWatchRules p arg
  | .takeAlerts count => .takeAlerts p count
  | .acknowledgeStoreFault => .acknowledgeStoreFault p

/-- A well-formed command. -/
def Instr.wf : Instr → Bool
  | .powerOn _ _ => true
  | .storePageRead bytes => pageSized bytes
  | .pageReadTimeout => true
  | .clockTick => true
  | .dueTimerRun _ _ => true
  | .transmitFrame _ => true
  | .guardEnd _ => true
  | .collision _ cause => causeOk cause
  | .answerWindowExpiry _ => true
  | .answerComplete _ _ _ rest => restOk rest
  | .completionDeadline _ => true
  | .quietWaitEnd _ => true
  | .hardLimit _ => true
  | .strayCharacter _ _ => true
  | .lineFaultAsserted _ _ => true
  | .lineFaultDeasserted _ _ => true
  | .driverStuck _ => true
  | .startIdleElapsed _ => true
  | .closingTimeout _ => true
  | .storeWriteVerify readback => pageSized readback
  | .storeTransferTimeout => true
  | .requestFrame _ frame => Machine.frameWhole frame
  | .frameByteTimeout _ => true
  | .answerSent _ => true
  | .collectorUnplugged => true
  | .collectorPlugged => true
  | .readStatus _ => true
  | .setClock _ _ => true
  | .restartHub _ => true
  | .readRoster _ _ => true
  | .writeRosterEntry _ _ _ => true
  | .removeTable _ _ => true
  | .setRegulation _ _ _ => true
  | .setLineParameters _ _ _ => true
  | .haltSegment _ _ => true
  | .resumeSegment _ _ => true
  | .readAudits _ _ _ => true
  | .closePeriod _ _ => true
  | .readSettings _ _ => true
  | .readDraft _ _ _ => true
  | .setItems _ _ pairs => pairsOk pairs
  | .submitDraft _ _ _ => true
  | .discardDraft _ _ => true
  | .withdrawDelivery _ _ => true
  | .readFaults _ _ => true
  | .acknowledgeFaults _ _ _ => true
  | .setWatchRules _ arg => rulesOk arg.rules
  | .takeAlerts _ _ => true
  | .acknowledgeStoreFault _ => true
  | .answerCharacterTaken _ _ => true
  | .portByteReceived _ _ _ => true

end Sys2Proof
end

