-- ==== Sys2Proof/Safety.lean ====
section
/-! DEFINITION. What the claims speak of: the invariants of a state, a port that can take a request, and the answers
that requests give. -/

namespace Sys2Proof.Machine

/-! ## Capacities (R152, R164, R169) -/

/-- R152: every fault roster holds at most 12 records. -/
def State.rostersFit (s : State) : Bool :=
  decide (s.hubFaults.records.length ≤ Config.rosterCapacity)
    && allSlots.all fun i => decide ((s.slot i).faults.records.length ≤ Config.rosterCapacity)

/-- R164: the alert queue holds at most 32 alerts. -/
def State.alertsFit (s : State) : Bool := decide (s.alerts.length ≤ Config.alertCapacity)

/-! ## Segments (R12 to R15, R132) -/

/-- R13, R132: a segment that is not Running has no exchange in flight, no delivery in flight and no halt pending; the
driver is enabled only for an exchange in flight; a halt is pending only while an exchange is in flight (R15). -/
def Segment.sound (x : Segment) : Bool :=
  (x.state == .running || (x.exchange.isNone && x.delivery.isNone && !x.haltPending))
    && (!x.driverOn || x.exchange.isSome) && (!x.haltPending || x.exchange.isSome)
    && (x.haltPending || x.haltWaiters.isEmpty)

/-- Both segments are sound. -/
def State.segmentsSound (s : State) : Bool := s.segA.sound && s.segB.sound

/-! ## The delivery queue (R118) -/

/-- A slot has an entry in the delivery queue. -/
def State.hasEntry (s : State) (i : SlotIx) : Bool := s.queue.any fun e => e.slot == i

/-- R118: a draft that is Queued or Delivering. -/
def Slot.submitted (x : Slot) : Bool := x.draft.state == .queued || x.draft.state == .delivering

/-- A slot has a delivery in flight on its segment. -/
def State.delivers (s : State) (i : SlotIx) : Bool :=
  match (s.seg (s.slot i).seg).delivery with
  | none => false
  | some d => d.slot == i

/-- R122: a delivery in flight is to a listed slot of its own segment. -/
def State.deliveryPlaced (s : State) (g : SegId) : Bool :=
  match (s.seg g).delivery with
  | none => true
  | some d => (s.slot d.slot).seg == g && (s.slot d.slot).inService

/-- R19: the blocks for which a frame is sent. -/
def HubFrame.sentFor : HubFrame → List Asker
  | .presenceProbe => [.roster]
  | .identify => [.roster]
  | .meterPoll => [.meterFolding, .roster, .collection]
  | .faultPoll _ => [.faultAndAlert]
  | .itemFrame _ => [.delivery]
  | .checkQuery _ => [.delivery, .settings]
  | .readbackRequest _ => [.settings, .roster]

/-- R4, R19: an exchange in flight is to a listed slot of its segment, for a block that its frame is sent for. -/
def State.exchangePlaced (s : State) (g : SegId) : Bool :=
  match (s.seg g).exchange with
  | none => true
  | some x => (s.slot x.slot).seg == g && (s.slot x.slot).listed && x.frame.sentFor.contains x.asker

/-- R31: an exchange of a delivery is to the slot of the delivery in flight, and while a delivery is in flight no
other exchange is. -/
def Segment.exchangeFits (x : Segment) : Bool :=
  match x.exchange, x.delivery with
  | none, _ => true
  | some e, none => e.asker != .delivery
  | some e, some d => e.asker == .delivery && e.slot == d.slot

/-- R118, R122: the delivery queue, the drafts and the deliveries in flight agree. -/
def State.queueCoherent (s : State) : Bool :=
  decide (s.queue.map DeliveryEntry.slot).Nodup
    && allSlots.all (fun i =>
        s.hasEntry i == (s.slot i).submitted && ((s.slot i).draft.state == .delivering) == s.delivers i
          && ((s.slot i).listed || (s.slot i).draft.state == .clean))
    && s.deliveryPlaced .a && s.deliveryPlaced .b && s.exchangePlaced .a && s.exchangePlaced .b
    && s.segA.exchangeFits && s.segB.exchangeFits

/-- R175, R118: while the store is Loading, both segments are Halted and the delivery queue is empty. -/
def State.loadingQuiet (s : State) : Bool :=
  s.store.state != .loading || (s.segA.state == .halted && s.segB.state == .halted && s.queue.isEmpty)

/-! ## The Store Controller between steps (R169, R170) -/

/-- R169: no page waits or is deferred. -/
def Store.idle (t : Store) : Bool := t.waiting.isEmpty && t.lowestDeferred.isNone

/-- R169, R170: the Store Controller has nothing left to do: no waiting entry could be issued, and no deferred page
could take a free place. -/
def Store.quiet (t : Store) : Bool :=
  !t.writing
    || ((t.inFlight.isSome || t.waiting.isEmpty)
        && (decide (Config.writeCapacity ≤ t.waiting.length) || t.lowestDeferred.isNone))

/-- R169, R170, R173: the write queue holds at most 8 waiting entries, no two for the same page and none for a
deferred page; the Store Controller has nothing left to do; and a store that makes no writes holds none. -/
def Store.sound (t : Store) : Bool :=
  decide (t.waiting.length ≤ Config.writeCapacity) && decide (t.waiting.map WriteEntry.page).Nodup
    && t.waiting.all (fun e => !(t.page e.page).deferred) && t.quiet
    && (t.writing || (t.idle && t.inFlight.isNone))

/-! ## Writes asked for (R169) -/

/-- R169, R170: a write of a page with a content is on its way: it waits, it is in flight, or the page is deferred and
takes its content when a place is free. -/
def Store.bound (t : Store) (p : PageIx) (content : List Byte) : Bool :=
  t.waiting.any (fun e => e.page == p && e.snapshot == content)
    || (match t.inFlight with
        | none => false
        | some w => w.page == p && w.snapshot == content)
    || (t.page p).deferred

/-- R169, R172: a write of a page is on its way that carries the tag of a group. -/
def Store.boundIn (t : Store) (p : PageIx) (tag : Nat) : Bool :=
  t.waiting.any (fun e => e.page == p && e.tags.contains tag)
    || (match t.inFlight with
        | none => false
        | some w => w.page == p && w.tags.contains tag)
    || ((t.page p).deferred && (t.page p).deferredTags.contains tag)

/-- The waiting entries of pages other than some, in order. -/
def Store.waitingBut (t : Store) (ps : List PageIx) : List WriteEntry := t.waiting.filter fun e => !ps.contains e.page

/-- R169, R170: a write of a page has just been issued: its first attempt, with the generation after the one held. -/
def Store.issued (before after : Store) (s : State) (p : PageIx) : Prop :=
  (∃ tags, after.inFlight = some
      { page := p, generation := (before.page p).generation + 1, snapshot := pageBody s p, tags := tags, attempt := 1 })
    ∧ (after.page p).generation = (before.page p).generation + 1
    ∧ ∀ q, q ≠ p → (after.page q).generation = (before.page q).generation

/-- R169, R170: between two stores, the writes of some pages were asked for with the content that a state gives them,
and of no other page. The bad marks stay, and so do the entries and marks of every other page; the entries keep their
order. A write in flight stays, with every generation; where none was, one of the pages asked for is issued. A store
that makes no writes is left as it is. -/
def Store.askedFor (before after : Store) (s : State) (ps : List PageIx) : Prop :=
  after.state = before.state ∧ after.formatted = before.formatted ∧ after.nodeMismatch = before.nodeMismatch
    ∧ after.groups = before.groups ∧ after.load = before.load
    ∧ (before.writing = false ∨ ps = [] → after = before)
    ∧ (before.writing = true →
        (∀ p ∈ ps, after.bound p (pageBody s p) = true)
          ∧ (∀ p, (after.page p).bad = (before.page p).bad)
          ∧ (∀ p, p ∉ ps → after.page p = before.page p)
          ∧ after.waitingBut ps = before.waitingBut ps
          ∧ before.waiting.map WriteEntry.page <+: after.waiting.map WriteEntry.page
          ∧ (before.inFlight.isSome = true → after.inFlight = before.inFlight
              ∧ ∀ p, (after.page p).generation = (before.page p).generation)
          ∧ (before.inFlight = none → ps ≠ [] → ∃ p ∈ ps, before.issued after s p))

/-- R89, R172: between two stores, the group of a slot's close was made, with a tag that no other group has, and its two
pages were asked for, each in the group. -/
def Store.grouped (before after : Store) (s : State) (i : SlotIx) : Prop :=
  ∃ k, (∀ g ∈ before.groups, g.tag ≠ k)
    ∧ ({ before with groups := before.groups ++ [{ slot := i, tag := k, failed := false, abandoned := false }] } :
        Store).askedFor after s [bookPage i, closedPage i]
    ∧ after.boundIn (bookPage i) k = true ∧ after.boundIn (closedPage i) k = true

/-! ## Requests (R182 to R184) -/

/-- R182: a request frame on the port would be taken. -/
def State.takes (s : State) (p : PortId) : Bool := (s.port p).plugged && (frameRefusal p s).isNone

/-- R183, R184: a request of a kind has been taken on a port and answered in the taking. -/
def answered (p : PortId) (kind : Byte) (status : Status) (body : List Byte) (s : State) : State :=
  s.modPort p fun x =>
    { x with request := some kind }.hand { kind := kind, status := status, body := body, own := true }

/-- R187: a status is a refusal. -/
def Status.refusal (st : Status) : Bool := decide (16 ≤ st.code.toNat)

/-- R184, R185: an answer waits only behind one in transmission; at most one refusal waits; an unplugged port holds no
request, no answer, no reservation and no Close All record, and its receiver hunts. -/
def Port.sound (x : Port) : Bool :=
  (x.transmitting.isSome || x.waiting.isEmpty) && decide (x.waiting.countP (fun a => !a.own) ≤ 1)
    && (x.plugged || (x.receiver == .hunting && x.request.isNone && x.transmitting.isNone && x.reservation.isNone
        && x.closeAll.isNone))

/-- Both ports are sound, and the Office Port is always connected (R185). -/
def State.portsSound (s : State) : Bool := s.collector.sound && s.office.sound && s.office.plugged

/-! ## The invariants of every step -/

/-- R13, R118, R122, R175: the segments, the deliveries, the drafts and the delivery queue agree. -/
def State.coherent (s : State) : Bool := s.segmentsSound && s.queueCoherent && s.loadingQuiet

/-- R152, R164: the rosters and the alert queue are within their capacities. -/
def State.capacitiesKept (s : State) : Bool := s.rostersFit && s.alertsFit

/-! ## Ranges (R17, R60, R62, R138) -/

/-- R17: the line parameters are in their ranges. -/
def LineParams.inRange (x : LineParams) : Prop :=
  x.guard ≤ 15 ∧ (2 ≤ x.window ∧ x.window ≤ 50) ∧ (1 ≤ x.threshold ∧ x.threshold ≤ 254)
    ∧ (1 ≤ x.faultInt ∧ x.faultInt ≤ 60) ∧ (5 ≤ x.meterInt ∧ x.meterInt ≤ 600)
    ∧ (60 ≤ x.checkInt ∧ x.checkInt ≤ 3600) ∧ (2 ≤ x.probeInt ∧ x.probeInt ≤ 60)

/-- R138: a numeric Lmin or Lmax is at least `lo` and at most 65535. -/
def Limit.inRange (lo : Nat) : Limit → Prop
  | .follow => True
  | .value v => lo ≤ v ∧ v ≤ 65535

/-- R138, R139: the regulation parameters are in their ranges; a limit is 0 where an item range of 0 to 0 made it so. -/
def RegParams.inRange (r : RegParams) : Prop :=
  (50 ≤ r.target ∧ r.target ≤ 500) ∧ r.deadband ≤ 100 ∧ (50 ≤ r.window ∧ r.window ≤ 1000)
    ∧ (1 ≤ r.step ∧ r.step ≤ 100) ∧ r.lmin.inRange 0 ∧ r.lmax.inRange r.lmin.least ∧ r.priority ≤ 7

/-- R60: a total is a 32-bit number. -/
def Total.inRange (t : Total) : Prop := t.val ≤ Config.totalCeiling

/-- R60, R62: the numbers of a book are in their ranges. -/
def Book.inRange (b : Book) : Prop :=
  (∀ m : Fin 24, b.current[m.val].inRange ∧ b.closed[m.val].inRange ∧ b.lifetime[m.val].inRange)
    ∧ b.paid ≤ 65535 ∧ b.award ≤ 65535 ∧ b.discont ≤ 65535

/-- R60: the current-period total of every meter is at most its lifetime total. -/
def Book.lawful (b : Book) : Prop := ∀ m : Fin 24, b.current[m.val].val ≤ b.lifetime[m.val].val

/-- R152: no two records of a roster share a key, and the recency order lists each record once. -/
def FaultRoster.keyed (r : FaultRoster) : Prop :=
  (r.records.map FaultRecord.key).Nodup ∧ r.recency.Perm (r.records.map FaultRecord.key)

/-! ## Outcomes -/

/-- A command gives the state `e`, but for the store, of which it has asked for the writes of some pages. -/
def nextAsking (c : Instr) (s e : State) (ps : List PageIx) : Prop :=
  ∃ u : Store, exec c s = .next { e with store := u } ∧ s.store.askedFor u e ps

/-- A command gives the state `e`, but for the store as in `nextAsking`, with the choice of a segment's scheduler made
in it (R30). -/
def nextChoosing (c : Instr) (s : State) (g : SegId) (e : State) (ps : List PageIx) : Prop :=
  ∃ u : Store, exec c s = .next (choose g { e with store := u }) ∧ s.store.askedFor u e ps

/-- The next state of an outcome, if it is one. -/
def nextOf (o : Host.Outcome State Fault Refusal) : Option State :=
  match o with
  | .next t => some t
  | .fault _ => none
  | .refused _ => none

/-- Runs a list of commands in order. -/
def runAll : List Instr → State → State
  | [], s => s
  | c :: cs, s =>
    match exec c s with
    | .next t => runAll cs t
    | .fault _ => s
    | .refused _ => s

end Sys2Proof.Machine
end

