-- ==== Sys2Proof/Certificates/Slice0/Obligations.lean ====
section
/-! DEFINITION. The statements for the provers, from the numbered rules of the spec. A statement about a result gives
the whole next state, so that it is its own frame. `s.store.quiet` says that the Store Controller has nothing left to
do, which holds of every state that a step leaves (StoreSoundKept). -/

open Sys2Proof Sys2Proof.Machine

/-! ## The step and its invariants -/

/-- A step runs the command at the front of the queue; on an empty queue the block idles (the model's choice, log 2). -/
def Obligations.StepRunsFrontCommand : Prop :=
  (∀ (c : Instr) (rest : List Instr) (s : State), s.pending = c :: rest → step s = exec c (s.withPending rest))
    ∧ ∀ s : State, s.pending = [] → step s = .next s

/-- Every command gives a next state in every state, and leaves the commands that wait as they are. That a command
whose event the present state rules out gives one too is the model's choice (log 3). -/
def Obligations.EveryCommandGoesOn : Prop :=
  ∀ (c : Instr) (s : State), ∃ t, exec c s = .next t ∧ t.pending = s.pending

/-- R175, R17, R18, R81, R102, R138, R160, R163, R181: what POWER_ON leaves, whatever stood before: defaults
everywhere, the driver off, the Collector Unplugged and the Office connected, the line-fault inputs as they were (log
21). Reset is such a state; its strap pins are the model's choice (log 1) and so are the values its slots hold before
the load (log 22). R175, R166: the status outputs on the strap pins as one number, by the store state, the Noisy marks
and the segment states; they follow the state (log 27). -/
def Obligations.PowerOnLeaves : Prop :=
  (∀ (node : BitVec 6) (speed : BitVec 2) (s : State), ∃ t, exec (.powerOn node speed) s = .next t
    ∧ t.node = node ∧ t.speedStrap = speed ∧ t.clock = 0 ∧ t.clockUnset = true
    ∧ (∀ g, (t.seg g).state = .halted ∧ (t.seg g).haltPending = false ∧ (t.seg g).garble = 0
        ∧ (t.seg g).noisy = false ∧ (t.seg g).collisions = 0 ∧ (t.seg g).exchange = none
        ∧ (t.seg g).pointer = none ∧ (t.seg g).delivery = none ∧ (t.seg g).inputs = (s.seg g).inputs
        ∧ (t.seg g).driverOn = false ∧ (t.seg g).lineSpeed = speed
        ∧ (t.seg g).params = { speed := speed, guard := 2, window := 12, threshold := 31, faultInt := 5
                               meterInt := 30, checkInt := 300, probeInt := 10 })
    ∧ t.queue = [] ∧ t.hubFaults = { records := [], recency := [], overflowed := false }
    ∧ t.alerts = [{ kind := .presence, slot := 0, cls := none, code := 3, subject := none, hit := 0
                    stamp := { clock := 0, unset := true } }]
    ∧ t.overrun = false ∧ t.attention = true
    ∧ t.store.state = .loading ∧ t.store.load.page = 0 ∧ t.store.waiting = [] ∧ t.store.inFlight = none
    ∧ t.store.groups = [] ∧ (∀ q, (t.store.page q).bad = false)
    ∧ (∀ p, (t.port p).reservation = none ∧ (t.port p).request = none ∧ (t.port p).receiver = .hunting
        ∧ (t.port p).closeAll = none ∧ (t.port p).transmitting = none ∧ (t.port p).waiting = [])
    ∧ t.collector.plugged = false ∧ t.office.plugged = true ∧ t.store.formatted = false
    ∧ t.store.nodeMismatch = false
    ∧ t.watch = { mode := .openAll, rules := Vector.replicate 8 none, presence := true }
    ∧ (∀ i, (t.slot i).table = .unlisted ∧ (t.slot i).question = 0 ∧ (t.slot i).confirmed = false
        ∧ (t.slot i).active = none ∧ (t.slot i).draft.state = .clean ∧ (t.slot i).close = .idle
        ∧ (t.slot i).identity = none
        ∧ (t.slot i).reg = { enabled := false, target := 120, deadband := 15, window := 200, step := 5
                             lmin := .follow, lmax := .follow, priority := 6 })
    ∧ t.statusPins = 0 ∧ t.pending = s.pending)
  ∧ exec (.powerOn 0 0) State.reset = .next State.reset
  ∧ ∀ s : State,
      let line : SegState → Nat := fun x => match x with
        | .halted => 0
        | .starting => 1
        | .running => 2
        | .faulted => 3
      let stored : Nat := match s.store.state with
        | .loading => 0
        | .ready => 1
        | .degraded => 2
        | .stopped => 3
      s.statusPins.toNat = 64 * stored + 32 * s.segB.noisy.toNat + 16 * s.segA.noisy.toNat
        + 4 * line s.segB.state + line s.segA.state

/-- R13, R15, R31, R118, R122, R132, R175: every step keeps the agreement of the segments, the exchanges and
deliveries in flight, the drafts and the delivery queue. -/
def Obligations.CoherenceKept : Prop :=
  ∀ s t : State, s.coherent = true → step s = .next t → t.coherent = true

/-- R169, R170, R173: every step keeps the write queue within its 8 places, with no page twice and none that is also
deferred, and leaves the Store Controller with nothing that it could still issue or admit. -/
def Obligations.StoreSoundKept : Prop :=
  ∀ s t : State, s.store.sound = true → step s = .next t → t.store.sound = true

/-- R152, R164, R17: every step keeps the rosters within 12 records and the alert queue within 32 alerts, and the line
parameters of both segments in their ranges. -/
def Obligations.CapacitiesAndRangesKept : Prop :=
  (∀ s t : State, s.capacitiesKept = true → step s = .next t → t.capacitiesKept = true)
  ∧ (∀ s t : State, s.segA.params.inRange ∧ s.segB.params.inRange → step s = .next t →
      t.segA.params.inRange ∧ t.segB.params.inRange)

/-- R182, R184, R185: every step keeps the ports sound: answers in turn, one refusal waiting at most, and nothing held
by an unplugged port. -/
def Obligations.PortsSoundKept : Prop :=
  ∀ s t : State, s.portsSound = true → step s = .next t → t.portsSound = true

/-- The invariants hold at reset. -/
def Obligations.InvariantsHoldAtReset : Prop :=
  State.reset.coherent = true ∧ State.reset.store.sound = true ∧ State.reset.capacitiesKept = true
    ∧ State.reset.portsSound = true ∧ State.reset.segA.params.inRange ∧ State.reset.segB.params.inRange

/-! ## Frames, answers and their encodings -/

/-- R186 and the request layouts of chapter 11: reading the body that a master sends for a request gives the request
back, with every field at every value. -/
def Obligations.RequestBodiesRoundTrip : Prop :=
  ∀ r : Request, r.wf = true → parseRequest (requestKind r) (requestBody r) = some r

/-- R181, R182, R186: the whole frame of a request on a connected port does what the request's own row does (that a
row stands for such a frame is the model's choice, log 4). -/
def Obligations.FrameServesRequest : Prop :=
  ∀ (p : PortId) (r : Request) (s : State), r.wf = true → (s.port p).plugged = true →
    exec (.requestFrame p (requestFrameBytes r)) s = exec (requestCommand p r) (setReceiver p .hunting s)

/-- R181: a start character and then the bytes of a frame, one by one on a hunting port, do what the whole frame does
(that the table's whole-frame row stands for the bytes is the model's choice, log 4). -/
def Obligations.BytesMakeFrame : Prop :=
  ∀ (p : PortId) (frame : List Byte) (s : State), (s.port p).plugged = true → (s.port p).receiver = .hunting →
    s.store.quiet = true → frameWhole frame = true →
    exec (.requestFrame p frame) s
      = .next (runAll (.portByteReceived p 0x5A false :: frame.map fun b => .portByteReceived p b false) s)

/-- R3, R6: the characters of a well-formed answer, one by one from the answer window on, do what the whole answer
does (that the table's whole-answer row stands for the characters is the model's choice, log 4). -/
def Obligations.CharactersMakeAnswer : Prop :=
  ∀ (g : SegId) (s : State) (x : Exchange) (gs : GameState) (status : AnswerStatus) (rest : List Byte),
    (s.seg g).exchange = some x → x.phase = .window → x.received = [] → 1 ≤ x.address ∧ x.address ≤ 8 →
    rest.length ≤ 318 → s.store.quiet = true →
    exec (.answerComplete g gs status rest) s
      = .next (runAll ((answerBytes x.address x.frame.answerKind gs status rest).map fun b =>
          .answerCharacterTaken g (goodChar b false)) s)

/-- R2, R125, R181: the worked words of the spec: the Meter Poll's data characters 3, 0, 0, 253; the check word 20501
of items 3 and 0 asked with 5; the frame of Read Status (length 4, kind 1, check the two's complement of 5). -/
def Obligations.WordsOfTheSpec : Prop :=
  HubFrame.meterPoll.dataBytes = [3, 0, 0, 253] ∧ checkWord [3, 0] 5 = 20501
    ∧ requestFrameBytes .readStatus = [0x04, 0x01, 0xFF, 0xFB]
    ∧ framePasses [0x04, 0x01, 0xFF, 0xFB] = true
    ∧ parseRequest 0x09 [0x01] = some (.haltSegment .b)
    ∧ parseRequest 0x10 [0x07, 0x02] = some (.submitDraft 0x07 0x02)
    ∧ parseRequest 0x0F [0x02, 0x01, 0x05, 0x01, 0x2C] = some (.setItems 2 [(5, 300)])
    ∧ parseRequest 0x09 [0x02] = none ∧ parseRequest 0x18 [] = none

/-! ## Requests that are turned away -/

/-- R182, R184, R187: a request whose answer is a refusal changes nothing but its own port (shown for a port with no
answer in transmission). -/
def Obligations.RefusedRequestsChangeNothing : Prop :=
  ∀ (p : PortId) (r : Request) (s t : State) (a : Answer), s.takes p = true → s.store.quiet = true →
    (s.port p).transmitting = none → exec (requestCommand p r) s = .next t →
    (t.port p).transmitting = some a → a.status.refusal = true →
    t = answered p (requestKind r) a.status [] s

/-- R182: a request on a connected port that has a request in progress, or while the store is Loading, is answered
Busy and changes nothing else. -/
def Obligations.BusyPortRefuses : Prop :=
  ∀ (p : PortId) (r : Request) (s : State), (s.port p).plugged = true → s.store.quiet = true →
    (s.store.state = .loading ∨ (s.port p).request.isSome = true) →
    ∃ x : Port, exec (requestCommand p r) s = .next (s.setPort p x) ∧ x.request = (s.port p).request
      ∧ x.reservation = (s.port p).reservation ∧ x.closeAll = (s.port p).closeAll
      ∧ x.receiver = (s.port p).receiver ∧ x.plugged = true
      ∧ ((s.port p).transmitting = none → x.waiting = (s.port p).waiting
          ∧ x.transmitting = some { kind := requestKind r, status := .busy, body := [], own := false })
      ∧ (∀ a, (s.port p).transmitting = some a → x.transmitting = some a
          ∧ x.waiting = if (s.port p).waiting.any (fun a => !a.own) then (s.port p).waiting
              else (s.port p).waiting ++ [{ kind := requestKind r, status := .busy, body := [], own := false }])

/-- R40, R42, R79, R84, R104, R105, R106, R108, R109, R133, R140: a slot field outside 1 to 16 is Bad Request. An
Unlisted slot is Not Listed, where the request needs a listed one (R158, R159 among them). -/
def Obligations.SlotFieldIsChecked : Prop :=
  (∀ (p : PortId) (slot : Byte) (s : State), s.takes p = true → s.store.quiet = true →
      (slot = 0 ∨ 16 < slot.toNat) →
      (∀ e, exec (.writeRosterEntry p slot e) s = .next (answered p 5 .badRequest [] s))
      ∧ exec (.removeTable p slot) s = .next (answered p 6 .badRequest [] s)
      ∧ (∀ a, exec (.setRegulation p slot a) s = .next (answered p 7 .badRequest [] s))
      ∧ (∀ v, exec (.readAudits p slot v) s = .next (answered p 11 .badRequest [] s))
      ∧ (slot ≠ 0 → exec (.closePeriod p slot) s = .next (answered p 12 .badRequest [] s))
      ∧ exec (.readSettings p slot) s = .next (answered p 13 .badRequest [] s)
      ∧ (∀ o, exec (.readDraft p slot o) s = .next (answered p 14 .badRequest [] s))
      ∧ (∀ l, exec (.setItems p slot l) s = .next (answered p 15 .badRequest [] s))
      ∧ (∀ q, exec (.submitDraft p slot q) s = .next (answered p 16 .badRequest [] s))
      ∧ exec (.discardDraft p slot) s = .next (answered p 17 .badRequest [] s)
      ∧ exec (.withdrawDelivery p slot) s = .next (answered p 18 .badRequest [] s))
  ∧ (∀ (p : PortId) (slot : Byte) (i : SlotIx) (s : State), s.takes p = true → s.store.quiet = true →
      slot.toNat = i.val + 1 → (s.slot i).table = .unlisted →
      exec (.removeTable p slot) s = .next (answered p 6 .notListed [] s)
      ∧ (∀ a, exec (.setRegulation p slot a) s = .next (answered p 7 .notListed [] s))
      ∧ (∀ v, exec (.readAudits p slot v) s = .next (answered p 11 .notListed [] s))
      ∧ exec (.closePeriod p slot) s = .next (answered p 12 .notListed [] s)
      ∧ exec (.readSettings p slot) s = .next (answered p 13 .notListed [] s)
      ∧ (∀ o, exec (.readDraft p slot o) s = .next (answered p 14 .notListed [] s))
      ∧ exec (.discardDraft p slot) s = .next (answered p 17 .notListed [] s)
      ∧ exec (.withdrawDelivery p slot) s = .next (answered p 18 .notListed [] s)
      ∧ exec (.readFaults p slot) s = .next (answered p 19 .notListed [] s)
      ∧ (∀ k, exec (.acknowledgeFaults p slot k) s = .next (answered p 20 .notListed [] s)))

/-! ## The table line -/

/-- R4, R5, R6: the transmission begins, the guard ends, the completion deadline passes. A start bit in the guard, a
missing echo, an echo that differs from the character sent or one with a character error is a collision: the count
rises and the exchange is found Garbled, the driver staying on for the guard. An echo that agrees changes nothing. -/
def Obligations.TransmissionPhases : Prop :=
  (∀ (g : SegId) (s : State) (x : Exchange), s.store.quiet = true → (s.seg g).exchange = some x →
      ((s.seg g).state = .running → x.phase = .waiting →
        exec (.transmitFrame g) s
          = .next (s.setSeg g { s.seg g with driverOn := true, exchange := some { x with phase := .sending } }))
      ∧ (x.phase = .sending →
        exec (.guardEnd g) s
          = .next (s.setSeg g { s.seg g with driverOn := false, exchange := some { x with phase := .window } }))
      ∧ (x.phase = .garbled → exec (.guardEnd g) s = .next (s.setSeg g { s.seg g with driverOn := false }))
      ∧ (x.phase = .answer →
        exec (.completionDeadline g) s
          = .next (s.setSeg g { s.seg g with exchange := some { x with phase := .garbled } })))
  ∧ (∀ (g : SegId) (s : State) (x : Exchange), s.store.quiet = true → (s.seg g).exchange = some x →
      x.phase = .sending →
      let t := s.setSeg g { s.seg g with
        collisions := min 65535 ((s.seg g).collisions + 1), exchange := some { x with phase := .garbled } }
      exec (.collision g .guardStart) s = .next t
      ∧ ∀ (n : Nat) (sent : LineChar), (frameChars x.address x.frame)[n]? = some sent →
        exec (.collision g (.echo n none)) s = .next t
        ∧ (∀ c : LineChar, c.data ≠ sent.data ∨ c.address ≠ sent.address ∨ c.stop = false
              ∨ c.parity ≠ parityOf c.data c.address →
            exec (.collision g (.echo n (some c))) s = .next t)
        ∧ exec (.collision g (.echo n (some sent))) s = .next s)

/-- R3, R6: a character of an answer: with a character error or the address bit, or wrong in its place, it makes the
exchange Garbled; otherwise the answer goes on. -/
def Obligations.AnswerCharacters : Prop :=
  ∀ (g : SegId) (s : State) (x : Exchange) (c : LineChar), s.store.quiet = true → (s.seg g).exchange = some x →
    x.phase = .window ∨ x.phase = .answer →
    let garbled := s.setSeg g { s.seg g with exchange := some { x with phase := .garbled } }
    let goesOn := s.setSeg g { s.seg g with
      exchange := some { x with phase := .answer, received := x.received ++ [c.data] } }
    let good := c.stop = true ∧ c.parity = parityOf c.data c.address ∧ c.address = false
    (¬ good → exec (.answerCharacterTaken g c) s = .next garbled)
    ∧ (good → x.received = [] →
        exec (.answerCharacterTaken g c) s = .next (if c.data.toNat = x.address then goesOn else garbled))
    ∧ (good → x.received.length = 1 →
        exec (.answerCharacterTaken g c) s
          = .next (if c.data.toNat = x.frame.kind + 128 then goesOn else garbled))
    ∧ (good → x.received.length = 2 → exec (.answerCharacterTaken g c) s = .next goesOn)
    ∧ (∀ a k h, good → x.received = [a, k, h] →
        exec (.answerCharacterTaken g c) s
          = .next (if 2 ≤ h.toNat * 256 + c.data.toNat ∧ h.toNat * 256 + c.data.toNat ≤ 320 then goesOn
              else garbled))
    ∧ (good → x.received.length = 4 →
        exec (.answerCharacterTaken g c) s = .next (if c.data.toNat ≤ 3 then goesOn else garbled))
    ∧ (good → x.received.length = 5 →
        exec (.answerCharacterTaken g c) s = .next (if c.data.toNat ≤ 2 then goesOn else garbled))
    ∧ (good → 6 ≤ x.received.length → x.received.length < 4 + halfAt x.received 2 →
        exec (.answerCharacterTaken g c) s = .next goesOn)
    ∧ (good → 6 ≤ x.received.length → 4 + halfAt x.received 2 ≤ x.received.length →
        sumBytes (x.received ++ [c.data]) % 256 ≠ 0 → exec (.answerCharacterTaken g c) s = .next garbled)

/-- R6 to R9, R45: how a routine Meter Poll to an Active table ends without a report: Silent adds 4 to the score and 1
to the silences; Garbled, by the quiet wait or the hard limit, adds 8 and raises the garble counter; a Refused answer
takes 1 from both, and its game-state is taken. Then the scheduler chooses. -/
def Obligations.FailedPollMovesScore : Prop :=
  ∀ (g : SegId) (s : State) (x : Exchange), s.store.quiet = true → (s.seg g).exchange = some x →
    (s.seg g).haltPending = false → x.frame = .meterPoll → x.asker = .meterFolding →
    (s.slot x.slot).table = .active →
    let y := s.slot x.slot
    let z := { s.seg g with exchange := none, driverOn := false }
    (x.phase = .window → y.score + 4 < 64 → y.silent + 1 < 8 →
      exec (.answerWindowExpiry g) s
        = .next (choose g ((s.setSeg g z).setSlot x.slot { y with score := y.score + 4, silent := y.silent + 1 })))
    ∧ (x.phase = .garbled → z.garble < z.params.threshold → (s.seg g).driverOn = false → y.score + 8 < 64 →
      let t := (s.setSeg g { z with garble := z.garble + 1 }).setSlot x.slot
        { y with score := y.score + 8, silent := 0 }
      exec (.quietWaitEnd g) s = .next (choose g t) ∧ exec (.hardLimit g) s = .next (choose g t))
    ∧ (∀ (gs : GameState) (status : AnswerStatus) (rest : List Byte), x.phase = .window → x.received = [] →
      rest.length ≤ 318 → status ≠ .accepted → y.score < 64 → z.noisy = false →
      exec (.answerComplete g gs status rest) s
        = .next (choose g ((s.setSeg g { z with garble := z.garble - 1 }).setSlot x.slot
            { y with
              score := y.score - 1, silent := 0, game := some gs
              localCheck := y.localCheck || (gs == .attract && y.game == some .service) })))

/-- R45 to R48: what an outcome makes of the state, the score and the silences of a table in Active or Caution. No
other slot changes. -/
def Obligations.LinkStateRule : Prop :=
  ∀ (i : SlotIx) (o : ExOutcome) (s : State), (s.slot i).table = .active ∨ (s.slot i).table = .caution →
    let x := s.slot i
    let y := (linkScore i o s).slot i
    let score := match o with
      | .silent => min 255 (x.score + 4)
      | .garbled => min 255 (x.score + 8)
      | .refused _ => x.score - 1
      | .good _ _ => x.score - 1
    let silent := match o with
      | .silent => x.silent + 1
      | .garbled => 0
      | .refused _ => 0
      | .good _ _ => 0
    (8 ≤ silent → y.table = .absent ∧ y.score = 0 ∧ y.silent = 0 ∧ y.goodProbes = 0 ∧ y.due.probe = 0)
    ∧ (silent < 8 → 160 ≤ score → y.table = .isolated ∧ y.score = score ∧ y.silent = 0 ∧ y.goodProbes = 0
        ∧ y.due.probe = 0)
    ∧ (silent < 8 → 64 ≤ score → score < 160 → y.table = .caution ∧ y.score = score ∧ y.silent = silent
        ∧ y.due = x.due)
    ∧ (silent < 8 → score < 64 → y.table = .active ∧ y.score = score ∧ y.silent = silent ∧ y.due = x.due)
    ∧ ∀ j, j ≠ i → (linkScore i o s).slot j = s.slot j

/-- R7, R9, R10: a character with an error outside an exchange raises the garble counter of a Starting or Running
segment; at the threshold it sets the Noisy mark and opens Segment/Noisy, once. In Halted and Faulted, and without an
error, it changes nothing. -/
def Obligations.StrayCharacters : Prop :=
  ∀ (g : SegId) (c : LineChar) (s : State), s.store.quiet = true →
    let bad := c.stop = false ∨ c.parity ≠ parityOf c.data c.address
    let y := s.seg g
    (bad → y.state = .starting ∨ (y.state = .running ∧ y.exchange = none) →
      (y.garble < y.params.threshold →
        exec (.strayCharacter g c) s = .next (s.setSeg g { y with garble := y.garble + 1 }))
      ∧ (y.garble = y.params.threshold → y.noisy = false →
        exec (.strayCharacter g c) s
          = .next (openCondition 0 { cls := 131, code := 3, subject := some (segByte g) }
              (s.setSeg g { y with noisy := true })))
      ∧ (y.garble = y.params.threshold → y.noisy = true → exec (.strayCharacter g c) s = .next s))
    ∧ (¬ bad ∨ y.state = .halted ∨ y.state = .faulted → exec (.strayCharacter g c) s = .next s)

/-- R11, R12, R14, R15: an asserted line-fault input of a Starting or Running segment, and a driver stuck in any
state, stop the segment: its record opens, it becomes Faulted, or Halted with a halt pending, with no exchange and no
delivery, the driver off; a draft in delivery returns to Queued, or to Edited under a withdrawal mark; the other
segment and the slots that neither was for are unchanged. With nothing in flight, and for an abandoned Meter Poll, the
whole state is given. A deasserted input ends its record; an input asserted while Halted is only noted, and while
Faulted opens its record. An exchange counts as in flight from its handing over, before it begins on
the line (log 9). -/
def Obligations.LineFaultStopsSegment : Prop :=
  ∀ (g : SegId) (s : State), s.store.quiet = true →
    let key (kind : LineFaultKind) : FaultKey :=
      { cls := 131, code := 1, subject := some (BitVec.ofNat 8 (16 * faultKindNumber kind) ||| segByte g) }
    let stuck : FaultKey := { cls := 131, code := 2, subject := some (segByte g) }
    let stops (c : Instr) (k : FaultKey) (inputs : LineInputs) : Prop :=
      ∃ t, exec c s = .next t
        ∧ t.hubFaults = (s.hubFaults.enter k .hub .condition { clock := s.clock, unset := s.clockUnset }).1
        ∧ (t.seg g).state = (if (s.seg g).haltPending then .halted else .faulted)
        ∧ (t.seg g).exchange = none ∧ (t.seg g).delivery = none ∧ (t.seg g).driverOn = false
        ∧ (t.seg g).haltPending = false ∧ (t.seg g).garble = (s.seg g).garble
        ∧ (t.seg g).inputs = inputs ∧ (t.seg g).params = (s.seg g).params
        ∧ (∀ h, h ≠ g → t.seg h = s.seg h)
        ∧ (∀ d e, (s.seg g).delivery = some d → s.entry d.slot = some e →
            (t.slot d.slot).draft.state = if e.withdrawal then .edited else .queued)
        ∧ ∀ j, (∀ e, (s.seg g).exchange = some e → e.slot ≠ j) → (∀ d, (s.seg g).delivery = some d → d.slot ≠ j) →
            t.slot j = s.slot j
    (∀ kind, (s.seg g).inputs.level kind = false → (s.seg g).state = .starting ∨ (s.seg g).state = .running →
      stops (.lineFaultAsserted g kind) (key kind) ((s.seg g).inputs.put kind true)
      ∧ ((s.seg g).exchange = none → (s.seg g).delivery = none → (s.seg g).haltPending = false →
        exec (.lineFaultAsserted g kind) s
          = .next (openCondition 0 (key kind) (s.setSeg g { s.seg g with
              state := .faulted, driverOn := false, inputs := (s.seg g).inputs.put kind true }))))
    ∧ (∀ kind, (s.seg g).inputs.level kind = false → (s.seg g).state = .halted →
      exec (.lineFaultAsserted g kind) s
        = .next (s.setSeg g { s.seg g with inputs := (s.seg g).inputs.put kind true }))
    ∧ (∀ kind, (s.seg g).inputs.level kind = false → (s.seg g).state = .faulted →
      exec (.lineFaultAsserted g kind) s
        = .next (openCondition 0 (key kind)
            (s.setSeg g { s.seg g with inputs := (s.seg g).inputs.put kind true })))
    ∧ (∀ kind, (s.seg g).inputs.level kind = true →
      exec (.lineFaultDeasserted g kind) s
        = .next { s.setSeg g { s.seg g with inputs := (s.seg g).inputs.put kind false } with
            hubFaults := s.hubFaults.finish (key kind) })
    ∧ ((s.seg g).driverOn = true →
      stops (.driverStuck g) stuck (s.seg g).inputs
      ∧ ((s.seg g).exchange = none → (s.seg g).delivery = none → (s.seg g).haltPending = false →
        exec (.driverStuck g) s
          = .next (openCondition 0 stuck (s.setSeg g { s.seg g with state := .faulted, driverOn := false })))
      ∧ ∀ x, (s.seg g).delivery = none → (s.seg g).exchange = some x → x.frame = .meterPoll →
        (s.seg g).haltPending = false →
        exec (.driverStuck g) s
          = .next (openCondition 0 stuck
              (s.setSeg g { s.seg g with state := .faulted, driverOn := false, exchange := none })))

/-- R12, R13, R30: after 20 ms of idle line a Starting segment becomes Running, Segment/Driver goes Gone, and the
scheduler chooses. R34, R36, R37: a timer that runs is at its interval (that the command raises it there is the
model's choice, log 6), and the scheduler chooses; the probe timer of the only listed table of an idle Running
segment, the table being Absent, sends it a Presence Probe. A segment that is not Starting and an Unlisted slot are
left as they are, which is the model's choice (log 3). -/
def Obligations.SchedulerWakes : Prop :=
  (∀ (g : SegId) (s : State), s.store.quiet = true →
      ((s.seg g).state = .starting →
        exec (.startIdleElapsed g) s
          = .next (choose g { s.setSeg g { s.seg g with state := .running } with
              hubFaults := s.hubFaults.finish { cls := 131, code := 2, subject := some (segByte g) } }))
      ∧ ((s.seg g).state ≠ .starting → exec (.startIdleElapsed g) s = .next s))
  ∧ (∀ (i : SlotIx) (s : State), s.store.quiet = true →
      let x := s.slot i
      let g := x.seg
      let p := (s.seg g).params
      (x.table ≠ .unlisted →
        exec (.dueTimerRun i .fault) s
          = .next (choose g (s.setSlot i { x with due := { x.due with fault := max x.due.fault p.faultInt } }))
        ∧ exec (.dueTimerRun i .meter) s
          = .next (choose g (s.setSlot i { x with due := { x.due with meter := max x.due.meter p.meterInt } }))
        ∧ exec (.dueTimerRun i .check) s
          = .next (choose g (s.setSlot i { x with due := { x.due with check := max x.due.check p.checkInt } }))
        ∧ exec (.dueTimerRun i .probe) s
          = .next (choose g (s.setSlot i { x with due := { x.due with
              probe := max x.due.probe (if x.table = .isolated then 30 else p.probeInt) } })))
      ∧ (x.table = .unlisted → ∀ t, exec (.dueTimerRun i t) s = .next s)
      ∧ (x.table = .absent → x.due.closing = false → (s.seg g).state = .running → (s.seg g).exchange = none →
        (s.seg g).haltPending = false → (s.seg g).delivery = none →
        (∀ j, j ≠ i → (s.slot j).seg = g → (s.slot j).table = .unlisted) →
        exec (.dueTimerRun i .probe) s
          = .next ((s.setSlot i { x with due := { x.due with probe := max x.due.probe p.probeInt } }).setSeg g
              { s.seg g with
                pointer := some i
                exchange := some { slot := i, address := x.addr, frame := .presenceProbe, asker := .roster
                                   phase := .waiting, received := [] } })))

/-! ## The requests of a segment -/

/-- R15: Halt Segment halts the segment and answers at once when no exchange is in flight (shown with no delivery in
flight); in Running with an exchange in flight it waits, and the end of the exchange halts the segment and answers.
R16, R11, R58: Resume Segment of a Halted or Faulted segment: the garble counter is 0 and the Noisy mark clear, its
listed tables are Absent with score 0 and their probe timers run, and it is Starting, or Faulted with an input still
asserted; the request is answered Done. In Starting and Running it is refused. An exchange handed over and not yet
begun counts as in flight (log 9), and the code in effect is the one written (R1, log 26). -/
def Obligations.HaltAndResume : Prop :=
  (∀ (p : PortId) (g : SegId) (s : State), s.takes p = true → s.store.quiet = true →
      ((s.seg g).state = .halted → exec (.haltSegment p g) s = .next (answered p 9 .done [] s))
      ∧ ((s.seg g).state ≠ .halted → (s.seg g).exchange = none → (s.seg g).delivery = none →
        (s.seg g).haltWaiters = [] →
        exec (.haltSegment p g) s
          = .next (answered p 9 .done []
              (s.setSeg g { s.seg g with state := .halted, haltPending := false, driverOn := false })))
      ∧ (∀ x, (s.seg g).state = .running → (s.seg g).exchange = some x →
        exec (.haltSegment p g) s
          = .next ((s.modPort p fun y => { y with request := some 9 }).setSeg g
              { s.seg g with haltPending := true, haltWaiters := (s.seg g).haltWaiters ++ [p] }))
      ∧ (∀ x, (s.seg g).state = .running → (s.seg g).exchange = some x → x.frame = .meterPoll →
        x.asker = .meterFolding → x.phase = .window → (s.slot x.slot).table = .active →
        (s.slot x.slot).score + 4 < 64 → (s.slot x.slot).silent + 1 < 8 → (s.seg g).delivery = none →
        (s.seg g).haltWaiters = [] →
        nextOf (exec (.haltSegment p g) s) >>= (fun u => nextOf (exec (.answerWindowExpiry g) u))
          = some (answered p 9 .done []
              ((s.setSeg g { s.seg g with
                  state := .halted, haltPending := false, driverOn := false, exchange := none }).setSlot x.slot
                { s.slot x.slot with
                  score := (s.slot x.slot).score + 4, silent := (s.slot x.slot).silent + 1 }))))
  ∧ (∀ (p : PortId) (g : SegId) (s : State), s.takes p = true → s.store.quiet = true →
      ((s.seg g).state = .halted ∨ (s.seg g).state = .faulted → (s.seg g).delivery = none →
        ∃ t, exec (.resumeSegment p g) s = .next t
          ∧ (t.seg g).garble = 0 ∧ (t.seg g).noisy = false ∧ (t.seg g).pointer = none
          ∧ (t.seg g).lineSpeed = (s.seg g).params.speed ∧ (t.seg g).params = (s.seg g).params
          ∧ (t.seg g).state = (if (s.seg g).inputs.bias || (s.seg g).inputs.short || (s.seg g).inputs.ground
              then .faulted else .starting)
          ∧ (∀ j, (s.slot j).table ≠ .unlisted → (s.slot j).seg = g →
              (t.slot j).table = .absent ∧ (t.slot j).score = 0 ∧ (t.slot j).silent = 0 ∧ (t.slot j).goodProbes = 0
                ∧ (t.slot j).join = none ∧ (t.slot j).due.probe = 3600 ∧ (t.slot j).due.more = false
                ∧ (t.slot j).book.baselines = (s.slot j).book.baselines ∧ (t.slot j).active = (s.slot j).active)
          ∧ (∀ j, (s.slot j).table = .unlisted ∨ (s.slot j).seg ≠ g → t.slot j = s.slot j)
          ∧ (∀ h, h ≠ g → t.seg h = s.seg h) ∧ t.queue = s.queue ∧ t.clock = s.clock
          ∧ (s.store.writing = true → (∀ q, q ≠ p → t.port q = s.port q)
              ∧ t.port p = Port.hand { s.port p with request := some 10 }
                  { kind := 10, status := .done, body := [], own := true }))
      ∧ ((s.seg g).state = .starting ∨ (s.seg g).state = .running →
        exec (.resumeSegment p g) s = .next (answered p 10 .refusedInState [] s)))

/-- R17, R10: Set Line Parameters of a Halted segment writes each field present, clamped into its range with the marks
of those clamped, and keeps the others; a written threshold sets the garble counter to 0 and ends Noisy. A code above
3 is Bad Request; a segment that is not Halted refuses. The answer's speed code is the one written (log 26), and where
the marks stand in it is the model's choice (log 11). -/
def Obligations.SetLineParameters : Prop :=
  ∀ (p : PortId) (g : SegId) (a : LineParamsArg) (s : State), s.takes p = true → s.store.quiet = true →
    let y := s.seg g
    let w : LineParams :=
      { speed := (a.speed.map fun c => c.setWidth 2).getD y.params.speed
        guard := (a.guard.map fun v => min v.toNat 15).getD y.params.guard
        window := (a.window.map fun v => max 2 (min v.toNat 50)).getD y.params.window
        threshold := (a.threshold.map fun v => max 1 (min v.toNat 254)).getD y.params.threshold
        faultInt := (a.faultInt.map fun v => max 1 (min v.toNat 60)).getD y.params.faultInt
        meterInt := (a.meterInt.map fun v => max 5 (min v.toNat 600)).getD y.params.meterInt
        checkInt := (a.checkInt.map fun v => max 60 (min v.toNat 3600)).getD y.params.checkInt
        probeInt := (a.probeInt.map fun v => max 2 (min v.toNat 60)).getD y.params.probeInt }
    ((∃ c, a.speed = some c ∧ 4 ≤ c.toNat) →
      exec (.setLineParameters p g a) s = .next (answered p 8 .badRequest [] s))
    ∧ ((∀ c, a.speed = some c → c.toNat < 4) → y.state ≠ .halted →
      exec (.setLineParameters p g a) s = .next (answered p 8 .segmentRunning [] s))
    ∧ ((∀ c, a.speed = some c → c.toNat < 4) → y.state = .halted →
      ∃ marks : Fin 8 → Bool,
        marks 0 = false ∧ (marks 1 = true ↔ ∃ v, a.guard = some v ∧ 15 < v.toNat)
        ∧ (marks 2 = true ↔ ∃ v, a.window = some v ∧ (v.toNat < 2 ∨ 50 < v.toNat))
        ∧ (marks 3 = true ↔ ∃ v, a.threshold = some v ∧ (v.toNat < 1 ∨ 254 < v.toNat))
        ∧ (marks 4 = true ↔ ∃ v, a.faultInt = some v ∧ (v.toNat < 1 ∨ 60 < v.toNat))
        ∧ (marks 5 = true ↔ ∃ v, a.meterInt = some v ∧ (v.toNat < 5 ∨ 600 < v.toNat))
        ∧ (marks 6 = true ↔ ∃ v, a.checkInt = some v ∧ (v.toNat < 60 ∨ 3600 < v.toNat))
        ∧ (marks 7 = true ↔ ∃ v, a.probeInt = some v ∧ (v.toNat < 2 ∨ 60 < v.toNat))
        ∧ exec (.setLineParameters p g a) s
          = .next (answered p 8 .done (lineParamsField w fun k => mark (marks k))
              (if a.threshold.isSome then
                { s.setSeg g { y with params := w, garble := 0, noisy := false } with
                  hubFaults := s.hubFaults.finish { cls := 131, code := 3, subject := some (segByte g) } }
              else s.setSeg g { y with params := w })))

/-! ## Answers taken by the roster and the folding unit -/

/-- R8, R29: a Good or Refused answer to any frame sets the table's last reported game-state; Attract after Service
sets the local-check mark, which only a Check Word can clear. R112: a usable routine Check Word clears that mark and
restarts the check timer; one that differs makes a readback pending, or lets one go on. R113: a frame of the
local-change readback is held, one of another count is not. R115, R116: the last one sets the Active image to the
clamped values, and enters Settings/Out of range and Settings/Local change (a record of the key stands, room given);
the draft follows, and a change of the regulated item drops the outcome and resets the window. That the confirmed mark
clears only with a change of the image is the model's reading (log 31). -/
def Obligations.AnswerTakesGameState : Prop :=
  (∀ (g : SegId) (s : State) (x : Exchange) (gs : GameState) (status : AnswerStatus) (rest : List Byte),
    (s.seg g).exchange = some x → x.phase = .window → x.received = [] → rest.length ≤ 318 →
    ∃ t, exec (.answerComplete g gs status rest) s = .next t ∧ (t.slot x.slot).game = some gs
      ∧ (gs = .attract → (s.slot x.slot).game = some .service → (∀ q, x.frame ≠ .checkQuery q) →
          (t.slot x.slot).localCheck = true)
      ∧ ∀ j, j ≠ x.slot → (t.slot j).game = (s.slot j).game)
  ∧ (∀ (g : SegId) (s : State) (x : Exchange) (gs : GameState) (rest : List Byte), s.store.quiet = true →
      (s.seg g).exchange = some x → (s.seg g).haltPending = false → (s.seg g).noisy = false →
      (s.slot x.slot).table = .active → (s.slot x.slot).score < 64 → x.asker = .settings → x.phase = .window →
      x.received = [] → rest.length ≤ 318 →
      let i := x.slot
      let y := s.slot i
      let z : Segment := { s.seg g with exchange := none, driverOn := false, garble := (s.seg g).garble - 1 }
      let w : Slot :=
        { y with
          score := y.score - 1, silent := 0, game := some gs
          localCheck := y.localCheck || (gs == .attract && y.game == some .service) }
      let command : Instr := .answerComplete g gs .accepted rest
      let leaves (v : Slot) : Prop := exec command s = .next (choose g ((s.setSeg g z).setSlot i v))
      (∀ q hi lo, x.frame = .checkQuery q → rest = [hi, lo] →
        let checked : Slot := { w with localCheck := false, due := { y.due with check := 0 } }
        let expected := (weightedSum 1 (y.active.getD []) + 4099 * q.toNat) % 65536
        (hi.toNat * 256 + lo.toNat = expected → leaves checked)
        ∧ (hi.toNat * 256 + lo.toNat ≠ expected →
            leaves { checked with
              readback := some (match y.readback with
                | none => { next := 1, held := [] }
                | some b => b) }))
      ∧ (∀ q, x.frame = .checkQuery q → rest.length ≠ 2 → leaves w)
      ∧ (∀ (start : Nat) (held values : List Nat) (r : Identity), x.frame = .readbackRequest start →
          y.readback = some { next := start, held := held } → y.identity = some r →
          parseReadback start rest = some values →
          let n := r.ranges.length
          (values.length ≠ min 8 (n + 1 - start) → leaves w)
          ∧ (values.length = min 8 (n + 1 - start) → start + 8 ≤ n →
              leaves { w with readback := some { next := start + 8, held := held ++ values } })
          ∧ (∀ old, values.length = min 8 (n + 1 - start) → n < start + 8 → (held ++ values).length = n →
              y.active = some old → old.length = n → y.draft.state ≠ .delivering → (s.seg g).delivery = none →
              (s.queue.map DeliveryEntry.slot).Nodup →
              let l := List.zipWith (fun (b : Nat × Nat) v => max b.1 (min v b.2)) r.ranges (held ++ values)
              let moved := y.regItem ≠ 0 ∧ l[y.regItem - 1]? ≠ old[y.regItem - 1]?
              let key (code : Byte) (k : Option Nat) : FaultKey :=
                { cls := 130, code := code, subject := k.map (BitVec.ofNat 8) }
              ∃ t, exec command s = .next t
                ∧ (t.slot i).active = some l ∧ (t.slot i).readback = none
                ∧ (t.slot i).confirmed = (y.confirmed && decide (old = l))
                ∧ (t.slot i).draft = (match y.draft.state with
                  | .clean => { values := l, touched := l.map fun _ => false, state := .clean, baseMoved := false }
                  | _ => { y.draft with state := .edited, baseMoved := true })
                ∧ t.entry i = (if y.draft.state = .queued then none else s.entry i)
                ∧ (moved → (t.slot i).outcome = none ∧ (t.slot i).book = { y.book with paid := 0, award := 0 })
                ∧ (¬ moved → (t.slot i).outcome = y.outcome ∧ (t.slot i).book = y.book)
                ∧ (t.slot i).score = y.score - 1 ∧ (t.slot i).silent = 0 ∧ (t.slot i).localCheck = w.localCheck
                ∧ (t.slot i).due = y.due ∧ (t.slot i).identity = y.identity ∧ (t.slot i).reg = y.reg
                ∧ (s.store.writing = true → t.store.bound (settingsPage i) (pageBody t (settingsPage i)) = true)
                ∧ (y.faults.records.length + 2 * n + 1 ≤ 12 →
                    (∀ (k : Nat) (b : Nat × Nat) (v : Nat), r.ranges[k]? = some b → (held ++ values)[k]? = some v →
                      v < b.1 ∨ b.2 < v →
                      ∃ f, (t.slot i).faults.find (key 3 (some (k + 1))) = some f ∧ f.lastSeen.clock = s.clock
                        ∧ f.acked = false ∧ (y.faults.find f.key = none → f.state = .gone))
                    ∧ (∀ k, l[k]? ≠ old[k]? →
                      ∃ f, (t.slot i).faults.find (key 2 (some (k + 1))) = some f ∧ f.lastSeen.clock = s.clock
                        ∧ f.acked = false ∧ (y.faults.find f.key = none → f.state = .gone))
                    ∧ (l = old →
                      ∃ f, (t.slot i).faults.find (key 2 none) = some f ∧ f.lastSeen.clock = s.clock
                        ∧ f.acked = false ∧ (y.faults.find f.key = none → f.state = .gone))))))

/-- R49, R50: the probes of an Isolated table, and of an Absent one: a usable reply counts, or starts the join; a
silence counts, the eighth making the table Absent; others reset the counts. R51 to R53: a usable Identity Record is
stored, the limits clamped (R139). An Active image that fits goes on to the catch-up report, with a draft outside the
new ranges Edited; one that does not is emptied; a model change sets the old machine aside. R54: each frame of a join
readback. R56: a join step that fails, or is refused. R55, R37, R163: a usable catch-up report completes the join. -/
def Obligations.JoinSteps : Prop :=
  (∀ (g : SegId) (s : State) (x : Exchange), s.store.quiet = true → (s.seg g).exchange = some x →
    (s.seg g).haltPending = false → (s.seg g).noisy = false →
    let i := x.slot
    let y := s.slot i
    let silence : Segment := { s.seg g with exchange := none, driverOn := false }
    let z : Segment := { silence with garble := (s.seg g).garble - 1 }
    let now : Stamp := { clock := s.clock, unset := s.clockUnset }
    let presence (code : Byte) : List Alert := if s.watch.presence then
        [{ kind := .presence, slot := i.val + 1, cls := none, code := code, subject := none, hit := 0, stamp := now }]
      else []
    let seen (gs : GameState) : Slot :=
      { y with game := some gs, localCheck := y.localCheck || (gs == .attract && y.game == some .service) }
    let joining (w : Slot) : Slot :=
      { w with table := .joining, score := 0, silent := 0, goodProbes := 0, join := some .identify }
    let absent (w : Slot) : Slot :=
      { w with
        table := .absent, score := 0, silent := 0, goodProbes := 0, join := none, due := { w.due with probe := 0 } }
    let answers (gs : GameState) (st : AnswerStatus) (rest : List Byte) (v : Segment) (w : Slot) : Prop :=
      exec (.answerComplete g gs st rest) s = .next (choose g ((s.setSeg g v).setSlot i w))
    let silent (w : Slot) : Prop :=
      x.phase = .window → exec (.answerWindowExpiry g) s = .next (choose g ((s.setSeg g silence).setSlot i w))
    let garbled (w : Slot) : Prop :=
      x.phase = .garbled → (s.seg g).driverOn = false → (s.seg g).garble < (s.seg g).params.threshold →
        exec (.quietWaitEnd g) s
          = .next (choose g ((s.setSeg g { silence with garble := (s.seg g).garble + 1 }).setSlot i w))
    let empties (w : Slot) : State :=
      let freed (p : Port) : Port := if p.reservation = some i then { p with reservation := none } else p
      { (s.setSeg g z).setSlot i { w with
            active := none, readback := none, confirmed := false, outcome := none, join := some (.readback 1 [])
            draft := { values := [], touched := [], state := .clean, baseMoved := false } } with
        queue := s.queue.filter fun e => e.slot != i
        collector := freed s.collector, office := freed s.office }
    (x.frame = .presenceProbe →
      let reset (w : Slot) : Slot := { w with due := { w.due with probe := 0 } }
      (x.phase = .window → x.received = [] → ∀ (gs : GameState) (rest : List Byte), rest.length ≤ 318 →
        (y.table = .absent →
          answers gs .accepted rest z (if rest.length = 2 then joining (reset (seen gs)) else reset (seen gs))
          ∧ ∀ st, st ≠ .accepted → answers gs st rest z (reset (seen gs)))
        ∧ (y.table = .isolated →
          answers gs .accepted rest z
              (if rest.length ≠ 2 then { reset (seen gs) with goodProbes := 0, silent := 0 }
               else if y.goodProbes + 1 < 12 then
                { reset (seen gs) with goodProbes := y.goodProbes + 1, silent := 0 }
               else joining (reset (seen gs)))
          ∧ ∀ st, st ≠ .accepted → answers gs st rest z { reset (seen gs) with goodProbes := 0, silent := 0 }))
      ∧ (y.table = .absent → silent (reset y) ∧ garbled (reset y))
      ∧ (y.table = .isolated → garbled { reset y with goodProbes := 0, silent := 0 }
        ∧ (y.silent + 1 < 8 → silent { reset y with goodProbes := 0, silent := y.silent + 1 })
        ∧ (y.silent = 7 → x.phase = .window → s.alerts.length < 32 →
          exec (.answerWindowExpiry g) s = .next (choose g
            { (s.setSeg g silence).setSlot i (absent y) with alerts := s.alerts ++ presence 1 }))))
    ∧ (x.frame = .identify → y.table = .joining → x.phase = .window → x.received = [] →
      ∀ (gs : GameState) (rest : List Byte) (r : Identity), parseIdentity rest = some r → rest.length ≤ 318 →
        let range : Option (Nat × Nat) := if y.regItem = 0 then none else r.ranges[y.regItem - 1]?
        let into (l : Limit) : Limit := match range, l with
          | some b, .value v => .value (max b.1 (min v b.2))
          | _, l => l
        let w : Slot :=
          { seen gs with
            model := r.model, identity := some r
            reg := { y.reg with lmin := into y.reg.lmin, lmax := into y.reg.lmax } }
        let rosterPages : List PageIx := if w.model = y.model ∧ w.reg = y.reg then [] else [rosterPage i]
        let same := y.model = 0 ∨ y.model = r.model
        let fits (l : List Nat) : Prop :=
          l.length = r.ranges.length
            ∧ ∀ (k : Nat) (b : Nat × Nat), r.ranges[k]? = some b → ∃ v, l[k]? = some v ∧ b.1 ≤ v ∧ v ≤ b.2
        let kept : Option Nat := if w.inert then none
          else y.outcome.filter fun v => decide (w.effectiveLimits.1 ≤ v ∧ v ≤ w.effectiveLimits.2)
        let outcomePages : List PageIx := if kept = y.outcome then [] else [settingsPage i]
        let command : Instr := .answerComplete g gs .accepted rest
        (same → y.active = none →
          nextChoosing command s g
            ((s.setSeg g z).setSlot i { w with outcome := none, join := some (.readback 1 []) })
            (rosterPages ++ if y.outcome = none then [] else [settingsPage i]))
        ∧ (∀ l, same → y.active = some l → fits l →
            (y.draft.state = .clean ∨ fits y.draft.values →
              nextChoosing command s g ((s.setSeg g z).setSlot i { w with outcome := kept, join := some .catchUp })
                (rosterPages ++ outcomePages))
            ∧ (y.draft.state = .edited ∨ y.draft.state = .queued → y.draft.values.length = l.length →
              ¬ fits y.draft.values →
              nextChoosing command s g
                { (s.setSeg g z).setSlot i
                    { w with
                      outcome := kept, join := some .catchUp
                      draft :=
                        { y.draft with
                          values := List.zipWith (fun (b : Nat × Nat) v => max b.1 (min v b.2)) r.ranges y.draft.values
                          state := .edited, baseMoved := true } } with
                  queue := if y.draft.state = .queued then s.queue.filter fun e => e.slot != i else s.queue }
                (rosterPages ++ outcomePages)))
        ∧ (∀ l, same → y.active = some l → l.length ≠ r.ranges.length →
            nextChoosing command s g (empties w) (rosterPages ++ [settingsPage i]))
        ∧ (∀ (l : List Nat) (k : Nat) (b : Nat × Nat) (v : Nat), same → y.active = some l →
            l.length = r.ranges.length → r.ranges[k]? = some b → l[k]? = some v → v < b.1 ∨ b.2 < v →
            ∃ t, exec command s = .next t ∧ (t.slot i).active = none ∧ (t.slot i).draft.state = .clean
              ∧ (t.slot i).draft.values = [] ∧ (t.slot i).outcome = none ∧ (t.slot i).book = y.book
              ∧ (t.slot i).join = some (.readback 1 []) ∧ t.entry i = none
              ∧ (y.faults.records.length + r.ranges.length ≤ 12 →
                  let key : FaultKey := { cls := 130, code := 3, subject := some (BitVec.ofNat 8 (k + 1)) }
                  ∃ f, (t.slot i).faults.find key = some f ∧ f.acked = false ∧ f.lastSeen = now
                    ∧ (y.faults.find key = none → f.state = .gone ∧ f.occurrences = 1)))
        ∧ (¬ same → s.watch.mode = .closed → y.faults.records.length < 12 →
          y.faults.find { cls := 128, code := 3, subject := none } = none →
          nextChoosing command s g
            (empties { w with
              book :=
                { y.book with
                  baselines := Vector.replicate 24 none, epoch := none, modelChanged := true, paid := 0, award := 0 }
              faults :=
                { records := y.faults.records ++
                    [{ key := { cls := 128, code := 3, subject := none }, origin := .hub, state := .gone
                       acked := false, firstSeen := now, lastSeen := now, occurrences := 1 }]
                  recency := y.faults.recency ++ [{ cls := 128, code := 3, subject := none }]
                  overflowed := y.faults.overflowed } })
            [rosterPage i, faultsPage i, settingsPage i, bookPage i]))
    ∧ (∀ (start next : Nat) (held values : List Nat) (r : Identity) (gs : GameState) (rest : List Byte),
        x.frame = .readbackRequest start → x.asker = .roster → y.table = .joining → x.phase = .window →
        x.received = [] → y.join = some (.readback next held) → y.identity = some r →
        parseReadback start rest = some values → rest.length ≤ 318 →
        let command : Instr := .answerComplete g gs .accepted rest
        (values.length ≠ min 8 (r.ranges.length + 1 - next) → answers gs .accepted rest z (absent (seen gs)))
        ∧ (values.length = min 8 (r.ranges.length + 1 - next) → next + 8 ≤ r.ranges.length →
            answers gs .accepted rest z { seen gs with join := some (.readback (next + 8) (held ++ values)) })
        ∧ (values.length = min 8 (r.ranges.length + 1 - next) → r.ranges.length < next + 8 →
            y.draft.state = .clean →
            let l := List.zipWith (fun (b : Nat × Nat) v => max b.1 (min v b.2)) r.ranges (held ++ values)
            let w : Slot :=
              { seen gs with
                active := some l, confirmed := false, join := some .catchUp
                draft := { values := l, touched := l.map fun _ => false, state := .clean, baseMoved := false } }
            ((held ++ values).length = r.ranges.length → l = held ++ values →
              nextChoosing command s g ((s.setSeg g z).setSlot i w) [settingsPage i])
            ∧ ((s.seg g).delivery = none → ∃ t f, exec command s = .next t ∧ t.slot i = { w with faults := f })))
    ∧ (y.table = .joining → x.asker = .roster →
        x.frame = .identify ∨ x.frame = .meterPoll ∨ (∃ k, x.frame = .readbackRequest k) →
        silent (absent y) ∧ garbled (absent y)
        ∧ ∀ (gs : GameState) (st : AnswerStatus) (rest : List Byte), x.phase = .window → x.received = [] →
            rest.length ≤ 318 →
            (st ≠ .accepted → answers gs st rest z (seen gs))
            ∧ (st = .accepted → (x.frame = .identify → parseIdentity rest = none) →
                (x.frame = .meterPoll → parseMeterReport rest = none) →
                (∀ k, x.frame = .readbackRequest k → parseReadback k rest = none) →
                answers gs st rest z (absent (seen gs)))))
  ∧ (∀ (g : SegId) (s : State) (x : Exchange) (gs : GameState) (rest : List Byte) (r : MeterReport),
      (s.seg g).exchange = some x → x.phase = .window → x.received = [] → rest.length ≤ 318 →
      x.frame = .meterPoll → x.asker = .roster → (s.slot x.slot).table = .joining →
      parseMeterReport rest = some r → s.watch.presence = true →
      ∃ t, exec (.answerComplete g gs .accepted rest) s = .next t
        ∧ (t.slot x.slot).table = .active ∧ (t.slot x.slot).score = 0 ∧ (t.slot x.slot).silent = 0
        ∧ (t.slot x.slot).goodProbes = 0 ∧ (t.slot x.slot).join = none
        ∧ (t.slot x.slot).due.fault = 3600 ∧ (t.slot x.slot).due.check = 0 ∧ (t.slot x.slot).due.meter = 0
        ∧ (t.slot x.slot).book.epoch = some r.epoch
        ∧ t.alerts.getLast? = some
            { kind := .presence, slot := x.slot.val + 1, cls := none, code := 2, subject := none, hit := 0
              stamp := { clock := s.clock, unset := s.clockUnset } })

/-- R25, R26, R154, R37: a usable Fault Report with one change: Raised, of a table class, for whose key the roster has
a record or room: the record is Open, not acknowledged and last seen now; the resend mark is clear, the More mark is
the report's, the fault timer is at 0. A Gone change makes its record Gone. A change of another class
is not recorded. -/
def Obligations.FaultReportEnters : Prop :=
  (∀ (g : SegId) (s : State) (x : Exchange) (gs : GameState) (rest : List Byte) (more : Bool) (k : FaultKey)
      (b : Bool),
      (s.seg g).exchange = some x → x.phase = .window → x.received = [] → rest.length ≤ 318 →
      x.frame = .faultPoll b → (s.slot x.slot).table = .active → (s.slot x.slot).score < 64 →
      parseFaultReport rest = some { more := more, changes := [{ key := k, raised := true }] } →
      ∃ t, exec (.answerComplete g gs .accepted rest) s = .next t
        ∧ (t.slot x.slot).due.fault = 0 ∧ (t.slot x.slot).due.more = more ∧ (t.slot x.slot).due.resend = false
        ∧ (k.cls.toNat < 128 →
            ((s.slot x.slot).faults.find k).isSome = true ∨ (s.slot x.slot).faults.records.length < 12 →
            ∃ y, (t.slot x.slot).faults.find k = some y ∧ y.state = .opened ∧ y.acked = false
              ∧ y.lastSeen = { clock := s.clock, unset := s.clockUnset }
              ∧ (((s.slot x.slot).faults.find k) = none → y.occurrences = 1 ∧ y.origin = .table
                  ∧ y.firstSeen = { clock := s.clock, unset := s.clockUnset })
              ∧ ∀ z, (s.slot x.slot).faults.find k = some z →
                  y.occurrences = min 65535 (z.occurrences + 1) ∧ y.firstSeen = z.firstSeen ∧ y.origin = z.origin)
        ∧ (128 ≤ k.cls.toNat → (t.slot x.slot).faults = (s.slot x.slot).faults))
  ∧ (∀ (g : SegId) (s : State) (x : Exchange) (gs : GameState) (rest : List Byte) (more : Bool) (k : FaultKey)
      (b : Bool),
      (s.seg g).exchange = some x → x.phase = .window → x.received = [] → rest.length ≤ 318 →
      x.frame = .faultPoll b → (s.slot x.slot).table = .active → (s.slot x.slot).score < 64 →
      parseFaultReport rest = some { more := more, changes := [{ key := k, raised := false }] } →
      ∃ t, exec (.answerComplete g gs .accepted rest) s = .next t
        ∧ (t.slot x.slot).due.more = more ∧ (t.slot x.slot).due.resend = false
        ∧ (t.slot x.slot).faults.recency = (s.slot x.slot).faults.recency
        ∧ (t.slot x.slot).faults.overflowed = (s.slot x.slot).faults.overflowed
        ∧ (t.slot x.slot).faults.records = (s.slot x.slot).faults.records.map fun y =>
            if y.key = k ∧ k.cls.toNat < 128 then { y with state := .gone } else y)

/-! ## Delivery -/

/-- R117, R124 to R126: the Check Word of the draft's values confirms the delivery in flight (shown with no withdrawal
and no pending outcome): the Active image is the draft's values, the draft Clean, the entry gone, the confirmed mark
set, the delivery record empty; the settings page is asked for, and the scheduler chooses. -/
def Obligations.MatchingCheckWordConfirms : Prop :=
  ∀ (g : SegId) (s : State) (x : Exchange) (d : DeliveryRecord) (e : DeliveryEntry) (q : BitVec 4) (gs : GameState),
    s.store.quiet = true → (s.seg g).exchange = some x → (s.seg g).haltPending = false → (s.seg g).noisy = false →
    (s.seg g).delivery = some d → d.slot = x.slot → x.phase = .window → x.received = [] →
    x.frame = .checkQuery q → x.asker = .delivery → s.entry x.slot = some e → e.withdrawal = false →
    (s.slot x.slot).table = .active → (s.slot x.slot).score < 64 → (s.slot x.slot).outcome = none →
    let y := s.slot x.slot
    let w := (weightedSum 1 y.draft.values + 4099 * q.toNat) % 65536
    nextChoosing (.answerComplete g gs .accepted [BitVec.ofNat 8 (w / 256), BitVec.ofNat 8 w]) s g
      { (s.setSeg g { s.seg g with
            exchange := none, driverOn := false, delivery := none, garble := (s.seg g).garble - 1 }).setSlot x.slot
          { y with
            score := y.score - 1, silent := 0, game := some gs, localCheck := false
            due := { y.due with check := 0 }, active := some y.draft.values
            draft := { values := y.draft.values, touched := y.draft.values.map fun _ => false
                       state := .clean, baseMoved := false }
            readback := none, confirmed := true } with
        queue := s.queue.filter fun f => f.slot != x.slot }
      [settingsPage x.slot]

/-- R127, R128, R163: a Check Word that differs. With an attempt count below 3 the draft returns to Queued and the
count rises. At 3 the delivery diverges: the entry leaves, the draft is Edited, Settings/Not taken is entered in the
slot's roster (shown with room, no such record and the watch Closed) and a Delivery diverged alert is queued. -/
def Obligations.MismatchEndsAttempt : Prop :=
  ∀ (g : SegId) (s : State) (x : Exchange) (d : DeliveryRecord) (e : DeliveryEntry) (q : BitVec 4) (gs : GameState)
    (hi lo : Byte),
    s.store.quiet = true → (s.seg g).exchange = some x → (s.seg g).haltPending = false → (s.seg g).noisy = false →
    (s.seg g).delivery = some d → d.slot = x.slot → x.phase = .window → x.received = [] →
    x.frame = .checkQuery q → x.asker = .delivery → s.entry x.slot = some e → e.withdrawal = false →
    (s.slot x.slot).table = .active → (s.slot x.slot).score < 64 →
    hi.toNat * 256 + lo.toNat ≠ checkWord (s.slot x.slot).draft.values q →
    let y := s.slot x.slot
    let z := { s.seg g with
      exchange := none, driverOn := false, delivery := none, garble := (s.seg g).garble - 1 }
    let mark := y.localCheck || (gs == .attract && y.game == some .service)
    let stamp : Stamp := { clock := s.clock, unset := s.clockUnset }
    (e.attempts < 3 →
      exec (.answerComplete g gs .accepted [hi, lo]) s
        = .next (choose g
          { (s.setSeg g z).setSlot x.slot
              { y with
                score := y.score - 1, silent := 0, game := some gs, localCheck := mark
                due := { y.due with check := 0 }, draft := { y.draft with state := .queued } } with
            queue := s.queue.map fun f => if f.slot == x.slot then { f with attempts := f.attempts + 1 } else f }))
    ∧ (3 ≤ e.attempts → s.watch.mode = .closed → s.alerts.length < 32 → y.faults.records.length < 12 →
        y.faults.find { cls := 130, code := 1, subject := none } = none →
      nextChoosing (.answerComplete g gs .accepted [hi, lo]) s g
        { (s.setSeg g z).setSlot x.slot
            { y with
              score := y.score - 1, silent := 0, game := some gs, localCheck := mark
              due := { y.due with check := 0 }, draft := { y.draft with state := .edited }
              faults :=
                { records := y.faults.records ++
                    [{ key := { cls := 130, code := 1, subject := none }, origin := .hub, state := .gone
                       acked := false, firstSeen := stamp, lastSeen := stamp, occurrences := 1 }]
                  recency := y.faults.recency ++ [{ cls := 130, code := 1, subject := none }]
                  overflowed := y.faults.overflowed } } with
          queue := s.queue.filter fun f => f.slot != x.slot
          alerts := s.alerts ++
            [{ kind := .diverged, slot := x.slot.val + 1, cls := some 130, code := 1, subject := none, hit := 0
               stamp := stamp }] }
        [faultsPage x.slot])

/-- R129 to R131, R134: an item frame of a delivery that ends Silent (by the answer window's expiry) suspends the
delivery: the draft returns to Queued with the entry as it stood, or, under a withdrawal mark, becomes Edited, the
entry leaves, and the waiting request is answered Withdrawn with the entry's origin, priority and attempt count. -/
def Obligations.FailedDeliveryFrameSuspends : Prop :=
  ∀ (g : SegId) (s : State) (x : Exchange) (d : DeliveryRecord) (e : DeliveryEntry) (items : List (Nat × Nat)),
    s.store.quiet = true → (s.seg g).exchange = some x → (s.seg g).haltPending = false →
    (s.seg g).delivery = some d → d.slot = x.slot → x.phase = .window → x.frame = .itemFrame items →
    s.entry x.slot = some e → (s.slot x.slot).table = .active → (s.slot x.slot).score + 4 < 64 →
    (s.slot x.slot).silent + 1 < 8 →
    let y := s.slot x.slot
    let z := { s.seg g with exchange := none, driverOn := false, delivery := none }
    let after (ds : DraftState) : State := (s.setSeg g z).setSlot x.slot
      { y with score := y.score + 4, silent := y.silent + 1, draft := { y.draft with state := ds } }
    (e.withdrawal = false → exec (.answerWindowExpiry g) s = .next (choose g (after .queued)))
    ∧ (∀ p, e.withdrawal = true → e.withdrawPort = some p → (s.port p).request = some 18 →
        exec (.answerWindowExpiry g) s
          = .next (choose g (answered p 18 .withdrawn
              [BitVec.ofNat 8 (originCode e.origin), BitVec.ofNat 8 e.priority, BitVec.ofNat 8 e.attempts]
              { after .edited with queue := s.queue.filter fun f => f.slot != x.slot })))

/-! ## The requests of the Table Roster and the Regulation Unit -/

/-- R40, R41, R38: Write Roster Entry of an Unlisted slot of a Halted segment, in range and at a free place, lists it:
Absent, its probe timer run, everything else as for an empty slot, the question counter and an unfinished close kept;
its five pages are asked for (the last two kept are the model's reading, log 14; that the answer carries the fields of
Read Roster is its choice, log 11). With its segment not Halted, or at a place taken, it is refused. Of a listed slot
it writes the fields; another regulated item resets the window counters (shown with no pending outcome); another place
makes the table Absent with a new due record and no game-state (shown with no close in Polling, no readback and no
Link/Caution to end). The roster page is asked for, and the book page with another item. -/
def Obligations.WriteRosterEntry : Prop :=
  (∀ (p : PortId) (slot : Byte) (i : SlotIx) (e : RosterArg) (s : State), s.takes p = true → s.store.quiet = true →
      slot.toNat = i.val + 1 → (s.slot i).table = .unlisted → e.regItem.toNat ≤ 64 →
      1 ≤ e.addr.toNat ∧ e.addr.toNat ≤ 8 →
      let free := ∀ j, j ≠ i → (s.slot j).table ≠ .unlisted → (s.slot j).seg = e.seg → (s.slot j).addr ≠ e.addr.toNat
      let new : Slot := { Slot.unlisted with
        table := .absent, seg := e.seg, addr := e.addr.toNat, regItem := e.regItem.toNat
        coins := e.coins.map BitVec.toNat, note := e.note.toNat
        due := { fault := 0, meter := 0, check := 0, probe := 3600, more := false, resend := false, closing := false }
        question := (s.slot i).question, close := (s.slot i).close }
      (free → (s.seg e.seg).state = .halted →
        nextAsking (.writeRosterEntry p slot e) s (answered p 5 .done (rosterField new) (s.setSlot i new))
          [rosterPage i, bookPage i, closedPage i, settingsPage i, faultsPage i])
      ∧ (free → (s.seg e.seg).state ≠ .halted →
        exec (.writeRosterEntry p slot e) s = .next (answered p 5 .segmentRunning [] s))
      ∧ (¬ free → exec (.writeRosterEntry p slot e) s = .next (answered p 5 .badRequest [] s)))
  ∧ (∀ (p : PortId) (slot : Byte) (i : SlotIx) (e : RosterArg) (s : State), s.takes p = true → s.store.quiet = true →
      slot.toNat = i.val + 1 → (s.slot i).table ≠ .unlisted → e.regItem.toNat ≤ 64 →
      1 ≤ e.addr.toNat ∧ e.addr.toNat ≤ 8 →
      (∀ r, (s.slot i).identity = some r → e.regItem.toNat ≤ r.ranges.length) →
      (∀ j, j ≠ i → (s.slot j).table ≠ .unlisted → (s.slot j).seg = e.seg → (s.slot j).addr ≠ e.addr.toNat) →
      (s.seg e.seg).state = .halted → (s.seg (s.slot i).seg).state = .halted →
      let x := s.slot i
      let moved := ¬ (x.seg = e.seg ∧ x.addr = e.addr.toNat)
      let item := x.regItem ≠ e.regItem.toNat
      let written : Slot := { x with
        seg := e.seg, addr := e.addr.toNat, regItem := e.regItem.toNat, coins := e.coins.map BitVec.toNat
        note := e.note.toNat
        book := if item then { x.book with paid := 0, award := 0 } else x.book }
      let placed : Slot := { written with
        table := .absent, score := 0, silent := 0, goodProbes := 0, join := none, game := none
        due := { fault := 0, meter := 0, check := 0, probe := 3600, more := false, resend := false, closing := false } }
      (item → x.outcome = none) →
      (moved → x.table ≠ .caution ∧ x.readback = none ∧ (s.seg e.seg).delivery = none
        ∧ ∀ q o n, x.close ≠ .polling q o n) →
      (¬ moved → nextAsking (.writeRosterEntry p slot e) s
        (answered p 5 .done (rosterField written) (s.setSlot i written))
        (rosterPage i :: if item then [bookPage i] else []))
      ∧ (moved → nextAsking (.writeRosterEntry p slot e) s
        (answered p 5 .done (rosterField placed) (s.setSlot i placed))
        (rosterPage i :: if item then [bookPage i] else [])))

/-- R42, R138: Remove Table of a listed slot of a Halted segment (shown with no close in Polling) empties the slot but
for its regulation parameters and an unfinished close, removes its queue entry, clears both reservations on it, and
asks for its five pages. The values of the fields that R42 does not name, and what is kept, are the model's reading
(log 14). -/
def Obligations.RemoveTableEmptiesSlot : Prop :=
  ∀ (p : PortId) (slot : Byte) (i : SlotIx) (s : State), s.takes p = true → s.store.quiet = true →
    slot.toNat = i.val + 1 → (s.slot i).table ≠ .unlisted →
    ((s.seg (s.slot i).seg).state = .halted → (∀ q o n, (s.slot i).close ≠ .polling q o n) →
      nextAsking (.removeTable p slot) s
        (answered p 6 .done []
          (clearReservations i
            { s.setSlot i { Slot.unlisted with reg := (s.slot i).reg, close := (s.slot i).close } with
              queue := s.queue.filter fun e => e.slot != i }))
        [rosterPage i, bookPage i, closedPage i, settingsPage i, faultsPage i])
    ∧ ((s.seg (s.slot i).seg).state ≠ .halted →
      exec (.removeTable p slot) s = .next (answered p 6 .segmentRunning [] s))

/-- R138 to R141: Set Regulation of a listed slot is answered Done. It writes each parameter present, clamped into its
range with its clamped mark, and keeps each that is absent, but that a written numeric Lmin raises a numeric Lmax left
in place; a written Lmax is clamped up to a numeric Lmin. A pending outcome goes when the slot is then inert or the
outcome outside the effective limits, and the settings page is asked for. The parameters in range stay in range, and
the effective limits lie in order within the regulated item's range where it has one. Where the marks stand in the
answer is the model's choice (log 11). -/
def Obligations.SetRegulation : Prop :=
  ∀ (p : PortId) (slot : Byte) (i : SlotIx) (a : RegulationArg) (s : State), s.takes p = true →
    s.store.quiet = true → slot.toNat = i.val + 1 → (s.slot i).table ≠ .unlisted →
    let r := (s.slot i).reg
    ∃ (w : RegParams) (marks : Vector Bool 8),
      (let y : Slot := { s.slot i with reg := w }
       let gone := match y.outcome with
         | none => false
         | some v => y.inert || decide (v < y.effectiveLimits.1) || decide (y.effectiveLimits.2 < v)
       let z : Slot := { y with outcome := if gone then none else y.outcome }
       nextAsking (.setRegulation p slot a) s (answered p 7 .done (regulationAnswer z marks) (s.setSlot i z))
        (rosterPage i :: if gone then [settingsPage i] else []))
      ∧ w.enabled = a.enabled.getD r.enabled
      ∧ w.target = (a.target.map fun v => max 50 (min v.toNat 500)).getD r.target
      ∧ w.deadband = (a.deadband.map fun v => min v.toNat 100).getD r.deadband
      ∧ w.window = (a.window.map fun v => max 50 (min v.toNat 1000)).getD r.window
      ∧ w.step = (a.step.map fun v => max 1 (min v.toNat 100)).getD r.step
      ∧ w.priority = (a.priority.map fun v => min v.toNat 7).getD r.priority
      ∧ (a.lmin = none → w.lmin = r.lmin) ∧ (a.lmin = some .follow → w.lmin = .follow)
      ∧ (∀ v, a.lmin = some (.value v) → w.lmin = .value (max 1 v.toNat))
      ∧ (a.lmax = none → (∀ v, a.lmin ≠ some (.value v)) → w.lmax = r.lmax)
      ∧ (a.lmax = none → r.lmax = .follow → w.lmax = .follow)
      ∧ (∀ v n, a.lmax = none → a.lmin = some (.value v) → r.lmax = .value n →
          w.lmax = .value (max (max 1 v.toNat) n))
      ∧ (a.lmax = some .follow → w.lmax = .follow)
      ∧ (∀ v, a.lmax = some (.value v) → w.lmax = .value (max w.lmin.floor v.toNat))
      ∧ (w.lmin = .follow → w.lmin.floor = 1) ∧ (∀ m, w.lmin = .value m → w.lmin.floor = m)
      ∧ marks[0] = false ∧ (marks[1] = true ↔ ∃ v, a.target = some v ∧ (v.toNat < 50 ∨ 500 < v.toNat))
      ∧ (marks[2] = true ↔ ∃ v, a.deadband = some v ∧ 100 < v.toNat)
      ∧ (marks[3] = true ↔ ∃ v, a.window = some v ∧ (v.toNat < 50 ∨ 1000 < v.toNat))
      ∧ (marks[4] = true ↔ ∃ v, a.step = some v ∧ (v.toNat < 1 ∨ 100 < v.toNat))
      ∧ (marks[5] = true ↔ a.lmin = some (.value 0))
      ∧ (marks[6] = true ↔ ∃ v, a.lmax = some (.value v) ∧ v.toNat < w.lmin.floor)
      ∧ (marks[7] = true ↔ ∃ v, a.priority = some v ∧ 7 < v.toNat)
      ∧ (r.inRange → w.inRange)
      ∧ (∀ lo hi, (s.slot i).regulatedRange = some (lo, hi) → lo ≤ hi →
          lo ≤ (Slot.effectiveLimits { s.slot i with reg := w }).1
            ∧ (Slot.effectiveLimits { s.slot i with reg := w }).1 ≤ (Slot.effectiveLimits { s.slot i with reg := w }).2
            ∧ (Slot.effectiveLimits { s.slot i with reg := w }).2 ≤ hi)

/-! ## Closes -/

/-- R84 to R90, R172: Close Period of one slot. On an Active or Caution table of a Running segment the close enters
Polling and waits. Otherwise the copy is made at once: the closed period takes the current totals, the current period
starts at 0, and the close is Storing with its group in the store, its two pages on their way in the group and every
other page as it was; with a store that makes no writes the group ends at once and the close is answered as not
stored. A slot whose close is not Idle is Table Busy. R87: the closing timeout ends a close in Polling in the same
way, without final reading, and concerns no other close. R86: a usable closing report ends it with its final reading,
the copy taken after the fold. R90, R172: the verified last write of a group ends it and answers the close, stored
unless a page of it failed; while another write of the group waits, nothing is answered; the group of a close that a
restart abandoned ends with its result discarded. The marks at the copy and the layout of the answer are the model's
choices (logs 33 and 11), and that each group has a tag of its own is its reading (log 10). -/
def Obligations.ClosesOfOneSlot : Prop :=
  (∀ (p : PortId) (slot : Byte) (i : SlotIx) (s : State), s.takes p = true → s.store.quiet = true →
      slot.toNat = i.val + 1 → (s.slot i).table ≠ .unlisted →
      let x := s.slot i
      let b := x.book
      let stamp : Stamp := { clock := s.clock, unset := s.clockUnset }
      let polled := (x.table = .active ∨ x.table = .caution) ∧ (s.seg x.seg).state = .running
      let copied : Book := { b with
        closed := b.current, current := Vector.replicate 24 { val := 0, sat := false }, period := b.period + 1
        closeStamp := some stamp, lostClosed := b.lostCurrent, lostCurrent := false }
      let kept : ClosedFigures :=
        { number := b.period, stamp := stamp, totals := b.current
          figures := figuresOf x.identity x.coins x.note b.current
          lost := b.lostCurrent, modelChanged := b.modelChanged }
      let held := s.modPort p fun y => { y with request := some 12 }
      let storing := held.setSlot i
        { x with book := copied, close := .storing (some p) false false kept, due := { x.due with closing := false } }
      (x.close ≠ .idle → exec (.closePeriod p slot) s = .next (answered p 12 .tableBusy [] s))
      ∧ (x.close = .idle → polled →
        exec (.closePeriod p slot) s
          = .next (choose x.seg (held.setSlot i
              { x with close := .polling (some p) false 0, due := { x.due with closing := true } })))
      ∧ (x.close = .idle → ¬ polled → s.store.writing = true → ∃ u : Store,
        exec (.closePeriod p slot) s = .next (choose x.seg { storing with store := u })
          ∧ s.store.grouped u storing i)
      ∧ (x.close = .idle → ¬ polled → s.store.writing = false →
        exec (.closePeriod p slot) s
          = .next (choose x.seg (answered p 12 .done (closeBody i false false kept)
              (s.setSlot i { x with book := copied, close := .idle, due := { x.due with closing := false } })))))
  ∧ (∀ (i : SlotIx) (s : State) (port : Option PortId) (ofAll : Bool) (n : Nat), s.store.quiet = true →
      let x := s.slot i
      let b := x.book
      let stamp : Stamp := { clock := s.clock, unset := s.clockUnset }
      let copied : Book := { b with
        closed := b.current, current := Vector.replicate 24 { val := 0, sat := false }, period := b.period + 1
        closeStamp := some stamp, lostClosed := b.lostCurrent, lostCurrent := false }
      let kept : ClosedFigures :=
        { number := b.period, stamp := stamp, totals := b.current
          figures := figuresOf x.identity x.coins x.note b.current
          lost := b.lostCurrent, modelChanged := b.modelChanged }
      let storing := s.setSlot i
        { x with book := copied, close := .storing port ofAll false kept, due := { x.due with closing := false } }
      (x.close = .polling port ofAll n → s.store.writing = true → ∃ u : Store,
        exec (.closingTimeout i) s = .next { storing with store := u } ∧ s.store.grouped u storing i)
      ∧ (∀ p, x.close = .polling port ofAll n → s.store.writing = false → ofAll = false → port = some p →
        (s.port p).request = some 12 →
        exec (.closingTimeout i) s
          = .next (answered p 12 .done (closeBody i false false kept)
              (s.setSlot i { x with book := copied, close := .idle, due := { x.due with closing := false } })))
      ∧ ((∀ q o m, x.close ≠ .polling q o m) → exec (.closingTimeout i) s = .next s))
  ∧ (∀ (g : SegId) (s : State) (x : Exchange) (gs : GameState) (rest : List Byte) (r : MeterReport) (idr : Identity)
      (port : Option PortId) (ofAll : Bool) (n : Nat),
      s.store.quiet = true → (s.seg g).exchange = some x → x.phase = .window → x.received = [] → rest.length ≤ 318 →
      x.frame = .meterPoll → x.asker = .collection → (s.slot x.slot).table = .active → (s.slot x.slot).score < 64 →
      parseMeterReport rest = some r → (s.slot x.slot).identity = some idr →
      (s.slot x.slot).close = .polling port ofAll n → s.store.writing = true →
      let y := s.slot x.slot
      let totals := (y.book.foldReport idr.meters .closing r).book.current
      let stamp : Stamp := { clock := s.clock, unset := s.clockUnset }
      ∃ t, exec (.answerComplete g gs .accepted rest) s = .next t
        ∧ (t.slot x.slot).book.closed = totals
        ∧ (t.slot x.slot).book.current = Vector.replicate 24 { val := 0, sat := false }
        ∧ (t.slot x.slot).book.period = y.book.period + 1 ∧ (t.slot x.slot).book.closeStamp = some stamp
        ∧ (t.slot x.slot).due.closing = false
        ∧ (t.slot x.slot).close = .storing port ofAll true
            { number := y.book.period, stamp := stamp, totals := totals
              figures := figuresOf y.identity y.coins y.note totals
              lost := y.book.lostCurrent, modelChanged := y.book.modelChanged }
        ∧ (∃ k, (∀ h ∈ s.store.groups, h.tag ≠ k)
            ∧ t.store.groups = s.store.groups ++ [{ slot := x.slot, tag := k, failed := false, abandoned := false }]
            ∧ t.store.boundIn (bookPage x.slot) k = true ∧ t.store.boundIn (closedPage x.slot) k = true)
        ∧ ∀ j, j ≠ x.slot → (t.slot j).close = (s.slot j).close ∧ (t.slot j).book = (s.slot j).book)
  ∧ (∀ (i : SlotIx) (s : State) (w : WriteInFlight) (f : GroupRecord) (final : Bool) (kept : ClosedFigures),
      s.store.sound = true → s.store.inFlight = some w → (s.store.page w.page).bad = false →
      s.store.groups = [f] → f.slot = i → (∀ q, (s.store.page q).deferredTags = []) →
      let t := s.store
      let x := s.slot i
      let after : Store := { t with
        inFlight := none, groups := [], nodeMismatch := t.nodeMismatch && w.page != 0 }
      (∀ p, f.abandoned = false → t.waiting = [] → x.close = .storing (some p) false final kept →
        (s.port p).request = some 12 →
        exec (.storeWriteVerify w.bytes) s
          = .next (answered p 12 .done (closeBody i final (!f.failed) kept)
              { s.setSlot i { x with close := .idle } with store := after }))
      ∧ (f.abandoned = true → t.waiting = [] →
        exec (.storeWriteVerify w.bytes) s = .next { s with store := after })
      ∧ ((∃ e ∈ t.waiting, f.tag ∈ e.tags) → ∃ u,
        exec (.storeWriteVerify w.bytes) s = .next { s with store := u } ∧ u.groups = [f]))

/-- R91, R92, R172: Close All starts a close on every listed slot whose close is Idle and marks the others Table Busy;
with none to wait for (here: no slot is listed) it is answered at once, with an empty list. The end of a store group
enters the result of its close in the record, and the last one answers the request with the results in slot order,
coded as the model chooses (log 11). -/
def Obligations.CloseAll : Prop :=
  (∀ (p : PortId) (s : State), s.takes p = true → s.store.quiet = true →
    ((∀ i, (s.slot i).table = .unlisted) →
      exec (.closePeriod p 0) s = .next (chooseBoth (answered p 12 .done [0]
        (s.modPort p fun y => { y with closeAll := none }))))
    ∧ (s.store.writing = true → (∃ i, (s.slot i).table ≠ .unlisted ∧ (s.slot i).close = .idle) →
      ∃ t, exec (.closePeriod p 0) s = .next t ∧ (t.port p).request = some 12
        ∧ (t.port p).transmitting = (s.port p).transmitting
        ∧ (t.port p).closeAll = some (s.listedSlots.map fun i =>
            (i, if (s.slot i).close = .idle then CloseResult.pending else .tableBusy))
        ∧ ∀ i, ((s.slot i).table ≠ .unlisted → (s.slot i).close = .idle →
              (t.slot i).close = .polling (some p) true 0 ∨ ∃ k, (t.slot i).close = .storing (some p) true false k)
            ∧ ((s.slot i).table = .unlisted ∨ (s.slot i).close ≠ .idle → (t.slot i).close = (s.slot i).close)))
  ∧ ∀ (p : PortId) (i : SlotIx) (s : State) (w : WriteInFlight) (f : GroupRecord) (final : Bool)
      (kept : ClosedFigures) (l : List (SlotIx × CloseResult)),
      s.store.sound = true → s.store.inFlight = some w → (s.store.page w.page).bad = false → s.store.waiting = [] →
      s.store.groups = [f] → f.slot = i → f.abandoned = false → (∀ q, (s.store.page q).deferredTags = []) →
      (s.slot i).close = .storing (some p) true final kept → (s.port p).closeAll = some l →
      (s.port p).request = some 12 →
      let after := { s.setSlot i { s.slot i with close := .idle } with
        store := { s.store with
          inFlight := none, groups := [], nodeMismatch := s.store.nodeMismatch && w.page != 0 } }
      let l' := l.map fun e => if e.1 = i then (i, CloseResult.closed final (!f.failed) kept.number
        kept.figures.takings kept.figures.takingsSat) else e
      ((∃ e ∈ l', e.2 = .pending) →
        exec (.storeWriteVerify w.bytes) s = .next (after.modPort p fun y => { y with closeAll := some l' }))
      ∧ ((∀ e ∈ l', e.2 ≠ .pending) →
        exec (.storeWriteVerify w.bytes) s
          = .next (answered p 12 .done (closeAllBody l') (after.modPort p fun y => { y with closeAll := none })))

/-! ## The requests of settings and deliveries -/

/-- R106, R107, R103, R74: Set Items, accepted: each value is clamped into its item's range and written in the order
given, its touched mark set, the draft Edited, the confirmed mark clear, the other master's reservation on the slot
cleared; the answer says what was written, the clamping and the clearing. A pair for the regulated item resets the
window counters too (shown with no pending outcome). Without the reservation the request is refused, and with an item
above N or a pair count outside 1 to 16. -/
def Obligations.SetItemsWrites : Prop :=
  ∀ (p : PortId) (slot : Byte) (i : SlotIx) (r : Identity) (pairs : List (Byte × Half)) (s : State),
    s.takes p = true → s.store.quiet = true → slot.toNat = i.val + 1 → (s.slot i).table ≠ .unlisted →
    (s.slot i).identity = some r → (∀ e ∈ pairs, 1 ≤ e.1.toNat) →
    (s.slot i).draft.state = .clean ∨ (s.slot i).draft.state = .edited → (s.slot i).active.isSome = true →
    let x := s.slot i
    let w (e : Byte × Half) : Nat := match r.ranges[e.1.toNat - 1]? with
      | none => e.2.toNat
      | some (lo, hi) => max lo (min e.2.toNat hi)
    let other := (s.port (otherPort p)).reservation == some i
    let draft : Draft := { x.draft with
      values := pairs.foldl (fun l e => l.set (e.1.toNat - 1) (w e)) x.draft.values
      touched := pairs.foldl (fun l e => l.set (e.1.toNat - 1) true) x.draft.touched, state := .edited }
    let body := BitVec.ofNat 8 pairs.length
      :: (pairs.flatMap fun e => [e.1, BitVec.ofNat 8 (w e / 256), BitVec.ofNat 8 (w e), markByte (w e != e.2.toNat)])
        ++ [1, markByte other]
    let after (y : Slot) : State := answered p 15 .done body
      ((s.setSlot i y).modPort (otherPort p) fun z => { z with reservation := if other then none else z.reservation })
    let fits := 1 ≤ pairs.length ∧ pairs.length ≤ 16 ∧ ∀ e ∈ pairs, e.1.toNat ≤ r.ranges.length
    (fits → (s.port p).reservation = some i → (∀ e ∈ pairs, e.1.toNat ≠ x.regItem) →
      exec (.setItems p slot pairs) s = .next (after { x with draft := draft, confirmed := false }))
    ∧ (fits → (s.port p).reservation = some i → (∃ e ∈ pairs, e.1.toNat = x.regItem) → x.outcome = none →
      nextAsking (.setItems p slot pairs) s
        (after { x with draft := draft, confirmed := false, book := { x.book with paid := 0, award := 0 } })
        [bookPage i])
    ∧ (fits → (s.port p).reservation ≠ some i →
      exec (.setItems p slot pairs) s = .next (answered p 15 .noReservation [] s))
    ∧ (¬ fits → exec (.setItems p slot pairs) s = .next (answered p 15 .badRequest [] s))

/-- R108, R118, R119: Submit Draft of an Edited draft with its base not moved, by a master that holds the reservation,
at a priority of 0 to 7. A draft that differs from the Active image is Queued with an entry at the end of the queue,
and both reservations are cleared; one that is equal becomes Clean (shown with no pending outcome), and the answer is
Nothing to deliver. A moved base, or no reservation, refuses. -/
def Obligations.SubmitDraftQueues : Prop :=
  ∀ (p : PortId) (slot priority : Byte) (i : SlotIx) (s : State), s.takes p = true → s.store.quiet = true →
    slot.toNat = i.val + 1 → (s.slot i).table ≠ .unlisted → priority.toNat ≤ 7 → (s.slot i).draft.state = .edited →
    let x := s.slot i
    ((x.draft.baseMoved = false → (s.port p).reservation = some i → x.active ≠ some x.draft.values →
      exec (.submitDraft p slot priority) s
        = .next (choose x.seg (answered p 16 .done [] (clearReservations i
            { s.setSlot i { x with draft := { x.draft with state := .queued }, confirmed := false } with
              queue := s.queue ++
                [{ slot := i, priority := priority.toNat
                   origin := match p with
                     | .collector => .collector
                     | .office => .office
                   attempts := 1, withdrawal := false, withdrawPort := none }] }))))
    ∧ (x.draft.baseMoved = false → (s.port p).reservation = some i → x.active = some x.draft.values →
      x.outcome = none →
      exec (.submitDraft p slot priority) s
        = .next (choose x.seg (answered p 16 .nothingToDeliver [] (clearReservations i (s.setSlot i
            { x with draft := { values := x.draft.values, touched := x.draft.values.map fun _ => false
                                state := .clean, baseMoved := false } })))))
    ∧ (x.draft.baseMoved = true → exec (.submitDraft p slot priority) s = .next (answered p 16 .baseMoved [] s))
    ∧ (x.draft.baseMoved = false → (s.port p).reservation ≠ some i →
      exec (.submitDraft p slot priority) s = .next (answered p 16 .noReservation [] s)))

/-- R109, R101, R110, R145: Discard Draft of a Clean or Edited draft with no pending outcome makes it Clean and equal
to the Active image and clears both reservations; one in delivery is refused. With a pending outcome that differs from
the Active value, the level is written into the Clean draft, which is Queued at the regulation priority with origin
Regulation, and the outcome is gone; with one equal to it, the outcome is dropped and the draft is Clean. The choice
of the scheduler within the request is the model's reading of R30 (log 7). -/
def Obligations.DiscardDraft : Prop :=
  (∀ (p : PortId) (slot : Byte) (i : SlotIx) (s : State), s.takes p = true → s.store.quiet = true →
      slot.toNat = i.val + 1 → (s.slot i).table ≠ .unlisted →
      let x := s.slot i
      let values := x.active.getD []
      (x.draft.state = .clean ∨ x.draft.state = .edited → x.outcome = none →
        exec (.discardDraft p slot) s
          = .next (choose x.seg (answered p 17 .done [] (clearReservations i (s.setSlot i
              { x with draft := { values := values, touched := values.map fun _ => false
                                  state := .clean, baseMoved := false } })))))
      ∧ (x.draft.state = .queued ∨ x.draft.state = .delivering →
        exec (.discardDraft p slot) s = .next (answered p 17 .refusedInState [] s)))
  ∧ (∀ (p : PortId) (slot : Byte) (i : SlotIx) (level : Nat) (values : List Nat) (s : State), s.takes p = true →
      s.store.quiet = true → slot.toNat = i.val + 1 → (s.slot i).table ≠ .unlisted →
      (s.slot i).draft.state = .edited → (s.slot i).active = some values → (s.slot i).outcome = some level →
      1 ≤ (s.slot i).regItem → (s.slot i).regItem ≤ values.length → values[(s.slot i).regItem - 1]? ≠ some level →
      let x := s.slot i
      nextChoosing (.discardDraft p slot) s x.seg
        (answered p 17 .done [] (clearReservations i
          { s.setSlot i
              { x with
                draft := { values := values.set (x.regItem - 1) level, touched := values.map fun _ => false
                           state := .queued, baseMoved := false }
                confirmed := false, outcome := none } with
            queue := s.queue ++
              [{ slot := i, priority := x.reg.priority, origin := .regulation, attempts := 1, withdrawal := false
                 withdrawPort := none }] }))
        [settingsPage i])
  ∧ (∀ (p : PortId) (slot : Byte) (i : SlotIx) (level : Nat) (values : List Nat) (s : State), s.takes p = true →
      s.store.quiet = true → slot.toNat = i.val + 1 → (s.slot i).table ≠ .unlisted →
      (s.slot i).draft.state = .edited → (s.slot i).active = some values → (s.slot i).outcome = some level →
      1 ≤ (s.slot i).regItem → values[(s.slot i).regItem - 1]? = some level →
      let x := s.slot i
      nextChoosing (.discardDraft p slot) s x.seg
        (answered p 17 .done [] (clearReservations i (s.setSlot i
          { x with
            draft := { values := values, touched := values.map fun _ => false, state := .clean, baseMoved := false }
            outcome := none })))
        [settingsPage i])

/-- R133: Withdraw Delivery by the draft's state: a Queued draft's entry leaves and the draft is Edited, answered
Withdrawn with the entry's origin, priority and attempt count; a Delivering one is marked and waits, once; a Clean one
is Too late when confirmed; anything else is refused. -/
def Obligations.WithdrawDelivery : Prop :=
  ∀ (p : PortId) (slot : Byte) (i : SlotIx) (s : State), s.takes p = true → s.store.quiet = true →
    slot.toNat = i.val + 1 → (s.slot i).table ≠ .unlisted →
    let x := s.slot i
    (∀ e, x.draft.state = .queued → s.entry i = some e →
      exec (.withdrawDelivery p slot) s
        = .next (answered p 18 .withdrawn
            [match e.origin with
              | .collector => 0
              | .office => 1
              | .regulation => 2, BitVec.ofNat 8 e.priority, BitVec.ofNat 8 e.attempts]
            { s.setSlot i { x with draft := { x.draft with state := .edited } } with
              queue := s.queue.filter fun f => f.slot != i }))
    ∧ (∀ e, x.draft.state = .delivering → s.entry i = some e → e.withdrawal = false →
      exec (.withdrawDelivery p slot) s
        = .next { s.modPort p fun y => { y with request := some 18 } with
            queue := s.queue.map fun f =>
              if f.slot == i then { f with withdrawal := true, withdrawPort := some p } else f })
    ∧ (∀ e, x.draft.state = .delivering → s.entry i = some e → e.withdrawal = true →
      exec (.withdrawDelivery p slot) s = .next (answered p 18 .refusedInState [] s))
    ∧ (x.draft.state = .clean → x.confirmed = true →
      exec (.withdrawDelivery p slot) s = .next (answered p 18 .tooLate [slot] s))
    ∧ (x.draft.state = .edited ∨ (x.draft.state = .clean ∧ x.confirmed = false) →
      exec (.withdrawDelivery p slot) s = .next (answered p 18 .refusedInState [] s))

/-! ## Requests that read, and the clock -/

/-- R43, R79, R80, R104, R105, R158, R188: the reading requests answer Done with what they list and change nothing
else; Read Draft with the reserve option sets the requester's reservation first. Read Roster of all slots gives the
sixteen slots without a count; that and the other points of the bodies that the spec leaves open are the model's
choices (log 11), and one byte of Read Settings is a free value (log 12). -/
def Obligations.ReadsAnswerOnly : Prop :=
  ∀ (p : PortId) (slot : Byte) (i : SlotIx) (s : State), s.takes p = true → s.store.quiet = true →
    slot.toNat = i.val + 1 →
    exec (.readStatus p) s
      = .next (answered p 1 .done (statusAnswer (s.modPort p fun x => { x with request := some 1 })) s)
    ∧ exec (.readRoster p 0) s = .next (answered p 4 .done (allSlots.flatMap fun j => rosterField (s.slot j)) s)
    ∧ exec (.readRoster p slot) s = .next (answered p 4 .done (rosterField (s.slot i)) s)
    ∧ exec (.readFaults p 0) s = .next (answered p 19 .done (faultsAnswer s.hubFaults) s)
    ∧ ((s.slot i).table ≠ .unlisted →
      (∀ view, exec (.readAudits p slot view) s = .next (answered p 11 .done (auditBody s (s.slot i) view) s))
      ∧ exec (.readSettings p slot) s = .next (answered p 13 .done (settingsAnswer i (s.slot i)) s)
      ∧ exec (.readDraft p slot false) s = .next (answered p 14 .done (draftAnswer i s) s)
      ∧ (let t := s.modPort p fun x => { x with reservation := some i }
         exec (.readDraft p slot true) s = .next (answered p 14 .done (draftAnswer i t) t))
      ∧ exec (.readFaults p slot) s = .next (answered p 19 .done (faultsAnswer (s.slot i).faults) s))

/-- R81, R82, R37, R83, R30: Set Clock sets the clock and clears the Unset mark; a tick adds a second to the clock,
which wraps, and to the timers of the listed slots and the closing timers, up to their ceilings (that these timers
count at this tick is the model's choice, log 6), and then the chooser of each segment chooses. -/
def Obligations.ClockRules : Prop :=
  (∀ (p : PortId) (v : BitVec 32) (s : State), s.takes p = true → s.store.quiet = true →
    exec (.setClock p v) s
      = .next (answered p 2 .done
          [v.extractLsb' 24 8, v.extractLsb' 16 8, v.extractLsb' 8 8, v.extractLsb' 0 8]
          { s with clock := v, clockUnset := false }))
  ∧ ∀ s : State, s.store.quiet = true → ∃ slots : Vector Slot 16,
      exec .clockTick s
        = .next (chooseBoth { s with clock := BitVec.ofNat 32 (s.clock.toNat + 1), slots := slots })
      ∧ ∀ i : SlotIx, slots[i.val] = { s.slot i with
          due := if (s.slot i).table = .unlisted then (s.slot i).due else { (s.slot i).due with
            fault := min ((s.slot i).due.fault + 1) 3600, meter := min ((s.slot i).due.meter + 1) 3600
            check := min ((s.slot i).due.check + 1) 3600, probe := min ((s.slot i).due.probe + 1) 3600 }
          close := match (s.slot i).close with
            | .polling q o n => .polling q o (min (n + 1) 2)
            | c => c }

/-! ## Faults and alerts -/

/-- R159: Acknowledge Faults removes the matching Gone records, marks the matching Open ones acknowledged, clears
Overflowed, and answers with both counts; a slot's faults page is asked for when its roster changes. -/
def Obligations.AcknowledgeFaults : Prop :=
  ∀ (p : PortId) (roster : Byte) (key : Option FaultKey) (s : State), s.takes p = true → s.store.quiet = true →
    let hit (x : FaultRecord) : Bool := match key with
      | none => true
      | some k => x.key == k
    let gone (r : FaultRoster) : List FaultRecord := r.records.filter fun x => hit x && x.state == .gone
    let opened (r : FaultRoster) : List FaultRecord := r.records.filter fun x => hit x && x.state == .opened
    let after (r : FaultRoster) : FaultRoster :=
      { records := (r.records.filter fun x => !(hit x && x.state == .gone)).map fun x =>
          { x with acked := x.acked || hit x }
        recency := r.recency.filter fun k => !((gone r).map FaultRecord.key).contains k
        overflowed := false }
    let body (r : FaultRoster) : List Byte := [BitVec.ofNat 8 (gone r).length, BitVec.ofNat 8 (opened r).length]
    (roster = 0 →
      exec (.acknowledgeFaults p roster key) s
        = .next (answered p 20 .done (body s.hubFaults) { s with hubFaults := after s.hubFaults }))
    ∧ (∀ i : SlotIx, roster.toNat = i.val + 1 → (s.slot i).table ≠ .unlisted →
        after (s.slot i).faults ≠ (s.slot i).faults →
      nextAsking (.acknowledgeFaults p roster key) s
        (answered p 20 .done (body (s.slot i).faults) (s.setSlot i { s.slot i with faults := after (s.slot i).faults }))
        [faultsPage i])
    ∧ (∀ i : SlotIx, roster.toNat = i.val + 1 → (s.slot i).table ≠ .unlisted →
        after (s.slot i).faults = (s.slot i).faults →
      exec (.acknowledgeFaults p roster key) s = .next (answered p 20 .done (body (s.slot i).faults) s))
    ∧ (16 < roster.toNat → exec (.acknowledgeFaults p roster key) s = .next (answered p 20 .badRequest [] s))

/-- R161: Set Watch Rules with rule numbers 1 to 8, none twice, writes what is present, keeps the rest, asks for page
0 and answers with the whole table (its layout is the model's choice, log 11); otherwise it is refused. R160, R162,
R163: an entry that its roster records is offered to the matcher: the watch mode Open queues a Fault alert with hit 0,
Closed none, and Rules one with the lowest-numbered rule that matches as its hit, or none; an entry not recorded
queues none. R164: an alert joins at the newest end; at 32 the oldest leaves and Overrun is set. Through the line: a
line-fault input asserted on a Faulted segment is such an entry in roster 0. -/
def Obligations.SetWatchRules : Prop :=
  (∀ (p : PortId) (a : WatchArg) (s : State), s.takes p = true → s.store.quiet = true →
    let ok := (∀ x ∈ a.rules, 1 ≤ x.1.toNat ∧ x.1.toNat ≤ 8) ∧ (a.rules.map Prod.fst).Nodup
    (ok → ∃ w : WatchTable,
      nextAsking (.setWatchRules p a) s (answered p 21 .done (watchAnswer w) { s with watch := w }) [0]
      ∧ w.mode = a.mode.getD s.watch.mode ∧ w.presence = a.presence.getD s.watch.presence
      ∧ ∀ k : Fin 8, (∀ x ∈ a.rules, x.1.toNat = k.val + 1 → w.rules[k.val] = x.2)
          ∧ ((∀ x ∈ a.rules, x.1.toNat ≠ k.val + 1) → w.rules[k.val] = s.watch.rules[k.val]))
    ∧ (¬ ok → exec (.setWatchRules p a) s = .next (answered p 21 .badRequest [] s)))
  ∧ (∀ (n : Fin 17) (k : FaultKey) (o : Origin) (c : EntryKind) (s : State),
      let fits (j : Fin 8) : Prop := ∃ r, s.watch.rules[j.val] = some r
        ∧ (∀ b, b < 5 → r.slotMask.getLsbD b = true → r.slotValue.getLsbD b = Nat.testBit n.val b)
        ∧ (∀ v, r.cls = some v → v = k.cls)
        ∧ (∀ b, b < 8 → r.codeMask.getLsbD b = true → r.codeValue.getLsbD b = k.code.getLsbD b)
        ∧ ∀ v, r.subject = some v → k.subject = some v
      let alert (hit : Nat) : Alert :=
        { kind := .fault, slot := n.val, cls := some k.cls, code := k.code, subject := k.subject, hit := hit
          stamp := { clock := s.clock, unset := s.clockUnset } }
      let t := enterFault n k o c s
      let queues (hit : Nat) : Prop :=
        (s.alerts.length < 32 → t.alerts = s.alerts ++ [alert hit] ∧ t.overrun = s.overrun)
          ∧ (s.alerts.length = 32 → t.alerts = s.alerts.drop 1 ++ [alert hit] ∧ t.overrun = true)
      let silent := t.alerts = s.alerts ∧ t.overrun = s.overrun
      let recorded := (s.roster n).find k ≠ none ∨ (s.roster n).records.length < 12
        ∨ ∃ g ∈ (s.roster n).recency, ∃ y, (s.roster n).find g = some y ∧ y.state = .gone
      (¬ recorded → silent) ∧ (s.watch.mode = .closed → silent)
      ∧ (recorded → s.watch.mode = .openAll → queues 0)
      ∧ (recorded → s.watch.mode = .rules → ∀ j, fits j → (∀ h, h < j → ¬ fits h) → queues (j.val + 1))
      ∧ (s.watch.mode = .rules → (∀ j, ¬ fits j) → silent))
  ∧ ∀ (g : SegId) (kind : LineFaultKind) (s : State), s.store.quiet = true → (s.seg g).state = .faulted →
      (s.seg g).inputs.level kind = false → s.watch.mode = .openAll → s.hubFaults.records.length < 12 →
      let k : FaultKey :=
        { cls := 131, code := 1, subject := some (BitVec.ofNat 8 (16 * faultKindNumber kind) ||| segByte g) }
      ∃ t, exec (.lineFaultAsserted g kind) s = .next t
        ∧ t.alerts.getLast? = some
            { kind := .fault, slot := 0, cls := some k.cls, code := k.code, subject := k.subject, hit := 0
              stamp := { clock := s.clock, unset := s.clockUnset } }
        ∧ (s.alerts.length = 32 → t.alerts.length = 32 ∧ t.overrun = true
            ∧ t.alerts.take 31 = s.alerts.drop 1)
        ∧ (s.alerts.length < 32 → t.alerts.length = s.alerts.length + 1 ∧ t.overrun = s.overrun)

/-- R165: Take Alerts of 1 to 8 returns the oldest alerts, up to the count, in order, with the Overrun mark as it
stood; they leave the queue and the mark clears. Another count is refused. The Collector, unplugged while its request
is in progress, loses the alerts it took with its answer. The number sent for an alert's kind is the model's choice
(log 11). -/
def Obligations.TakeAlerts : Prop :=
  ∀ (p : PortId) (count : Byte) (s : State), s.takes p = true → s.store.quiet = true →
    (1 ≤ count.toNat ∧ count.toNat ≤ 8 →
      exec (.takeAlerts p count) s
        = .next (answered p 22 .done
            (BitVec.ofNat 8 (min count.toNat s.alerts.length) :: (s.alerts.take count.toNat).flatMap alertField
              ++ [markByte s.overrun])
            { s with alerts := s.alerts.drop count.toNat, overrun := false }))
    ∧ (count.toNat = 0 ∨ 8 < count.toNat →
      exec (.takeAlerts p count) s = .next (answered p 22 .badRequest [] s))
    ∧ ∀ t, p = .collector → exec (.takeAlerts p count) s = .next t →
        ∃ u, exec .collectorUnplugged t = .next u ∧ u.alerts = t.alerts ∧ u.collector.transmitting = none

/-- R166: both attention lines are asserted exactly while the alert queue holds an alert or the store is Degraded or
Stopped, whatever the Collector's plug; they are asserted at power-on; and Take Alerts that empties the queue lets
them fall unless the store holds them up. -/
def Obligations.AttentionLines : Prop :=
  (∀ s : State, (s.attention = true ↔ s.alerts ≠ [] ∨ s.store.state = .degraded ∨ s.store.state = .stopped)
    ∧ (s.attention = false ↔ s.alerts = [] ∧ (s.store.state = .loading ∨ s.store.state = .ready))
    ∧ ∀ x : Port, (s.setPort .collector x).attention = s.attention)
  ∧ (∀ (node : BitVec 6) (speed : BitVec 2) (s t : State), exec (.powerOn node speed) s = .next t →
      t.attention = true)
  ∧ ∀ (p : PortId) (count : Byte) (s t : State), s.takes p = true → s.store.quiet = true →
      1 ≤ count.toNat ∧ count.toNat ≤ 8 → s.alerts.length ≤ count.toNat → exec (.takeAlerts p count) s = .next t →
      (t.attention = true ↔ s.store.state = .degraded ∨ s.store.state = .stopped)

/-- R151, R152, R154 to R157: an entry keeps a roster within 12 records and its keys distinct. A known key keeps its
place, its origin and its first-seen stamp, rises in occurrences, and moves to the newest end of the recency order; a
new key joins both orders at their ends, in a full roster in place of the Gone record oldest in recency, and where all
are Open it is not recorded and the roster is Overflowed. An event entry on an Open record leaves it Open and clears
its acknowledged mark (log 15). -/
def Obligations.FaultEntryKeepsRoster : Prop :=
  ∀ (r : FaultRoster) (k : FaultKey) (o : Origin) (c : EntryKind) (now : Stamp), r.keyed →
    r.records.length ≤ 12 →
    let r' := (r.enter k o c now).1
    r'.keyed ∧ r'.records.length ≤ 12
    ∧ ((r.enter k o c now).2 = true → r'.overflowed = r.overflowed ∧ r'.recency.getLast? = some k
        ∧ ∃ y, r'.find k = some y ∧ y.acked = false ∧ y.lastSeen = now
          ∧ (c = .condition → y.state = .opened)
          ∧ (r.find k = none → y.origin = o ∧ y.firstSeen = now ∧ y.occurrences = 1 ∧ (c = .event → y.state = .gone))
          ∧ ∀ z, r.find k = some z → y.origin = z.origin ∧ y.firstSeen = z.firstSeen
              ∧ y.occurrences = min (z.occurrences + 1) 65535 ∧ (c = .event → y.state = z.state)
              ∧ r'.records.map FaultRecord.key = r.records.map FaultRecord.key)
    ∧ ((r.enter k o c now).2 = false ↔
        r.find k = none ∧ r.records.length = 12 ∧ ∀ x ∈ r.records, x.state = .opened)
    ∧ ((r.enter k o c now).2 = false → r' = { r with overflowed := true })
    ∧ (r.find k = none → r.records.length < 12 →
        r'.records.map FaultRecord.key = r.records.map FaultRecord.key ++ [k] ∧ r'.recency = r.recency ++ [k])
    ∧ (r.find k = none → r.records.length = 12 → ∀ older g newer, r.recency = older ++ g :: newer →
        (∃ x, r.find g = some x ∧ x.state = .gone) → (∀ j ∈ older, ∀ x, r.find j = some x → x.state = .opened) →
        r'.find g = none ∧ r'.recency = older ++ newer ++ [k])
    ∧ ∀ j, j ≠ k → (∃ x, r.find j = some x ∧ x.state = .opened) → r'.find j = r.find j

/-! ## The Audit Store -/

/-- R168: the 256 bytes formed around a body of 250 bytes pass the check of their own page and of no other, and carry
the body and the generation back. -/
def Obligations.PagesPassTheirCheck : Prop :=
  ∀ (p q : PageIx) (generation : Half) (body : List Byte), body.length = 250 →
    (pageBytes p generation body).length = 256
    ∧ (passesCheck q (pageBytes p generation body) = true ↔ q = p)
    ∧ ((pageBytes p generation body).drop 4).take 250 = body
    ∧ halfAt (pageBytes p generation body) 2 = generation.toNat

/-- R170 to R173, R155, R163: how an attempt of the write in flight ends. Read back equal, the write has verified, and
the oldest waiting entry is issued with its page's generation plus 1 (shown with no group open); a bad page is bad no
more and its Store/Page failed record goes Gone. Different or out of time on the first attempt, the second sends the
same. On the second the page is bad, Store/Page failed is entered as a condition in the hub's roster and a Store alert
is queued. A Ready store becomes Degraded, the groups whose tag the write carries are marked failed, and the next
entry is issued. A Degraded one becomes Stopped: Store/Stopped is entered and alerted too, the write queue and the
deferred marks are empty, no group is left, and the closes waiting for one are Idle. Nothing else of the slots, the
segments and the delivery queue changes. -/
def Obligations.StoreWriteAttempts : Prop :=
  ∀ (s : State) (w : WriteInFlight), s.store.sound = true → s.store.inFlight = some w →
    let t := s.store
    let stamp : Stamp := { clock := s.clock, unset := s.clockUnset }
    let failed : FaultKey := { cls := 132, code := 1, subject := some (BitVec.ofNat 8 w.page.val) }
    let stopped : FaultKey := { cls := 132, code := 2, subject := none }
    let alert (k : FaultKey) : Alert :=
      { kind := .store, slot := 0, cls := some k.cls, code := k.code, subject := k.subject, hit := 0, stamp := stamp }
    (t.groups = [] → t.waiting = [] → (t.page w.page).bad = false →
      exec (.storeWriteVerify w.bytes) s
        = .next { s with store := { t with inFlight := none, nodeMismatch := t.nodeMismatch && w.page != 0 } })
    ∧ (∀ e rest, t.groups = [] → t.waiting = e :: rest → (t.page w.page).bad = false → t.lowestDeferred = none →
      exec (.storeWriteVerify w.bytes) s
        = .next { s with store :=
            { t.modPage e.page (fun m => { m with generation := m.generation + 1 }) with
              waiting := rest, nodeMismatch := t.nodeMismatch && w.page != 0
              inFlight := some { page := e.page, generation := (t.page e.page).generation + 1
                                 snapshot := e.snapshot, tags := e.tags, attempt := 1 } } })
    ∧ (t.groups = [] → t.waiting = [] → (t.page w.page).bad = true →
      exec (.storeWriteVerify w.bytes) s
        = .next { s with
            hubFaults := s.hubFaults.finish failed
            store := { t.modPage w.page (fun m => { m with bad := false }) with
              inFlight := none, nodeMismatch := t.nodeMismatch && w.page != 0 } })
    ∧ (w.attempt = 1 →
      exec .storeTransferTimeout s = .next { s with store := { t with inFlight := some { w with attempt := 2 } } }
      ∧ ∀ l, l ≠ w.bytes →
        exec (.storeWriteVerify l) s = .next { s with store := { t with inFlight := some { w with attempt := 2 } } })
    ∧ (2 ≤ w.attempt → ∀ c, (c = .storeTransferTimeout ∨ ∃ l, l ≠ w.bytes ∧ c = .storeWriteVerify l) →
      ∃ u, exec c s = .next u ∧ (u.store.page w.page).bad = true
        ∧ (∀ q, q ≠ w.page → (u.store.page q).bad = (t.page q).bad)
        ∧ u.store.state = (if t.state = .ready then .degraded else .stopped)
        ∧ u.hubFaults = (let r := (s.hubFaults.enter failed .hub .condition stamp).1
            if t.state = .ready then r else (r.enter stopped .hub .condition stamp).1)
        ∧ (s.hubFaults.records.length < 12 → t.state = .ready →
            ∃ y, u.hubFaults.find failed = some y ∧ y.state = .opened)
        ∧ (s.hubFaults.records.length < 11 → t.state = .degraded →
            (∃ y, u.hubFaults.find failed = some y ∧ y.state = .opened)
              ∧ ∃ y, u.hubFaults.find stopped = some y ∧ y.state = .opened)
        ∧ (t.state = .degraded → u.store.waiting = [] ∧ u.store.inFlight = none ∧ u.store.groups = []
            ∧ u.store.lowestDeferred = none
            ∧ ∀ f ∈ t.groups, f.abandoned = false → ∀ port ofAll final kept,
                (s.slot f.slot).close = .storing port ofAll final kept → (u.slot f.slot).close = .idle)
        ∧ (t.state = .ready →
            (∀ e rest, t.waiting = e :: rest → ∃ v, u.store.inFlight = some v ∧ v.page = e.page
              ∧ v.snapshot = e.snapshot ∧ v.attempt = 1)
            ∧ ∀ f ∈ t.groups, (∃ e ∈ t.waiting, f.tag ∈ e.tags) →
                { f with failed := f.failed || w.tags.contains f.tag } ∈ u.store.groups)
        ∧ (s.watch.mode = .closed → s.alerts.length < 31 →
            u.alerts = s.alerts ++ if t.state = .ready then [alert failed] else [alert failed, alert stopped])
        ∧ u.alerts.getLast? = some (alert (if t.state = .ready then failed else stopped))
        ∧ (t.groups = [] → u.slots = s.slots)
        ∧ (∀ i, u.slot i = { s.slot i with close := (u.slot i).close })
        ∧ u.segA = s.segA ∧ u.segB = s.segB ∧ u.queue = s.queue)

/-- R174, R182: Acknowledge Store Fault by the store state: Ready, nothing and Done; Degraded, the store becomes Ready
and Done; Stopped, nothing and Store Stopped. The bad-page marks and the fault records stay: a mark until a later
write of its page verifies. The next page failure makes the store Degraded again. With no alert queued
the lines fall. -/
def Obligations.AcknowledgeStoreFault : Prop :=
  ∀ (p : PortId) (s : State), s.takes p = true → s.store.quiet = true →
    (s.store.state = .ready → exec (.acknowledgeStoreFault p) s = .next (answered p 23 .done [] s))
    ∧ (s.store.state = .degraded →
      exec (.acknowledgeStoreFault p) s
        = .next (answered p 23 .done [] { s with store := { s.store with state := .ready } }))
    ∧ (s.store.state = .stopped → exec (.acknowledgeStoreFault p) s = .next (answered p 23 .storeStopped [] s))
    ∧ ∀ t, s.store.state = .degraded → exec (.acknowledgeStoreFault p) s = .next t →
        t.hubFaults = s.hubFaults ∧ (∀ q, (t.store.page q).bad = (s.store.page q).bad)
          ∧ (t.attention = true ↔ s.alerts ≠ [])
          ∧ ∀ w, s.store.inFlight = some w →
            (2 ≤ w.attempt → ∃ u, exec .storeTransferTimeout t = .next u ∧ u.store.state = .degraded)
            ∧ ∃ u, exec (.storeWriteVerify w.bytes) t = .next u ∧ (u.store.page w.page).bad = false
              ∧ ∀ q, q ≠ w.page → (u.store.page q).bad = (s.store.page q).bad

/-- R60 to R63, R167 and the page layouts of chapter 11: the book page and the closed-period page of a book together
give the book back, whatever stood before. -/
def Obligations.BookPagesRoundTrip : Prop :=
  ∀ (b old : Book) (m n : Nat), b.inRange →
    closedFrom n (padBody (closedBody b)) (bookFrom m (padBody (bookBody b)) old) = b

/-- R151, R152 and the layout of the faults page: a roster of at most 12 records with distinct keys is given back by
its page, both orders and the Overflowed mark included. -/
def Obligations.FaultPagesRoundTrip : Prop :=
  ∀ (r : FaultRoster) (m : Nat), r.keyed → r.records.length ≤ 12 →
    (∀ x ∈ r.records, 1 ≤ x.occurrences ∧ x.occurrences ≤ 65535) → faultsFrom m (padBody (faultsBody r)) = r

/-- R39, R98, R138, R149, R160 and the layouts of pages 0 to 4 and of the settings page: what a slot's roster page and
settings page give back, and page 0. -/
def Obligations.SlotPagesRoundTrip : Prop :=
  (∀ (s : State) (k : Fin 4) (j : Fin 4) (m : Nat),
    (∀ i ∈ rosterSlots k, (1 ≤ (s.slot i).addr ∧ (s.slot i).addr ≤ 8) ∧ (s.slot i).model ≤ 65535
      ∧ (s.slot i).regItem ≤ 64 ∧ (∀ c : Fin 4, (s.slot i).coins[c.val] ≤ 65535) ∧ (s.slot i).note ≤ 65535
      ∧ (s.slot i).reg.inRange) →
    let x := s.slot ⟨4 * k.val + j.val, by omega⟩
    let y := slotFrom m (padBody (rosterBody s k)) (30 * j.val)
    y.listed = x.listed ∧ (x.listed = true → y.table = .absent) ∧ y.seg = x.seg ∧ y.addr = x.addr
      ∧ y.model = x.model ∧ y.regItem = x.regItem ∧ y.coins = x.coins ∧ y.note = x.note ∧ y.reg = x.reg)
  ∧ (∀ (x y : Slot) (m : Nat), y.model = x.model → x.model ≤ 65535 →
    (∀ l, x.active = some l → 1 ≤ l.length ∧ l.length ≤ 64 ∧ ∀ v ∈ l, v ≤ 65535) →
    (∀ v, x.outcome = some v → v ≤ 65535 ∧ x.active.isSome = true) →
    let z := settingsFrom m (padBody (settingsBody x)) y
    z.active = x.active ∧ z.outcome = x.outcome ∧ z.draft.state = .clean ∧ z.draft.values = x.active.getD [])
  ∧ ∀ s : State, watchOf (padBody (formatBody s)) = s.watch ∧ hasFormatMark (padBody (formatBody s)) = true
      ∧ byteAt (padBody (formatBody s)) 2 = s.node.toNat

/-- R63, R167, R176 to R178: the load. A book page of a listed slot that passes its check gives the book its fields
and the page its generation, and the next page is read. A read that fails is made again, and the third leaves the
page's failed content. Page 0 sets the node-mismatch mark when the node number it records is not the sampled one. The
read of the last page ends the load: the store is Ready and each segment is Starting, or Faulted with an input
asserted. Where page 0 passed its check without the format mark, or failed with the four roster pages, the store is
formatted: every slot Unlisted, the watch table at its defaults, no failure entered, and every page on its way: page 0
issued with generation 1, pages 1 to 8 waiting and the others deferred. -/
def Obligations.LoadReadsPages : Prop :=
  ∀ (s : State) (i : SlotIx), s.store.state = .loading →
    let starts (t : State) : Prop :=
      ∀ g, (t.seg g).state = if (s.seg g).inputs.bias || (s.seg g).inputs.short || (s.seg g).inputs.ground
        then .faulted else .starting
    let formats (t : State) : Prop :=
      t.store.state = .ready ∧ t.store.formatted = true ∧ (∀ j, t.slot j = Slot.unlisted)
        ∧ t.watch = { mode := .openAll, rules := Vector.replicate 8 none, presence := true }
        ∧ (∀ q, (∃ y, t.hubFaults.find { cls := 132, code := 1, subject := some q } = some y) →
            ∃ y, s.hubFaults.find { cls := 132, code := 1, subject := some q } = some y)
        ∧ (∃ v, t.store.inFlight = some v ∧ v.page = 0 ∧ v.generation = 1 ∧ v.snapshot = pageBody t 0)
        ∧ t.store.waiting.map WriteEntry.page = [1, 2, 3, 4, 5, 6, 7, 8]
        ∧ (∀ e ∈ t.store.waiting, e.snapshot = pageBody t e.page)
        ∧ (∀ q : PageIx, (t.store.page q).deferred = decide (9 ≤ q.val))
        ∧ ∀ q : PageIx, (t.store.page q).generation = if q = 0 then 1 else 0
    (s.store.load.page = bookPage i → (s.slot i).table ≠ .unlisted →
      (∀ (generation : Half) (body : List Byte), body.length = 250 →
        exec (.storePageRead (pageBytes (bookPage i) generation body)) s
          = .next { s.setSlot i { s.slot i with book := bookFrom (bookPage i).val body (s.slot i).book } with
              store := { s.store.modPage (bookPage i) (fun m => { m with generation := generation }) with
                load := { s.store.load with page := closedPage i, tries := 0 } } })
      ∧ (s.store.load.tries < 2 → ∀ c, (c = .pageReadTimeout
            ∨ ∃ l, passesCheck (bookPage i) l = false ∧ c = .storePageRead l) →
        exec c s = .next { s with store := { s.store with
          load := { s.store.load with tries := s.store.load.tries + 1 } } })
      ∧ (2 ≤ s.store.load.tries →
        exec .pageReadTimeout s
          = .next { s.setSlot i { s.slot i with book := { (s.slot i).book with
                current := Vector.replicate 24 { val := 0, sat := false }, baselines := Vector.replicate 24 none
                epoch := none, paid := 0, award := 0, discont := 0, modelChanged := false, lostCurrent := true } } with
              store := { s.store.modPage (bookPage i) (fun m => { m with generation := 0 }) with
                load := { s.store.load with
                  page := closedPage i, tries := 0, failed := s.store.load.failed ++ [bookPage i] } } }))
    ∧ (s.store.load.page = 0 → ∀ l, passesCheck 0 l = true →
      ∃ t, exec (.storePageRead l) s = .next t ∧ t.store.load.page = 1
        ∧ t.store.nodeMismatch = (l.getD 6 0 != s.node.setWidth 8) ∧ t.slots = s.slots
        ∧ (hasFormatMark ((l.drop 4).take 250) = true → t.watch = watchOf ((l.drop 4).take 250)))
    ∧ (s.store.load.page = faultsPage i → (∀ j, i < j → (s.slot j).table = .unlisted) → s.store.load.zero = .held →
      ∀ l, passesCheck (faultsPage i) l = true →
        ∃ t, exec (.storePageRead l) s = .next t ∧ t.store.state = .ready ∧ t.store.formatted = s.store.formatted
          ∧ starts t
          ∧ (t.slot i).faults = faultsFrom (faultsPage i).val ((l.drop 4).take 250) ∧ t.watch = s.watch)
    ∧ (s.store.load.page = faultsPage i → (∀ j, i < j → (s.slot j).table = .unlisted) → s.store.load.zero = .noMark →
      s.store.waiting = [] → s.store.inFlight = none → s.store.load.tries = 0 →
      ∀ l, passesCheck (faultsPage i) l = true →
        ∃ t, exec (.storePageRead l) s = .next t ∧ starts t ∧ formats t)
    ∧ (s.store.load.page = 4 → (∀ j : SlotIx, j.val < 12 → (s.slot j).table = .unlisted) →
      s.store.load.zero = .failed → s.store.load.failed = [0, 1, 2, 3] → s.store.load.tries = 2 →
      s.store.waiting = [] → s.store.inFlight = none →
        ∃ t, exec .pageReadTimeout s = .next t ∧ starts t ∧ formats t)

/-! ## Ports and the restart -/

/-- R181, R184, R185: a byte and a gap at the receiver; the end of an answer, which ends the request it answers and
sends the next; the Collector unplugged, which keeps nothing of a request but its work, and plugged in again. A
framing error leaves the receiver Hunting, also where it was Hunting already and the byte is the start character (log
20). -/
def Obligations.PortEvents : Prop :=
  ∀ s : State, s.store.quiet = true →
    (∀ p, exec (.frameByteTimeout p) s = .next (s.setPort p { s.port p with receiver := .hunting }))
    ∧ (∀ p b, (s.port p).plugged = true →
      exec (.portByteReceived p b true) s = .next (s.setPort p { s.port p with receiver := .hunting })
      ∧ ((s.port p).receiver = .hunting →
        exec (.portByteReceived p b false) s
          = .next (if b = 0x5A then s.setPort p { s.port p with receiver := .assembling [] } else s))
      ∧ ((s.port p).receiver = .assembling [] →
        exec (.portByteReceived p b false) s
          = .next (s.setPort p { s.port p with
              receiver := if 4 ≤ b.toNat ∧ b.toNat ≤ 160 then .assembling [b] else .hunting })))
    ∧ (∀ p a, (s.port p).plugged = true → (s.port p).transmitting = some a →
      exec (.answerSent p) s
        = .next (s.setPort p { s.port p with
            request := if a.own then none else (s.port p).request
            transmitting := (s.port p).waiting.head?, waiting := (s.port p).waiting.tail }))
    ∧ (s.collector.plugged = true → ∃ t, exec .collectorUnplugged s = .next t
      ∧ t.collector = { receiver := .hunting, request := none, transmitting := none, waiting := []
                        reservation := none, closeAll := none, plugged := false }
      ∧ t.office = s.office ∧ t.store = s.store ∧ t.alerts = s.alerts
      ∧ (∀ g, (t.seg g).haltPending = (s.seg g).haltPending ∧ (t.seg g).exchange = (s.seg g).exchange
          ∧ (t.seg g).state = (s.seg g).state)
      ∧ (t.queue.map fun e => (e.slot, e.priority, e.origin, e.attempts, e.withdrawal))
          = s.queue.map (fun e => (e.slot, e.priority, e.origin, e.attempts, e.withdrawal))
      ∧ ∀ i, closeStateCode (t.slot i).close = closeStateCode (s.slot i).close ∧ (t.slot i).book = (s.slot i).book
          ∧ (t.slot i).draft = (s.slot i).draft)
    ∧ (s.collector.plugged = false →
      exec .collectorPlugged s
        = .next { s with collector := { s.collector with plugged := true, receiver := .hunting } })

/-- R179, R11, R18, R38, R58, R94, R103, R114, R137, R172: what Restart Hub leaves. The restart's own request stays in
progress until its answer has been sent (the model's reading, log 18). The rosters lose no record: the Noisy records
of roster 0 and the Link/Caution records go Gone, and with no input asserted nothing is entered; an asserted input
takes its segment to Faulted with its record Open. -/
def Obligations.RestartHub : Prop :=
  ∀ (p : PortId) (s : State), s.takes p = true → s.store.quiet = true → s.coherent = true →
    let noisy (g : SegId) : FaultKey := { cls := 131, code := 3, subject := some (segByte g) }
    ∃ t, exec (.restartHub p) s = .next t
      ∧ t.clock = s.clock ∧ t.clockUnset = s.clockUnset
      ∧ (s.segA.inputs.asserted = false → s.segB.inputs.asserted = false →
          t.alerts = s.alerts ∧ t.overrun = s.overrun
          ∧ t.hubFaults = (s.hubFaults.finish (noisy .a)).finish (noisy .b))
      ∧ (∀ g kind, (s.seg g).inputs.level kind = true → s.hubFaults.records.length ≤ 6 →
          ∃ y, t.hubFaults.find { cls := 131, code := 1
                                  subject := some (BitVec.ofNat 8 (16 * faultKindNumber kind) ||| segByte g) } = some y
            ∧ y.state = .opened)
      ∧ t.watch = s.watch ∧ t.node = s.node ∧ t.store.state = s.store.state
      ∧ t.store.groups = s.store.groups.map (fun f => { f with abandoned := true })
      ∧ (∀ q, (t.store.page q).bad = (s.store.page q).bad)
      ∧ (∀ w, s.store.inFlight = some w → t.store.inFlight = some w
          ∧ ∀ q, (t.store.page q).generation = (s.store.page q).generation)
      ∧ t.queue = (s.queue.filter fun e => !(e.withdrawal && (s.slot e.slot).draft.state == .delivering)).map
          (fun e => { e with withdrawPort := none })
      ∧ (∀ q, (t.port q).reservation = none ∧ (t.port q).closeAll = none ∧ (t.port q).receiver = .hunting
          ∧ (t.port q).plugged = (s.port q).plugged ∧ (t.port q).request = (if q = p then some 3 else none))
      ∧ ((s.port p).transmitting = none →
          (t.port p).transmitting = some { kind := 3, status := .done, body := [], own := true })
      ∧ (∀ g, (t.seg g).exchange = none ∧ (t.seg g).delivery = none ∧ (t.seg g).haltPending = false
          ∧ (t.seg g).garble = 0 ∧ (t.seg g).noisy = false ∧ (t.seg g).collisions = 0 ∧ (t.seg g).pointer = none
          ∧ (t.seg g).params = (s.seg g).params ∧ (t.seg g).inputs = (s.seg g).inputs
          ∧ (t.seg g).driverOn = false
          ∧ (t.seg g).state = if (s.seg g).inputs.asserted then .faulted else .starting)
      ∧ ∀ i, (t.slot i).close = .idle ∧ (t.slot i).book = (s.slot i).book ∧ (t.slot i).active = (s.slot i).active
          ∧ (t.slot i).identity = (s.slot i).identity ∧ (t.slot i).model = (s.slot i).model
          ∧ (t.slot i).localCheck = (s.slot i).localCheck ∧ (t.slot i).outcome = (s.slot i).outcome
          ∧ (t.slot i).reg = (s.slot i).reg ∧ (t.slot i).question = (s.slot i).question
          ∧ (t.slot i).confirmed = (s.slot i).confirmed ∧ (t.slot i).due.closing = false
          ∧ (t.slot i).draft.values = (s.slot i).draft.values ∧ (t.slot i).draft.state ≠ .delivering
          ∧ (t.slot i).faults = (if (s.slot i).table = .caution
              then (s.slot i).faults.finish { cls := 128, code := 1, subject := none } else (s.slot i).faults)
          ∧ ((s.slot i).table ≠ .unlisted → (t.slot i).table = .absent ∧ (t.slot i).score = 0
              ∧ (t.slot i).silent = 0 ∧ (t.slot i).goodProbes = 0
              ∧ (t.slot i).game = none ∧ (t.slot i).join = none ∧ (t.slot i).due.probe = 3600
              ∧ (t.slot i).due.more = false ∧ (t.slot i).due.fault = (s.slot i).due.fault
              ∧ (t.slot i).due.meter = (s.slot i).due.meter ∧ (t.slot i).due.check = (s.slot i).due.check
              ∧ ((t.slot i).due.resend = true ↔ (s.slot i).due.resend = true
                  ∨ ∃ g x b, (s.seg g).exchange = some x ∧ x.slot = i ∧ x.frame = .faultPoll b)
              ∧ (t.slot i).readback = (s.slot i).readback.map fun _ => { next := 1, held := [] })
          ∧ ((s.slot i).draft.state = .delivering → ∀ e, s.entry i = some e →
              (t.slot i).draft.state = if e.withdrawal then .edited else .queued)

/-! ## Folding, check words and the scheduler -/

/-- R64 to R70: one entry of a report for a meter of the set. Its amount is the raw value after an epoch change, 0
without a baseline, and otherwise the difference modulo 65536. An amount within the limit of the meter and the role is
added to the current and lifetime totals, which saturate with their marks; one beyond it is a discontinuity and adds
nothing. The baseline is the raw value either way, and the closed totals stay. R60, R88: folding a report and making
the copy keep every current-period total at most its lifetime total, and the totals within 32 bits. R59, R75 to R78:
the derived figures of a period: paid plays, awards, replay percentage, average times and takings, each with its
marks; a quotient rounds half up; a meter outside a known set counts as 0. That paid plays carry no mark and awards
their capped mark alone is the model's choice (log 11). -/
def Obligations.FoldRules : Prop :=
  (∀ (meters : List (Fin 24)) (role : FoldRole) (epochChange : Bool) (acc : FoldAcc) (m : Fin 24) (r : Half),
      let acc' := foldEntry meters role epochChange acc (m, r)
      let b := acc.book
      let b' := acc'.book
      let time := m = 15 ∨ m = 16
      let limit := if role = .catchUp then (if time then 115200 else 4000) else if time then 7200 else 250
      let d := if epochChange then r.toNat else match b.baselines[m.val] with
        | none => 0
        | some base => (r.toNat + 65536 - base.toNat) % 65536
      let add (t : Total) : Total :=
        { val := min (t.val + d) 4294967295, sat := t.sat || decide (4294967295 < t.val + d) }
      (¬ m ∈ meters → acc' = acc)
      ∧ (m ∈ meters → b'.baselines[m.val] = some r ∧ b'.closed = b.closed ∧ b'.epoch = b.epoch ∧ b'.period = b.period
          ∧ b'.paid = b.paid ∧ b'.award = b.award
          ∧ (∀ k : Fin 24, k ≠ m → b'.baselines[k.val] = b.baselines[k.val] ∧ b'.current[k.val] = b.current[k.val]
              ∧ b'.lifetime[k.val] = b.lifetime[k.val] ∧ acc'.amounts[k.val] = acc.amounts[k.val])
          ∧ (d ≤ limit → b'.current[m.val] = add b.current[m.val] ∧ b'.lifetime[m.val] = add b.lifetime[m.val]
              ∧ acc'.amounts[m.val] = d ∧ b'.discont = b.discont ∧ acc'.gaps = acc.gaps)
          ∧ (limit < d → b'.current = b.current ∧ b'.lifetime = b.lifetime ∧ acc'.amounts = acc.amounts
              ∧ b'.discont = min (b.discont + 1) 65535 ∧ acc'.gaps = acc.gaps ++ [m])))
  ∧ (∀ (b : Book) (meters : List (Fin 24)) (role : FoldRole) (report : MeterReport) (stamp : Stamp),
      b.lawful → b.inRange →
      (b.foldReport meters role report).book.lawful ∧ (b.foldReport meters role report).book.inRange
        ∧ (b.copied stamp).lawful ∧ (b.copied stamp).inRange)
  ∧ (∀ (identity : Option Identity) (coins : Vector Nat 4) (note : Nat) (v : Vector Total 24),
      let f := figuresOf identity coins note v
      let counts (k : Fin 24) : Prop := ∀ r, identity = some r → k ∈ r.meters
      let sat (ks : List (Fin 24)) : Prop := ∃ k ∈ ks, counts k ∧ v[k.val].sat = true
      ∃ n : Fin 24 → Nat, (∀ k, (counts k → n k = v[k.val].val) ∧ (¬ counts k → n k = 0))
        ∧ f.paid = n 7 - n 8
        ∧ (let a := n 9 + n 10 + n 11 + n 12
           f.awards = min a 4294967295 ∧ (f.awardsCapped = true ↔ 4294967295 < a)
           ∧ (f.paid = 0 → f.percent.noData = true ∧ f.percent.val = 0 ∧ f.percent.capped = false)
           ∧ (0 < f.paid → f.percent.noData = false
              ∧ f.percent.val = min 9999 ((2 * (a * 1000) + f.paid) / (2 * f.paid))
              ∧ (f.percent.capped = true ↔ 9999 < (2 * (a * 1000) + f.paid) / (2 * f.paid)))
           ∧ (f.percent.sourceSat = true ↔ sat [7, 8, 9, 10, 11, 12]))
        ∧ (∀ q time count, (q = f.ballTime ∧ time = 15 ∧ count = 14) ∨ (q = f.gameTime ∧ time = 16 ∧ count = 7) →
            q.capped = false ∧ (q.sourceSat = true ↔ sat [time, count])
            ∧ (n count = 0 → q.noData = true ∧ q.val = 0)
            ∧ (0 < n count → q.noData = false ∧ q.val = (2 * n time + n count) / (2 * n count)))
        ∧ (let k := n 0 * coins[0] + n 1 * coins[1] + n 2 * coins[2] + n 3 * coins[3] + n 4 * note
           f.takings = min k 4294967295 ∧ (f.takingsSat = true ↔ 4294967295 < k)
           ∧ (f.takingsSource = true ↔ sat [0, 1, 2, 3, 4])))

/-- R142, R139: an evaluation's new level lies within the effective limits; above the deadband it is a step above the
clamped base or the maximum, below it a step below or the minimum, and within it the clamped base. R72, R73, R74,
R141, R143 to R145, R110: a routine Meter Report feeds its plays and awards into the window. Short of its width, or
with regulation inert, no more happens. A complete window is evaluated from the pending outcome, or else from the
Active value, and reset: a level equal to that base changes nothing; one equal to the Active value leaves no outcome;
any other is written into a Clean draft, which is Queued by regulation, or stays pending (shown without a
discontinuity). That one report may complete a window just reset is the model's choice where R148 says otherwise
(log 36). -/
def Obligations.EvaluationLevel : Prop :=
  (∀ (r : RegParams) (lo hi percent base : Nat), lo ≤ hi →
    let l := max lo (min base hi)
    let n := nextLevel r (lo, hi) percent base
    lo ≤ n ∧ n ≤ hi
    ∧ (r.target + r.deadband < percent → n = min (l + r.step) hi)
    ∧ (percent < r.target - r.deadband → n = max (l - r.step) lo)
    ∧ (r.target - r.deadband ≤ percent → percent ≤ r.target + r.deadband → n = l))
  ∧ (∀ (g : SegId) (s : State) (x : Exchange) (gs : GameState) (rest : List Byte) (r : MeterReport) (id : Identity),
      s.store.quiet = true → (s.seg g).exchange = some x → (s.seg g).haltPending = false → (s.seg g).noisy = false →
      (s.slot x.slot).table = .active → (s.slot x.slot).score < 64 → x.frame = .meterPoll →
      x.asker = .meterFolding → x.phase = .window → x.received = [] → rest.length ≤ 318 →
      parseMeterReport rest = some r → (s.slot x.slot).identity = some id →
      let i := x.slot
      let y := s.slot i
      let acc := y.book.foldReport id.meters .routine r
      acc.gaps = [] →
      let am := acc.amounts
      let paid := min 65535 (y.book.paid + (am[7] - am[8]))
      let award := min 65535 (y.book.award + (am[9] + am[10] + am[11] + am[12]))
      let fed : Book := { acc.book with paid := paid, award := award }
      let z : Segment := { s.seg g with exchange := none, driverOn := false, garble := (s.seg g).garble - 1 }
      let w (b : Book) : Slot :=
        { y with
          score := y.score - 1, silent := 0, game := some gs, book := b, due := { y.due with meter := 0 }
          localCheck := y.localCheck || (gs == .attract && y.game == some .service) }
      let lifetimePages : List PageIx := if fed.lifetime = y.book.lifetime then [] else [closedPage i]
      let command : Instr := .answerComplete g gs .accepted rest
      let active := y.reg.enabled = true ∧ y.regItem ≠ 0 ∧ y.regItem ≤ id.ranges.length ∧ y.active.isSome = true
      (¬ active ∨ paid < y.reg.window →
        nextChoosing command s g ((s.setSeg g z).setSlot i (w fed))
          ((if { fed with lifetime := y.book.lifetime } = y.book then [] else [bookPage i]) ++ lifetimePages))
      ∧ (∀ values now, active → y.reg.window ≤ paid → 0 < paid → y.active = some values →
          values[y.regItem - 1]? = some now →
          let reset : Slot := w { fed with paid := 0, award := 0 }
          let base := y.outcome.getD now
          let percent := min 9999 ((2 * (award * 1000) + paid) / (2 * paid))
          let level := nextLevel y.reg y.effectiveLimits percent base
          (level = base →
            nextChoosing command s g ((s.setSeg g z).setSlot i reset) (bookPage i :: lifetimePages))
          ∧ (level ≠ base → level = now →
            nextChoosing command s g ((s.setSeg g z).setSlot i { reset with outcome := none })
              (bookPage i :: lifetimePages ++ [settingsPage i]))
          ∧ (level ≠ base → level ≠ now → y.draft.state ≠ .clean →
            nextChoosing command s g ((s.setSeg g z).setSlot i { reset with outcome := some level })
              (bookPage i :: lifetimePages ++ [settingsPage i]))
          ∧ (level ≠ base → level ≠ now → y.draft.state = .clean →
            let freed (p : Port) : Port := if p.reservation = some i then { p with reservation := none } else p
            nextChoosing command s g
              { (s.setSeg g z).setSlot i { reset with
                    outcome := none, confirmed := false
                    draft := { y.draft with
                      values := y.draft.values.set (y.regItem - 1) level, state := .queued } } with
                queue := s.queue ++
                  [{ slot := i, priority := y.reg.priority, origin := .regulation, attempts := 1
                     withdrawal := false, withdrawPort := none }]
                collector := freed s.collector, office := freed s.office }
              (bookPage i :: lifetimePages ++ [settingsPage i]))))

/-- R125, R122: the check word is the weighted sum of the values plus 4099 times the question, modulo 65536, so that
two questions never give one image the same word; changing one item's value changes it by the item's number times the
change; and the change list of two images takes the first to the second. R122, R121, R33, R114: where no closing poll
is due, the start of the segment starts the delivery picked: with changes its first Item Frame of at most 8, without
its Check Query, whose question the slot's counter gives. R123, R131: a usable Item Ack: its count equal to the
frame's moves on to the next frame, or to the check after the last; a shorter one goes to the check, and its frame
does not count among those acknowledged (the model's choice, log 34). An item taken sets the local-check mark. From a
table not in Attract the delivery is suspended. -/
def Obligations.CheckWordAndChangeList : Prop :=
  (∀ (values : List Nat) (q q' : BitVec 4), q ≠ q' → checkWord values q ≠ checkWord values q')
  ∧ (∀ (values : List Nat) (q : BitVec 4), checkWord values q
      = (((List.range values.length).map fun k => (k + 1) * (values.getD k 0 + 1)).sum + 4099 * q.toNat) % 65536)
  ∧ (∀ (values : List Nat) (k v : Nat) (q : BitVec 4), k < values.length →
      checkWord (values.set k v) q = (checkWord (values.set k 0) q + (k + 1) * v) % 65536)
  ∧ (∀ (active draft : List Nat), active.length = draft.length →
      (changeList active draft).foldl (fun l x => l.set (x.1 - 1) x.2) active = draft
        ∧ (changeList active draft).Pairwise (fun x y => x.1 < y.1)
        ∧ ∀ x ∈ changeList active draft, active[x.1 - 1]? ≠ some x.2)
  ∧ (∀ (g : SegId) (s : State) (e : DeliveryEntry) (active : List Nat), s.store.quiet = true →
      (s.seg g).state = .starting → (s.seg g).exchange = none → (s.seg g).delivery = none →
      (s.seg g).haltPending = false →
      (∀ j : SlotIx, (s.slot j).table ≠ .unlisted → (s.slot j).seg = g → (s.slot j).due.closing = false) →
      pickEntry g s = some e → (s.slot e.slot).active = some active →
      let i := e.slot
      let y := s.slot i
      let changes := changeList active y.draft.values
      let started : Slot :=
        { y with
          draft := { y.draft with state := .delivering }
          readback := y.readback.map fun _ => { next := 1, held := [] } }
      let sends (f : HubFrame) : Exchange :=
        { slot := i, address := y.addr, frame := f, asker := .delivery, phase := .waiting, received := [] }
      let after (z : Segment) (v : Slot) : State :=
        { (s.setSeg g z).setSlot i v with
          hubFaults := s.hubFaults.finish { cls := 131, code := 2, subject := some (segByte g) } }
      (changes ≠ [] →
        exec (.startIdleElapsed g) s = .next (after
          { s.seg g with
            state := .running, exchange := some (sends (.itemFrame (changes.take 8)))
            delivery := some { slot := i, changes := changes, acked := 0, phase := .items, question := none } }
          started))
      ∧ (changes = [] →
        exec (.startIdleElapsed g) s = .next (after
          { s.seg g with
            state := .running, exchange := some (sends (.checkQuery y.question))
            delivery := some
              { slot := i, changes := [], acked := 0, phase := .check, question := some y.question } }
          { started with question := y.question + 1 })))
  ∧ (∀ (g : SegId) (s : State) (x : Exchange) (d : DeliveryRecord) (e : DeliveryEntry) (items : List (Nat × Nat))
      (gs : GameState) (n : Byte), s.store.quiet = true → (s.seg g).exchange = some x →
      (s.seg g).haltPending = false → (s.seg g).noisy = false → (s.seg g).delivery = some d → d.slot = x.slot →
      x.phase = .window → x.received = [] → x.frame = .itemFrame items → n.toNat ≤ items.length →
      s.entry x.slot = some e → e.withdrawal = false → (s.slot x.slot).table = .active →
      (s.slot x.slot).score < 64 →
      let y := s.slot x.slot
      let z : Segment := { s.seg g with exchange := none, driverOn := false, garble := (s.seg g).garble - 1 }
      let w : Slot :=
        { y with
          score := y.score - 1, silent := 0, game := some gs
          localCheck := y.localCheck || (gs == .attract && y.game == some .service) || decide (1 ≤ n.toNat) }
      (gs = .attract → n.toNat = items.length → d.changes.length ≤ 8 * (d.acked + 1) →
        exec (.answerComplete g gs .accepted [n]) s
          = .next (choose g ((s.setSeg g
              { z with delivery := some { d with acked := d.acked + 1, phase := .check } }).setSlot x.slot w)))
      ∧ (gs = .attract → n.toNat = items.length → 8 * (d.acked + 1) < d.changes.length →
        exec (.answerComplete g gs .accepted [n]) s
          = .next (choose g ((s.setSeg g
              { z with delivery := some { d with acked := d.acked + 1, phase := .items } }).setSlot x.slot w)))
      ∧ (gs = .attract → n.toNat < items.length →
        exec (.answerComplete g gs .accepted [n]) s
          = .next (choose g ((s.setSeg g { z with delivery := some { d with phase := .check } }).setSlot x.slot w)))
      ∧ (gs ≠ .attract →
        exec (.answerComplete g gs .accepted [n]) s
          = .next (choose g ((s.setSeg g { z with delivery := none }).setSlot x.slot
              { w with draft := { y.draft with state := .queued } }))))

/-- R30 to R32: the choice at an opportunity: the next frame of the delivery in flight, then a closing poll to the
lowest slot marked; at no opportunity, nothing. R33, R34: the entry picked is eligible, and no eligible entry has a
lower priority value, or the same one and a lower slot; none is picked exactly when none is eligible. The slot visited
has something due, and no slot that has lies between the pointer and it. -/
def Obligations.SchedulerOrder : Prop :=
  (∀ (g : SegId) (s : State),
      let y := s.seg g
      let open' := y.state = .running ∧ y.exchange = none ∧ y.haltPending = false
      let sends (i : SlotIx) (f : HubFrame) (a : Asker) : Exchange :=
        { slot := i, address := (s.slot i).addr, frame := f, asker := a, phase := .waiting, received := [] }
      (¬ open' → choose g s = s)
      ∧ (∀ d, open' → y.delivery = some d → d.phase = .items →
        choose g s = s.setSeg g { y with
          exchange := some (sends d.slot (.itemFrame ((d.changes.drop (8 * d.acked)).take 8)) .delivery) })
      ∧ (∀ d, open' → y.delivery = some d → d.phase = .check →
        choose g s = (s.setSeg g { y with
            delivery := some { d with question := some (s.slot d.slot).question }
            exchange := some (sends d.slot (.checkQuery (s.slot d.slot).question) .delivery) }).setSlot d.slot
          { s.slot d.slot with question := (s.slot d.slot).question + 1 })
      ∧ (∀ i : SlotIx, open' → y.delivery = none → (s.slot i).table ≠ .unlisted → (s.slot i).seg = g →
        (s.slot i).due.closing = true →
        (∀ j : SlotIx, j < i → (s.slot j).table ≠ .unlisted → (s.slot j).seg = g → (s.slot j).due.closing = false) →
        choose g s = s.setSeg g { y with exchange := some (sends i .meterPoll .collection) }))
  ∧ (∀ (g : SegId) (s : State),
      let fits (e : DeliveryEntry) : Prop := (s.slot e.slot).seg = g ∧ (s.slot e.slot).draft.state = .queued
        ∧ ((s.slot e.slot).table = .active ∨ (s.slot e.slot).table = .caution) ∧ (s.slot e.slot).game = some .attract
      let due (i : SlotIx) : Prop := (s.slot i).table ≠ .unlisted ∧ (s.slot i).seg = g
        ∧ (dueExchange (s.seg g).params (s.slot i)).isSome = true
      (∀ e, pickEntry g s = some e → e ∈ s.queue ∧ fits e
        ∧ ∀ f ∈ s.queue, fits f → e.priority < f.priority ∨ (e.priority = f.priority ∧ e.slot ≤ f.slot))
      ∧ (pickEntry g s = none ↔ ∀ e ∈ s.queue, ¬ fits e)
      ∧ (∀ i, nextVisit g s = some i → due i ∧ match (s.seg g).pointer with
        | none => ∀ j, due j → i ≤ j
        | some p => (p < i → ∀ j, due j → p < j → i ≤ j) ∧ (i ≤ p → ∀ j, due j → j ≤ p ∧ i ≤ j))
      ∧ (nextVisit g s = none ↔ ∀ i, ¬ due i))
end

