-- ==== Sys2Proof/Laws/State.lean ====
section
/-! SUPPORT. The lemmas of the state's accessors: what each update leaves of each field, and what is read back after a
write. Later proofs rewrite with these and unfold no record update. -/

namespace Sys2Proof.Machine

/-! ## Segments -/

@[simp] theorem seg_setSeg_same (s : State) (g : SegId) (x : Segment) : (s.setSeg g x).seg g = x := by
  cases g <;> rfl

theorem seg_setSeg (s : State) (g h : SegId) (x : Segment) :
    (s.setSeg g x).seg h = if h = g then x else s.seg h := by
  cases g <;> cases h <;> rfl

theorem seg_setSeg_other (s : State) {g h : SegId} (x : Segment) (hne : h ≠ g) :
    (s.setSeg g x).seg h = s.seg h := by
  cases g <;> cases h <;> first | rfl | exact absurd rfl hne

@[simp] theorem setSeg_setSeg (s : State) (g : SegId) (x y : Segment) :
    (s.setSeg g x).setSeg g y = s.setSeg g y := by
  cases g <;> rfl

@[simp] theorem setSeg_seg (s : State) (g : SegId) : s.setSeg g (s.seg g) = s := by
  cases g <;> rfl

theorem modSeg_def (s : State) (g : SegId) (f : Segment → Segment) : s.modSeg g f = s.setSeg g (f (s.seg g)) := rfl

@[simp] theorem seg_modSeg_same (s : State) (g : SegId) (f : Segment → Segment) :
    (s.modSeg g f).seg g = f (s.seg g) := by
  simp [modSeg_def]

theorem seg_modSeg_other (s : State) {g h : SegId} (f : Segment → Segment) (hne : h ≠ g) :
    (s.modSeg g f).seg h = s.seg h := seg_setSeg_other s _ hne

@[simp] theorem slot_setSeg (s : State) (g : SegId) (x : Segment) (i : SlotIx) : (s.setSeg g x).slot i = s.slot i := by
  cases g <;> rfl

@[simp] theorem port_setSeg (s : State) (g : SegId) (x : Segment) (p : PortId) : (s.setSeg g x).port p = s.port p := by
  cases g <;> cases p <;> rfl

@[simp] theorem now_setSeg (s : State) (g : SegId) (x : Segment) : (s.setSeg g x).now = s.now := by
  cases g <;> rfl

@[simp] theorem setSeg_clock (s : State) (g : SegId) (x : Segment) : (s.setSeg g x).clock = s.clock := by
  cases g <;> rfl

@[simp] theorem setSeg_clockUnset (s : State) (g : SegId) (x : Segment) : (s.setSeg g x).clockUnset = s.clockUnset := by
  cases g <;> rfl

@[simp] theorem setSeg_slots (s : State) (g : SegId) (x : Segment) : (s.setSeg g x).slots = s.slots := by
  cases g <;> rfl

@[simp] theorem setSeg_queue (s : State) (g : SegId) (x : Segment) : (s.setSeg g x).queue = s.queue := by
  cases g <;> rfl

@[simp] theorem setSeg_hubFaults (s : State) (g : SegId) (x : Segment) : (s.setSeg g x).hubFaults = s.hubFaults := by
  cases g <;> rfl

@[simp] theorem setSeg_watch (s : State) (g : SegId) (x : Segment) : (s.setSeg g x).watch = s.watch := by
  cases g <;> rfl

@[simp] theorem setSeg_alerts (s : State) (g : SegId) (x : Segment) : (s.setSeg g x).alerts = s.alerts := by
  cases g <;> rfl

@[simp] theorem setSeg_overrun (s : State) (g : SegId) (x : Segment) : (s.setSeg g x).overrun = s.overrun := by
  cases g <;> rfl

@[simp] theorem setSeg_store (s : State) (g : SegId) (x : Segment) : (s.setSeg g x).store = s.store := by
  cases g <;> rfl

@[simp] theorem setSeg_collector (s : State) (g : SegId) (x : Segment) : (s.setSeg g x).collector = s.collector := by
  cases g <;> rfl

@[simp] theorem setSeg_office (s : State) (g : SegId) (x : Segment) : (s.setSeg g x).office = s.office := by
  cases g <;> rfl

@[simp] theorem setSeg_node (s : State) (g : SegId) (x : Segment) : (s.setSeg g x).node = s.node := by
  cases g <;> rfl

@[simp] theorem setSeg_speedStrap (s : State) (g : SegId) (x : Segment) : (s.setSeg g x).speedStrap = s.speedStrap := by
  cases g <;> rfl

@[simp] theorem setSeg_pending (s : State) (g : SegId) (x : Segment) : (s.setSeg g x).pending = s.pending := by
  cases g <;> rfl

@[simp] theorem modSeg_clock (s : State) (g : SegId) (f : Segment → Segment) : (s.modSeg g f).clock = s.clock := by
  cases g <;> rfl

@[simp] theorem modSeg_clockUnset (s : State) (g : SegId) (f : Segment → Segment) : (s.modSeg g f).clockUnset = s.clockUnset := by
  cases g <;> rfl

@[simp] theorem modSeg_slots (s : State) (g : SegId) (f : Segment → Segment) : (s.modSeg g f).slots = s.slots := by
  cases g <;> rfl

@[simp] theorem modSeg_queue (s : State) (g : SegId) (f : Segment → Segment) : (s.modSeg g f).queue = s.queue := by
  cases g <;> rfl

@[simp] theorem modSeg_hubFaults (s : State) (g : SegId) (f : Segment → Segment) : (s.modSeg g f).hubFaults = s.hubFaults := by
  cases g <;> rfl

@[simp] theorem modSeg_watch (s : State) (g : SegId) (f : Segment → Segment) : (s.modSeg g f).watch = s.watch := by
  cases g <;> rfl

@[simp] theorem modSeg_alerts (s : State) (g : SegId) (f : Segment → Segment) : (s.modSeg g f).alerts = s.alerts := by
  cases g <;> rfl

@[simp] theorem modSeg_overrun (s : State) (g : SegId) (f : Segment → Segment) : (s.modSeg g f).overrun = s.overrun := by
  cases g <;> rfl

@[simp] theorem modSeg_store (s : State) (g : SegId) (f : Segment → Segment) : (s.modSeg g f).store = s.store := by
  cases g <;> rfl

@[simp] theorem modSeg_collector (s : State) (g : SegId) (f : Segment → Segment) : (s.modSeg g f).collector = s.collector := by
  cases g <;> rfl

@[simp] theorem modSeg_office (s : State) (g : SegId) (f : Segment → Segment) : (s.modSeg g f).office = s.office := by
  cases g <;> rfl

@[simp] theorem modSeg_node (s : State) (g : SegId) (f : Segment → Segment) : (s.modSeg g f).node = s.node := by
  cases g <;> rfl

@[simp] theorem modSeg_speedStrap (s : State) (g : SegId) (f : Segment → Segment) : (s.modSeg g f).speedStrap = s.speedStrap := by
  cases g <;> rfl

@[simp] theorem modSeg_pending (s : State) (g : SegId) (f : Segment → Segment) : (s.modSeg g f).pending = s.pending := by
  cases g <;> rfl

@[simp] theorem slot_modSeg (s : State) (g : SegId) (f : Segment → Segment) (i : SlotIx) :
    (s.modSeg g f).slot i = s.slot i := slot_setSeg s g _ i

@[simp] theorem port_modSeg (s : State) (g : SegId) (f : Segment → Segment) (p : PortId) :
    (s.modSeg g f).port p = s.port p := port_setSeg s g _ p

@[simp] theorem now_modSeg (s : State) (g : SegId) (f : Segment → Segment) : (s.modSeg g f).now = s.now :=
  now_setSeg s g _

/-! ## Slots -/

@[simp] theorem slot_setSlot_same (s : State) (i : SlotIx) (x : Slot) : (s.setSlot i x).slot i = x := by
  simp [State.slot, State.setSlot]

theorem slot_setSlot_other (s : State) {i j : SlotIx} (x : Slot) (hne : j ≠ i) :
    (s.setSlot i x).slot j = s.slot j := by
  have : i.val ≠ j.val := fun h => hne (Fin.ext h.symm)
  simp [State.slot, State.setSlot, Vector.getElem_set_ne, this]

theorem slot_setSlot (s : State) (i j : SlotIx) (x : Slot) :
    (s.setSlot i x).slot j = if j = i then x else s.slot j := by
  split
  · next h => subst h; exact slot_setSlot_same s j x
  · next h => exact slot_setSlot_other s x h

@[simp] theorem setSlot_setSlot (s : State) (i : SlotIx) (x y : Slot) :
    (s.setSlot i x).setSlot i y = s.setSlot i y := by
  simp [State.setSlot]

@[simp] theorem setSlot_slot (s : State) (i : SlotIx) : s.setSlot i (s.slot i) = s := by
  simp [State.setSlot, State.slot]

theorem modSlot_def (s : State) (i : SlotIx) (f : Slot → Slot) : s.modSlot i f = s.setSlot i (f (s.slot i)) := rfl

@[simp] theorem slot_modSlot_same (s : State) (i : SlotIx) (f : Slot → Slot) :
    (s.modSlot i f).slot i = f (s.slot i) := slot_setSlot_same s i _

theorem slot_modSlot_other (s : State) {i j : SlotIx} (f : Slot → Slot) (hne : j ≠ i) :
    (s.modSlot i f).slot j = s.slot j := slot_setSlot_other s _ hne

@[simp] theorem seg_setSlot (s : State) (i : SlotIx) (x : Slot) (g : SegId) : (s.setSlot i x).seg g = s.seg g := by
  cases g <;> rfl

@[simp] theorem port_setSlot (s : State) (i : SlotIx) (x : Slot) (p : PortId) :
    (s.setSlot i x).port p = s.port p := by
  cases p <;> rfl

@[simp] theorem seg_modSlot (s : State) (i : SlotIx) (f : Slot → Slot) (g : SegId) :
    (s.modSlot i f).seg g = s.seg g := seg_setSlot s i _ g

@[simp] theorem port_modSlot (s : State) (i : SlotIx) (f : Slot → Slot) (p : PortId) :
    (s.modSlot i f).port p = s.port p := port_setSlot s i _ p

@[simp] theorem now_setSlot (s : State) (i : SlotIx) (x : Slot) : (s.setSlot i x).now = s.now := rfl

@[simp] theorem now_modSlot (s : State) (i : SlotIx) (f : Slot → Slot) : (s.modSlot i f).now = s.now := rfl

@[simp] theorem setSlot_clock (s : State) (i : SlotIx) (x : Slot) : (s.setSlot i x).clock = s.clock := rfl

@[simp] theorem setSlot_clockUnset (s : State) (i : SlotIx) (x : Slot) : (s.setSlot i x).clockUnset = s.clockUnset := rfl

@[simp] theorem setSlot_segA (s : State) (i : SlotIx) (x : Slot) : (s.setSlot i x).segA = s.segA := rfl

@[simp] theorem setSlot_segB (s : State) (i : SlotIx) (x : Slot) : (s.setSlot i x).segB = s.segB := rfl

@[simp] theorem setSlot_queue (s : State) (i : SlotIx) (x : Slot) : (s.setSlot i x).queue = s.queue := rfl

@[simp] theorem setSlot_hubFaults (s : State) (i : SlotIx) (x : Slot) : (s.setSlot i x).hubFaults = s.hubFaults := rfl

@[simp] theorem setSlot_watch (s : State) (i : SlotIx) (x : Slot) : (s.setSlot i x).watch = s.watch := rfl

@[simp] theorem setSlot_alerts (s : State) (i : SlotIx) (x : Slot) : (s.setSlot i x).alerts = s.alerts := rfl

@[simp] theorem setSlot_overrun (s : State) (i : SlotIx) (x : Slot) : (s.setSlot i x).overrun = s.overrun := rfl

@[simp] theorem setSlot_store (s : State) (i : SlotIx) (x : Slot) : (s.setSlot i x).store = s.store := rfl

@[simp] theorem setSlot_collector (s : State) (i : SlotIx) (x : Slot) : (s.setSlot i x).collector = s.collector := rfl

@[simp] theorem setSlot_office (s : State) (i : SlotIx) (x : Slot) : (s.setSlot i x).office = s.office := rfl

@[simp] theorem setSlot_node (s : State) (i : SlotIx) (x : Slot) : (s.setSlot i x).node = s.node := rfl

@[simp] theorem setSlot_speedStrap (s : State) (i : SlotIx) (x : Slot) : (s.setSlot i x).speedStrap = s.speedStrap := rfl

@[simp] theorem setSlot_pending (s : State) (i : SlotIx) (x : Slot) : (s.setSlot i x).pending = s.pending := rfl

@[simp] theorem modSlot_clock (s : State) (i : SlotIx) (f : Slot → Slot) : (s.modSlot i f).clock = s.clock := rfl

@[simp] theorem modSlot_clockUnset (s : State) (i : SlotIx) (f : Slot → Slot) : (s.modSlot i f).clockUnset = s.clockUnset := rfl

@[simp] theorem modSlot_segA (s : State) (i : SlotIx) (f : Slot → Slot) : (s.modSlot i f).segA = s.segA := rfl

@[simp] theorem modSlot_segB (s : State) (i : SlotIx) (f : Slot → Slot) : (s.modSlot i f).segB = s.segB := rfl

@[simp] theorem modSlot_queue (s : State) (i : SlotIx) (f : Slot → Slot) : (s.modSlot i f).queue = s.queue := rfl

@[simp] theorem modSlot_hubFaults (s : State) (i : SlotIx) (f : Slot → Slot) : (s.modSlot i f).hubFaults = s.hubFaults := rfl

@[simp] theorem modSlot_watch (s : State) (i : SlotIx) (f : Slot → Slot) : (s.modSlot i f).watch = s.watch := rfl

@[simp] theorem modSlot_alerts (s : State) (i : SlotIx) (f : Slot → Slot) : (s.modSlot i f).alerts = s.alerts := rfl

@[simp] theorem modSlot_overrun (s : State) (i : SlotIx) (f : Slot → Slot) : (s.modSlot i f).overrun = s.overrun := rfl

@[simp] theorem modSlot_store (s : State) (i : SlotIx) (f : Slot → Slot) : (s.modSlot i f).store = s.store := rfl

@[simp] theorem modSlot_collector (s : State) (i : SlotIx) (f : Slot → Slot) : (s.modSlot i f).collector = s.collector := rfl

@[simp] theorem modSlot_office (s : State) (i : SlotIx) (f : Slot → Slot) : (s.modSlot i f).office = s.office := rfl

@[simp] theorem modSlot_node (s : State) (i : SlotIx) (f : Slot → Slot) : (s.modSlot i f).node = s.node := rfl

@[simp] theorem modSlot_speedStrap (s : State) (i : SlotIx) (f : Slot → Slot) : (s.modSlot i f).speedStrap = s.speedStrap := rfl

@[simp] theorem modSlot_pending (s : State) (i : SlotIx) (f : Slot → Slot) : (s.modSlot i f).pending = s.pending := rfl

/-! ## Ports -/

@[simp] theorem port_setPort_same (s : State) (p : PortId) (x : Port) : (s.setPort p x).port p = x := by
  cases p <;> rfl

theorem port_setPort_other (s : State) {p q : PortId} (x : Port) (hne : q ≠ p) :
    (s.setPort p x).port q = s.port q := by
  cases p <;> cases q <;> first | rfl | exact absurd rfl hne

@[simp] theorem setPort_setPort (s : State) (p : PortId) (x y : Port) :
    (s.setPort p x).setPort p y = s.setPort p y := by
  cases p <;> rfl

@[simp] theorem setPort_port (s : State) (p : PortId) : s.setPort p (s.port p) = s := by
  cases p <;> rfl

theorem modPort_def (s : State) (p : PortId) (f : Port → Port) : s.modPort p f = s.setPort p (f (s.port p)) := rfl

@[simp] theorem port_modPort_same (s : State) (p : PortId) (f : Port → Port) :
    (s.modPort p f).port p = f (s.port p) := port_setPort_same s p _

theorem port_modPort_other (s : State) {p q : PortId} (f : Port → Port) (hne : q ≠ p) :
    (s.modPort p f).port q = s.port q := port_setPort_other s _ hne

@[simp] theorem seg_setPort (s : State) (p : PortId) (x : Port) (g : SegId) : (s.setPort p x).seg g = s.seg g := by
  cases p <;> cases g <;> rfl

@[simp] theorem slot_setPort (s : State) (p : PortId) (x : Port) (i : SlotIx) :
    (s.setPort p x).slot i = s.slot i := by
  cases p <;> rfl

@[simp] theorem seg_modPort (s : State) (p : PortId) (f : Port → Port) (g : SegId) :
    (s.modPort p f).seg g = s.seg g := seg_setPort s p _ g

@[simp] theorem slot_modPort (s : State) (p : PortId) (f : Port → Port) (i : SlotIx) :
    (s.modPort p f).slot i = s.slot i := slot_setPort s p _ i

@[simp] theorem now_setPort (s : State) (p : PortId) (x : Port) : (s.setPort p x).now = s.now := by
  cases p <;> rfl

@[simp] theorem now_modPort (s : State) (p : PortId) (f : Port → Port) : (s.modPort p f).now = s.now :=
  now_setPort s p _

@[simp] theorem setPort_clock (s : State) (p : PortId) (x : Port) : (s.setPort p x).clock = s.clock := by
  cases p <;> rfl

@[simp] theorem setPort_clockUnset (s : State) (p : PortId) (x : Port) : (s.setPort p x).clockUnset = s.clockUnset := by
  cases p <;> rfl

@[simp] theorem setPort_segA (s : State) (p : PortId) (x : Port) : (s.setPort p x).segA = s.segA := by
  cases p <;> rfl

@[simp] theorem setPort_segB (s : State) (p : PortId) (x : Port) : (s.setPort p x).segB = s.segB := by
  cases p <;> rfl

@[simp] theorem setPort_slots (s : State) (p : PortId) (x : Port) : (s.setPort p x).slots = s.slots := by
  cases p <;> rfl

@[simp] theorem setPort_queue (s : State) (p : PortId) (x : Port) : (s.setPort p x).queue = s.queue := by
  cases p <;> rfl

@[simp] theorem setPort_hubFaults (s : State) (p : PortId) (x : Port) : (s.setPort p x).hubFaults = s.hubFaults := by
  cases p <;> rfl

@[simp] theorem setPort_watch (s : State) (p : PortId) (x : Port) : (s.setPort p x).watch = s.watch := by
  cases p <;> rfl

@[simp] theorem setPort_alerts (s : State) (p : PortId) (x : Port) : (s.setPort p x).alerts = s.alerts := by
  cases p <;> rfl

@[simp] theorem setPort_overrun (s : State) (p : PortId) (x : Port) : (s.setPort p x).overrun = s.overrun := by
  cases p <;> rfl

@[simp] theorem setPort_store (s : State) (p : PortId) (x : Port) : (s.setPort p x).store = s.store := by
  cases p <;> rfl

@[simp] theorem setPort_node (s : State) (p : PortId) (x : Port) : (s.setPort p x).node = s.node := by
  cases p <;> rfl

@[simp] theorem setPort_speedStrap (s : State) (p : PortId) (x : Port) : (s.setPort p x).speedStrap = s.speedStrap := by
  cases p <;> rfl

@[simp] theorem setPort_pending (s : State) (p : PortId) (x : Port) : (s.setPort p x).pending = s.pending := by
  cases p <;> rfl

@[simp] theorem modPort_clock (s : State) (p : PortId) (f : Port → Port) : (s.modPort p f).clock = s.clock := by
  cases p <;> rfl

@[simp] theorem modPort_clockUnset (s : State) (p : PortId) (f : Port → Port) : (s.modPort p f).clockUnset = s.clockUnset := by
  cases p <;> rfl

@[simp] theorem modPort_segA (s : State) (p : PortId) (f : Port → Port) : (s.modPort p f).segA = s.segA := by
  cases p <;> rfl

@[simp] theorem modPort_segB (s : State) (p : PortId) (f : Port → Port) : (s.modPort p f).segB = s.segB := by
  cases p <;> rfl

@[simp] theorem modPort_slots (s : State) (p : PortId) (f : Port → Port) : (s.modPort p f).slots = s.slots := by
  cases p <;> rfl

@[simp] theorem modPort_queue (s : State) (p : PortId) (f : Port → Port) : (s.modPort p f).queue = s.queue := by
  cases p <;> rfl

@[simp] theorem modPort_hubFaults (s : State) (p : PortId) (f : Port → Port) : (s.modPort p f).hubFaults = s.hubFaults := by
  cases p <;> rfl

@[simp] theorem modPort_watch (s : State) (p : PortId) (f : Port → Port) : (s.modPort p f).watch = s.watch := by
  cases p <;> rfl

@[simp] theorem modPort_alerts (s : State) (p : PortId) (f : Port → Port) : (s.modPort p f).alerts = s.alerts := by
  cases p <;> rfl

@[simp] theorem modPort_overrun (s : State) (p : PortId) (f : Port → Port) : (s.modPort p f).overrun = s.overrun := by
  cases p <;> rfl

@[simp] theorem modPort_store (s : State) (p : PortId) (f : Port → Port) : (s.modPort p f).store = s.store := by
  cases p <;> rfl

@[simp] theorem modPort_node (s : State) (p : PortId) (f : Port → Port) : (s.modPort p f).node = s.node := by
  cases p <;> rfl

@[simp] theorem modPort_speedStrap (s : State) (p : PortId) (f : Port → Port) : (s.modPort p f).speedStrap = s.speedStrap := by
  cases p <;> rfl

@[simp] theorem modPort_pending (s : State) (p : PortId) (f : Port → Port) : (s.modPort p f).pending = s.pending := by
  cases p <;> rfl

/-! ## Store and the queue of commands -/

@[simp] theorem modStore_store (s : State) (f : Store → Store) : (s.modStore f).store = f s.store := rfl

@[simp] theorem seg_modStore (s : State) (f : Store → Store) (g : SegId) : (s.modStore f).seg g = s.seg g := by
  cases g <;> rfl

@[simp] theorem slot_modStore (s : State) (f : Store → Store) (i : SlotIx) : (s.modStore f).slot i = s.slot i := rfl

@[simp] theorem port_modStore (s : State) (f : Store → Store) (p : PortId) : (s.modStore f).port p = s.port p := by
  cases p <;> rfl

@[simp] theorem now_modStore (s : State) (f : Store → Store) : (s.modStore f).now = s.now := rfl

@[simp] theorem withPending_pending (s : State) (q : List Instr) : (s.withPending q).pending = q := rfl

@[simp] theorem seg_withPending (s : State) (q : List Instr) (g : SegId) : (s.withPending q).seg g = s.seg g := by
  cases g <;> rfl

@[simp] theorem slot_withPending (s : State) (q : List Instr) (i : SlotIx) : (s.withPending q).slot i = s.slot i := rfl

@[simp] theorem port_withPending (s : State) (q : List Instr) (p : PortId) : (s.withPending q).port p = s.port p := by
  cases p <;> rfl

@[simp] theorem modStore_clock (s : State) (f : Store → Store) : (s.modStore f).clock = s.clock := rfl

@[simp] theorem modStore_clockUnset (s : State) (f : Store → Store) : (s.modStore f).clockUnset = s.clockUnset := rfl

@[simp] theorem modStore_segA (s : State) (f : Store → Store) : (s.modStore f).segA = s.segA := rfl

@[simp] theorem modStore_segB (s : State) (f : Store → Store) : (s.modStore f).segB = s.segB := rfl

@[simp] theorem modStore_slots (s : State) (f : Store → Store) : (s.modStore f).slots = s.slots := rfl

@[simp] theorem modStore_queue (s : State) (f : Store → Store) : (s.modStore f).queue = s.queue := rfl

@[simp] theorem modStore_hubFaults (s : State) (f : Store → Store) : (s.modStore f).hubFaults = s.hubFaults := rfl

@[simp] theorem modStore_watch (s : State) (f : Store → Store) : (s.modStore f).watch = s.watch := rfl

@[simp] theorem modStore_alerts (s : State) (f : Store → Store) : (s.modStore f).alerts = s.alerts := rfl

@[simp] theorem modStore_overrun (s : State) (f : Store → Store) : (s.modStore f).overrun = s.overrun := rfl

@[simp] theorem modStore_collector (s : State) (f : Store → Store) : (s.modStore f).collector = s.collector := rfl

@[simp] theorem modStore_office (s : State) (f : Store → Store) : (s.modStore f).office = s.office := rfl

@[simp] theorem modStore_node (s : State) (f : Store → Store) : (s.modStore f).node = s.node := rfl

@[simp] theorem modStore_speedStrap (s : State) (f : Store → Store) : (s.modStore f).speedStrap = s.speedStrap := rfl

@[simp] theorem modStore_pending (s : State) (f : Store → Store) : (s.modStore f).pending = s.pending := rfl

@[simp] theorem withPending_clock (s : State) (q : List Instr) : (s.withPending q).clock = s.clock := rfl

@[simp] theorem withPending_clockUnset (s : State) (q : List Instr) : (s.withPending q).clockUnset = s.clockUnset := rfl

@[simp] theorem withPending_segA (s : State) (q : List Instr) : (s.withPending q).segA = s.segA := rfl

@[simp] theorem withPending_segB (s : State) (q : List Instr) : (s.withPending q).segB = s.segB := rfl

@[simp] theorem withPending_slots (s : State) (q : List Instr) : (s.withPending q).slots = s.slots := rfl

@[simp] theorem withPending_queue (s : State) (q : List Instr) : (s.withPending q).queue = s.queue := rfl

@[simp] theorem withPending_hubFaults (s : State) (q : List Instr) : (s.withPending q).hubFaults = s.hubFaults := rfl

@[simp] theorem withPending_watch (s : State) (q : List Instr) : (s.withPending q).watch = s.watch := rfl

@[simp] theorem withPending_alerts (s : State) (q : List Instr) : (s.withPending q).alerts = s.alerts := rfl

@[simp] theorem withPending_overrun (s : State) (q : List Instr) : (s.withPending q).overrun = s.overrun := rfl

@[simp] theorem withPending_store (s : State) (q : List Instr) : (s.withPending q).store = s.store := rfl

@[simp] theorem withPending_collector (s : State) (q : List Instr) : (s.withPending q).collector = s.collector := rfl

@[simp] theorem withPending_office (s : State) (q : List Instr) : (s.withPending q).office = s.office := rfl

@[simp] theorem withPending_node (s : State) (q : List Instr) : (s.withPending q).node = s.node := rfl

@[simp] theorem withPending_speedStrap (s : State) (q : List Instr) : (s.withPending q).speedStrap = s.speedStrap := rfl

/-! ## Pages of the Store Controller -/

@[simp] theorem page_modPage_same (t : Store) (p : PageIx) (f : PageMarks → PageMarks) :
    (t.modPage p f).page p = f (t.page p) := by
  simp [Store.page, Store.modPage]

theorem page_modPage_other (t : Store) {p q : PageIx} (f : PageMarks → PageMarks) (hne : q ≠ p) :
    (t.modPage p f).page q = t.page q := by
  have : p.val ≠ q.val := fun h => hne (Fin.ext h.symm)
  simp [Store.page, Store.modPage, Vector.getElem_set_ne, this]

@[simp] theorem modPage_state (t : Store) (p : PageIx) (f : PageMarks → PageMarks) : (t.modPage p f).state = t.state := rfl

@[simp] theorem modPage_formatted (t : Store) (p : PageIx) (f : PageMarks → PageMarks) : (t.modPage p f).formatted = t.formatted := rfl

@[simp] theorem modPage_nodeMismatch (t : Store) (p : PageIx) (f : PageMarks → PageMarks) : (t.modPage p f).nodeMismatch = t.nodeMismatch := rfl

@[simp] theorem modPage_waiting (t : Store) (p : PageIx) (f : PageMarks → PageMarks) : (t.modPage p f).waiting = t.waiting := rfl

@[simp] theorem modPage_inFlight (t : Store) (p : PageIx) (f : PageMarks → PageMarks) : (t.modPage p f).inFlight = t.inFlight := rfl

@[simp] theorem modPage_groups (t : Store) (p : PageIx) (f : PageMarks → PageMarks) : (t.modPage p f).groups = t.groups := rfl

@[simp] theorem modPage_load (t : Store) (p : PageIx) (f : PageMarks → PageMarks) : (t.modPage p f).load = t.load := rfl

end Sys2Proof.Machine
end

