-- ==== Sys2Proof/Laws/Env.lean ====
section
/-! SUPPORT. What the blocks' operations leave of the clock, the watch table and the strap pins: one lemma per
operation. -/

namespace Sys2Proof.Machine

-- One closing script serves the lemmas of a kind; not every step of it is needed by each.
set_option linter.unusedTactic false
set_option linter.unreachableTactic false

/-- The clock, its Unset mark, the watch table and the strap pins: what only POWER_ON, CLOCK_TICK, Set Clock, Set
Watch Rules and the load change. -/
def State.env (s : State) : BitVec 32 × Bool × WatchTable × BitVec 6 × BitVec 2 :=
  (s.clock, s.clockUnset, s.watch, s.node, s.speedStrap)

@[simp] theorem setSeg_env (s : State) (g : SegId) (x : Segment) : (s.setSeg g x).env = s.env := by
  simp [State.env]

@[simp] theorem modSeg_env (s : State) (g : SegId) (f : Segment → Segment) : (s.modSeg g f).env = s.env := by
  simp [State.env]

@[simp] theorem setSlot_env (s : State) (i : SlotIx) (x : Slot) : (s.setSlot i x).env = s.env := by
  simp [State.env]

@[simp] theorem modSlot_env (s : State) (i : SlotIx) (f : Slot → Slot) : (s.modSlot i f).env = s.env := by
  simp [State.env]

@[simp] theorem setPort_env (s : State) (p : PortId) (x : Port) : (s.setPort p x).env = s.env := by
  simp [State.env]

@[simp] theorem modPort_env (s : State) (p : PortId) (f : Port → Port) : (s.modPort p f).env = s.env := by
  simp [State.env]

@[simp] theorem modStore_env (s : State) (f : Store → Store) : (s.modStore f).env = s.env := by
  simp [State.env]

theorem now_of_env {s t : State} (h : t.env = s.env) : t.now = s.now := by
  simp only [State.env, Prod.mk.injEq] at h
  simp [State.now, h.1, h.2.1]

@[simp] theorem foldl_env {α : Type} (f : State → α → State) (h : ∀ s x, (f s x).env = s.env)
    (l : List α) (s : State) : (l.foldl f s).env = s.env := by
  induction l generalizing s with
  | nil => rfl
  | cons x xs ih => rw [List.foldl_cons, ih, h]

@[simp] theorem forSlots_env (f : SlotIx → State → State) (h : ∀ i s, (f i s).env = s.env)
    (is : List SlotIx) (s : State) : (s.forSlots is f).env = s.env := foldl_env _ (fun s i => h i s) is s

@[simp] theorem enqueuePage_env (p : PageIx) (s : State) :
    (enqueuePage p s).env = s.env := by
  unfold enqueuePage
  try dsimp only
  repeat' (first | (simp; done) | split | rfl)

@[simp] theorem enqueuePages_env (ps : List PageIx) (s : State) :
    (enqueuePages ps s).env = s.env := by
  unfold enqueuePages
  try dsimp only
  repeat' (first | (simp; done) | split | rfl)

theorem fillPlace_env {s t : State} (h : fillPlace s = some t) : t.env = s.env := by
  unfold fillPlace at h
  split at h
  · obtain ⟨p, -, rfl⟩ := Option.map_eq_some_iff.mp h
    rfl
  · cases h

@[simp] theorem fillPlaces_env (n : Nat) (s : State) : (fillPlaces n s).env = s.env := by
  induction n generalizing s with
  | zero => rfl
  | succ n ih =>
    unfold fillPlaces
    split
    · rfl
    · next h => rw [ih, fillPlace_env h]

@[simp] theorem pumpStore_env (s : State) :
    (pumpStore s).env = s.env := by
  unfold pumpStore
  try dsimp only
  repeat' (first | (simp; done) | split | rfl)

@[simp] theorem queueAlert_env (a : Alert) (s : State) :
    (queueAlert a s).env = s.env := by
  unfold queueAlert
  try dsimp only
  repeat' (first | (simp; done) | split | rfl)

@[simp] theorem offerEntry_env (roster : Nat) (k : FaultKey) (s : State) :
    (offerEntry roster k s).env = s.env := by
  unfold offerEntry
  try dsimp only
  repeat' (first | (simp; done) | split | rfl)

@[simp] theorem presenceAlert_env (i : SlotIx) (code : Byte) (s : State) :
    (presenceAlert i code s).env = s.env := by
  unfold presenceAlert
  try dsimp only
  repeat' (first | (simp; done) | split | rfl)

@[simp] theorem putRoster_env (n : Fin 17) (r : FaultRoster) (s : State) :
    (putRoster n r s).env = s.env := by
  unfold putRoster
  try dsimp only
  repeat' (first | (simp; done) | split | rfl)

@[simp] theorem enterFault_env (n : Fin 17) (k : FaultKey) (origin : Origin) (kind : EntryKind) (s : State) :
    (enterFault n k origin kind s).env = s.env := by
  unfold enterFault
  try dsimp only
  repeat' (first | (simp; done) | split | rfl)

@[simp] theorem openCondition_env (n : Fin 17) (k : FaultKey) (s : State) :
    (openCondition n k s).env = s.env := by
  unfold openCondition
  try dsimp only
  repeat' (first | (simp; done) | split | rfl)

@[simp] theorem endCondition_env (n : Fin 17) (k : FaultKey) (s : State) :
    (endCondition n k s).env = s.env := by
  unfold endCondition
  try dsimp only
  repeat' (first | (simp; done) | split | rfl)

@[simp] theorem eventFault_env (n : Fin 17) (k : FaultKey) (s : State) :
    (eventFault n k s).env = s.env := by
  unfold eventFault
  try dsimp only
  repeat' (first | (simp; done) | split | rfl)

@[simp] theorem answer_env (p : PortId) (status : Status) (body : List Byte) (s : State) :
    (answer p status body s).env = s.env := by
  unfold answer
  try dsimp only
  repeat' (first | (simp; done) | split | rfl)

@[simp] theorem answerTo_env (p : Option PortId) (status : Status) (body : List Byte) (s : State) :
    (answerTo p status body s).env = s.env := by
  unfold answerTo
  try dsimp only
  repeat' (first | (simp; done) | split | rfl)

@[simp] theorem clearReservations_env (i : SlotIx) (s : State) :
    (clearReservations i s).env = s.env := by
  unfold clearReservations
  try dsimp only
  repeat' (first | (simp; done) | split | rfl)

@[simp] theorem removeEntry_env (i : SlotIx) (s : State) :
    (removeEntry i s).env = s.env := by
  unfold removeEntry
  try dsimp only
  repeat' (first | (simp; done) | split | rfl)

@[simp] theorem joinQueue_env (i : SlotIx) (priority : Nat) (origin : EntryOrigin) (s : State) :
    (joinQueue i priority origin s).env = s.env := by
  unfold joinQueue
  try dsimp only
  repeat' (first | (simp; done) | split | rfl)

@[simp] theorem modEntry_env (i : SlotIx) (f : DeliveryEntry → DeliveryEntry) (s : State) :
    (modEntry i f s).env = s.env := by
  unfold modEntry
  try dsimp only
  repeat' (first | (simp; done) | split | rfl)

@[simp] theorem garbleRise_env (g : SegId) (s : State) :
    (garbleRise g s).env = s.env := by
  unfold garbleRise
  try dsimp only
  repeat' (first | (simp; done) | split | rfl)

@[simp] theorem garbleFall_env (g : SegId) (s : State) :
    (garbleFall g s).env = s.env := by
  unfold garbleFall
  try dsimp only
  repeat' (first | (simp; done) | split | rfl)

@[simp] theorem garbleReset_env (g : SegId) (s : State) :
    (garbleReset g s).env = s.env := by
  unfold garbleReset
  try dsimp only
  repeat' (first | (simp; done) | split | rfl)

@[simp] theorem dropOutcome_env (i : SlotIx) (s : State) :
    (dropOutcome i s).env = s.env := by
  unfold dropOutcome
  try dsimp only
  repeat' (first | (simp; done) | split | rfl)

@[simp] theorem settleOutcome_env (i : SlotIx) (s : State) :
    (settleOutcome i s).env = s.env := by
  unfold settleOutcome
  try dsimp only
  repeat' (first | (simp; done) | split | rfl)

@[simp] theorem resetWindow_env (i : SlotIx) (s : State) :
    (resetWindow i s).env = s.env := by
  unfold resetWindow
  try dsimp only
  repeat' (first | (simp; done) | split | rfl)

@[simp] theorem setDraftState_env (i : SlotIx) (d : DraftState) (s : State) :
    (setDraftState i d s).env = s.env := by
  unfold setDraftState
  try dsimp only
  repeat' (first | (simp; done) | split | rfl)

@[simp] theorem applyOutcome_env (i : SlotIx) (level : Nat) (s : State) :
    (applyOutcome i level s).env = s.env := by
  unfold applyOutcome
  try dsimp only
  repeat' (first | (simp; done) | split | rfl)

@[simp] theorem offerOutcome_env (i : SlotIx) (s : State) :
    (offerOutcome i s).env = s.env := by
  unfold offerOutcome
  try dsimp only
  repeat' (first | (simp; done) | split | rfl)

@[simp] theorem unreadImages_env (i : SlotIx) (s : State) :
    (unreadImages i s).env = s.env := by
  unfold unreadImages
  try dsimp only
  repeat' (first | (simp; done) | split | rfl)

@[simp] theorem followActive_env (i : SlotIx) (s : State) :
    (followActive i s).env = s.env := by
  unfold followActive
  try dsimp only
  repeat' (first | (simp; done) | split | rfl)

@[simp] theorem withdrawEntry_env (i : SlotIx) (port : Option PortId) (s : State) :
    (withdrawEntry i port s).env = s.env := by
  unfold withdrawEntry
  try dsimp only
  repeat' (first | (simp; done) | split | rfl)

@[simp] theorem returnToQueue_env (g : SegId) (i : SlotIx) (s : State) :
    (returnToQueue g i s).env = s.env := by
  unfold returnToQueue
  try dsimp only
  repeat' (first | (simp; done) | split | rfl)

@[simp] theorem suspendDelivery_env (g : SegId) (s : State) :
    (suspendDelivery g s).env = s.env := by
  unfold suspendDelivery
  try dsimp only
  repeat' (first | (simp; done) | split | rfl)

@[simp] theorem endFold_env (i : SlotIx) (b' : Book) (s : State) :
    (endFold i b' s).env = s.env := by
  unfold endFold
  try dsimp only
  repeat' (first | (simp; done) | split | rfl)

@[simp] theorem windowFeed_env (i : SlotIx) (amounts : Vector Nat 24) (s : State) :
    (windowFeed i amounts s).env = s.env := by
  unfold windowFeed
  try dsimp only
  repeat' (first | (simp; done) | split | rfl)

@[simp] theorem takeOutcome_env (i : SlotIx) (base level : Nat) (s : State) :
    (takeOutcome i base level s).env = s.env := by
  unfold takeOutcome
  try dsimp only
  repeat' (first | (simp; done) | split | rfl)

@[simp] theorem evaluate_env (i : SlotIx) (s : State) :
    (evaluate i s).env = s.env := by
  unfold evaluate
  try dsimp only
  repeat' (first | (simp; done) | split | rfl)

@[simp] theorem windowTest_env (i : SlotIx) (s : State) :
    (windowTest i s).env = s.env := by
  unfold windowTest
  try dsimp only
  repeat' (first | (simp; done) | split | rfl)

@[simp] theorem takeReport_env (i : SlotIx) (role : FoldRole) (report : MeterReport) (s : State) :
    (takeReport i role report s).env = s.env := by
  unfold takeReport
  try dsimp only
  repeat' (first | (simp; done) | split | rfl)

@[simp] theorem settleCloseAll_env (p : PortId) (s : State) :
    (settleCloseAll p s).env = s.env := by
  unfold settleCloseAll
  try dsimp only
  repeat' (first | (simp; done) | split | rfl)

@[simp] theorem noteCloseAll_env (p : PortId) (i : SlotIx) (r : CloseResult) (s : State) :
    (noteCloseAll p i r s).env = s.env := by
  unfold noteCloseAll
  try dsimp only
  repeat' (first | (simp; done) | split | rfl)

@[simp] theorem finishClose_env (i : SlotIx) (stored : Bool) (s : State) :
    (finishClose i stored s).env = s.env := by
  unfold finishClose
  try dsimp only
  repeat' (first | (simp; done) | split | rfl)

@[simp] theorem reportGroup_env (stored : Bool) (g : GroupRecord) (s : State) :
    (reportGroup stored g s).env = s.env := by
  unfold reportGroup
  try dsimp only
  repeat' (first | (simp; done) | split | rfl)

@[simp] theorem settleGroups_env (s : State) :
    (settleGroups s).env = s.env := by
  unfold settleGroups
  try dsimp only
  repeat' (first | (simp; done) | split | rfl)

@[simp] theorem openGroup_env (i : SlotIx) (s : State) :
    (openGroup i s).env = s.env := by
  unfold openGroup
  try dsimp only
  repeat' (first | (simp; done) | split | rfl)

@[simp] theorem closeNow_env (i : SlotIx) (final : Bool) (port : Option PortId) (ofAll : Bool) (s : State) :
    (closeNow i final port ofAll s).env = s.env := by
  unfold closeNow
  try dsimp only
  repeat' (first | (simp; done) | split | rfl)

@[simp] theorem endPolling_env (i : SlotIx) (final : Bool) (s : State) :
    (endPolling i final s).env = s.env := by
  unfold endPolling
  try dsimp only
  repeat' (first | (simp; done) | split | rfl)

@[simp] theorem startClose_env (i : SlotIx) (port : PortId) (ofAll : Bool) (s : State) :
    (startClose i port ofAll s).env = s.env := by
  unfold startClose
  try dsimp only
  repeat' (first | (simp; done) | split | rfl)

@[simp] theorem leaveService_env (i : SlotIx) (s : State) :
    (leaveService i s).env = s.env := by
  unfold leaveService
  try dsimp only
  repeat' (first | (simp; done) | split | rfl)

@[simp] theorem absentBySilence_env (i : SlotIx) (s : State) :
    (absentBySilence i s).env = s.env := by
  unfold absentBySilence
  try dsimp only
  repeat' (first | (simp; done) | split | rfl)

@[simp] theorem isolate_env (i : SlotIx) (score : Nat) (s : State) :
    (isolate i score s).env = s.env := by
  unfold isolate
  try dsimp only
  repeat' (first | (simp; done) | split | rfl)

@[simp] theorem absentByRequest_env (i : SlotIx) (s : State) :
    (absentByRequest i s).env = s.env := by
  unfold absentByRequest
  try dsimp only
  repeat' (first | (simp; done) | split | rfl)

@[simp] theorem linkScore_env (i : SlotIx) (o : ExOutcome) (s : State) :
    (linkScore i o s).env = s.env := by
  unfold linkScore
  try dsimp only
  repeat' (first | (simp; done) | split | rfl)

@[simp] theorem takeGameState_env (i : SlotIx) (gs : GameState) (s : State) :
    (takeGameState i gs s).env = s.env := by
  unfold takeGameState
  try dsimp only
  repeat' (first | (simp; done) | split | rfl)

@[simp] theorem rosterTakes_env (i : SlotIx) (o : ExOutcome) (s : State) :
    (rosterTakes i o s).env = s.env := by
  unfold rosterTakes
  try dsimp only
  repeat' (first | (simp; done) | split | rfl)

@[simp] theorem startJoin_env (i : SlotIx) (s : State) :
    (startJoin i s).env = s.env := by
  unfold startJoin
  try dsimp only
  repeat' (first | (simp; done) | split | rfl)

@[simp] theorem failJoin_env (i : SlotIx) (s : State) :
    (failJoin i s).env = s.env := by
  unfold failJoin
  try dsimp only
  repeat' (first | (simp; done) | split | rfl)

@[simp] theorem takeProbe_env (i : SlotIx) (o : ExOutcome) (usable : Bool) (s : State) :
    (takeProbe i o usable s).env = s.env := by
  unfold takeProbe
  try dsimp only
  repeat' (first | (simp; done) | split | rfl)

@[simp] theorem changeModel_env (i : SlotIx) (model : Nat) (s : State) :
    (changeModel i model s).env = s.env := by
  unfold changeModel
  try dsimp only
  repeat' (first | (simp; done) | split | rfl)

@[simp] theorem checkModel_env (i : SlotIx) (model : Nat) (s : State) :
    (checkModel i model s).env = s.env := by
  unfold checkModel
  try dsimp only
  repeat' (first | (simp; done) | split | rfl)

@[simp] theorem storeIdentity_env (i : SlotIx) (r : Identity) (s : State) :
    (storeIdentity i r s).env = s.env := by
  unfold storeIdentity
  try dsimp only
  repeat' (first | (simp; done) | split | rfl)

@[simp] theorem enterOutOfRange_env (i : SlotIx) (items : List Nat) (s : State) :
    (enterOutOfRange i items s).env = s.env := by
  unfold enterOutOfRange
  try dsimp only
  repeat' (first | (simp; done) | split | rfl)

@[simp] theorem checkDraft_env (i : SlotIx) (r : Identity) (s : State) :
    (checkDraft i r s).env = s.env := by
  unfold checkDraft
  try dsimp only
  repeat' (first | (simp; done) | split | rfl)

@[simp] theorem checkSettings_env (i : SlotIx) (r : Identity) (s : State) :
    (checkSettings i r s).env = s.env := by
  unfold checkSettings
  try dsimp only
  repeat' (first | (simp; done) | split | rfl)

@[simp] theorem takeIdentity_env (i : SlotIx) (r : Identity) (s : State) :
    (takeIdentity i r s).env = s.env := by
  unfold takeIdentity
  try dsimp only
  repeat' (first | (simp; done) | split | rfl)

@[simp] theorem endJoinReadback_env (i : SlotIx) (r : Identity) (values : List Nat) (s : State) :
    (endJoinReadback i r values s).env = s.env := by
  unfold endJoinReadback
  try dsimp only
  repeat' (first | (simp; done) | split | rfl)

@[simp] theorem takeJoinReadback_env (i : SlotIx) (values : List Nat) (s : State) :
    (takeJoinReadback i values s).env = s.env := by
  unfold takeJoinReadback
  try dsimp only
  repeat' (first | (simp; done) | split | rfl)

@[simp] theorem completeJoin_env (i : SlotIx) (s : State) :
    (completeJoin i s).env = s.env := by
  unfold completeJoin
  try dsimp only
  repeat' (first | (simp; done) | split | rfl)

@[simp] theorem startDelivery_env (g : SegId) (i : SlotIx) (s : State) :
    (startDelivery g i s).env = s.env := by
  unfold startDelivery
  try dsimp only
  repeat' (first | (simp; done) | split | rfl)

@[simp] theorem confirmDelivery_env (g : SegId) (i : SlotIx) (s : State) :
    (confirmDelivery g i s).env = s.env := by
  unfold confirmDelivery
  try dsimp only
  repeat' (first | (simp; done) | split | rfl)

@[simp] theorem diverge_env (g : SegId) (i : SlotIx) (e : DeliveryEntry) (s : State) :
    (diverge g i e s).env = s.env := by
  unfold diverge
  try dsimp only
  repeat' (first | (simp; done) | split | rfl)

@[simp] theorem mismatch_env (g : SegId) (i : SlotIx) (s : State) :
    (mismatch g i s).env = s.env := by
  unfold mismatch
  try dsimp only
  repeat' (first | (simp; done) | split | rfl)

@[simp] theorem takeDeliveryWord_env (g : SegId) (i : SlotIx) (q : BitVec 4) (reply : Nat) (s : State) :
    (takeDeliveryWord g i q reply s).env = s.env := by
  unfold takeDeliveryWord
  try dsimp only
  repeat' (first | (simp; done) | split | rfl)

@[simp] theorem takeItemAck_env (g : SegId) (i : SlotIx) (k n : Nat) (gs : GameState) (s : State) :
    (takeItemAck g i k n gs s).env = s.env := by
  unfold takeItemAck
  try dsimp only
  repeat' (first | (simp; done) | split | rfl)

@[simp] theorem takeRoutineWord_env (i : SlotIx) (q : BitVec 4) (reply : Nat) (s : State) :
    (takeRoutineWord i q reply s).env = s.env := by
  unfold takeRoutineWord
  try dsimp only
  repeat' (first | (simp; done) | split | rfl)

@[simp] theorem enterLocalChange_env (i : SlotIx) (items : List Nat) (s : State) :
    (enterLocalChange i items s).env = s.env := by
  unfold enterLocalChange
  try dsimp only
  repeat' (first | (simp; done) | split | rfl)

@[simp] theorem endLocalReadback_env (i : SlotIx) (r : Identity) (values : List Nat) (s : State) :
    (endLocalReadback i r values s).env = s.env := by
  unfold endLocalReadback
  try dsimp only
  repeat' (first | (simp; done) | split | rfl)

@[simp] theorem takeLocalReadback_env (i : SlotIx) (start : Nat) (values : List Nat) (s : State) :
    (takeLocalReadback i start values s).env = s.env := by
  unfold takeLocalReadback
  try dsimp only
  repeat' (first | (simp; done) | split | rfl)

@[simp] theorem sendFrame_env (g : SegId) (i : SlotIx) (f : HubFrame) (asker : Asker) (s : State) :
    (sendFrame g i f asker s).env = s.env := by
  unfold sendFrame
  try dsimp only
  repeat' (first | (simp; done) | split | rfl)

@[simp] theorem sendDelivery_env (g : SegId) (d : DeliveryRecord) (s : State) :
    (sendDelivery g d s).env = s.env := by
  unfold sendDelivery
  try dsimp only
  repeat' (first | (simp; done) | split | rfl)

@[simp] theorem routineVisit_env (g : SegId) (s : State) :
    (routineVisit g s).env = s.env := by
  unfold routineVisit
  try dsimp only
  repeat' (first | (simp; done) | split | rfl)

@[simp] theorem choose_env (g : SegId) (s : State) :
    (choose g s).env = s.env := by
  unfold choose
  try dsimp only
  repeat' (first | (simp; done) | split | rfl)

@[simp] theorem chooseBoth_env (s : State) :
    (chooseBoth s).env = s.env := by
  unfold chooseBoth
  try dsimp only
  repeat' (first | (simp; done) | split | rfl)

@[simp] theorem openIfAsserted_env (g : SegId) (kind : LineFaultKind) (s : State) :
    (openIfAsserted g kind s).env = s.env := by
  unfold openIfAsserted
  try dsimp only
  repeat' (first | (simp; done) | split | rfl)

@[simp] theorem enterStarting_env (g : SegId) (s : State) :
    (enterStarting g s).env = s.env := by
  unfold enterStarting
  try dsimp only
  repeat' (first | (simp; done) | split | rfl)

@[simp] theorem askerAbandons_env (g : SegId) (x : Exchange) (s : State) :
    (askerAbandons g x s).env = s.env := by
  unfold askerAbandons
  try dsimp only
  repeat' (first | (simp; done) | split | rfl)

@[simp] theorem abandonExchange_env (g : SegId) (s : State) :
    (abandonExchange g s).env = s.env := by
  unfold abandonExchange
  try dsimp only
  repeat' (first | (simp; done) | split | rfl)

@[simp] theorem answerAll_env (ps : List PortId) (s : State) :
    (answerAll ps s).env = s.env := by
  unfold answerAll
  try dsimp only
  repeat' (first | (simp; done) | split | rfl)

@[simp] theorem haltNow_env (g : SegId) (s : State) :
    (haltNow g s).env = s.env := by
  unfold haltNow
  try dsimp only
  repeat' (first | (simp; done) | split | rfl)

@[simp] theorem faultNow_env (g : SegId) (s : State) :
    (faultNow g s).env = s.env := by
  unfold faultNow
  try dsimp only
  repeat' (first | (simp; done) | split | rfl)

@[simp] theorem takeFaultPollFailure_env (i : SlotIx) (o : ExOutcome) (s : State) :
    (takeFaultPollFailure i o s).env = s.env := by
  unfold takeFaultPollFailure
  try dsimp only
  repeat' (first | (simp; done) | split | rfl)

@[simp] theorem takeFaultChange_env (i : SlotIx) (c : FaultChange) (s : State) :
    (takeFaultChange i c s).env = s.env := by
  unfold takeFaultChange
  try dsimp only
  repeat' (first | (simp; done) | split | rfl)

@[simp] theorem takeFaultReport_env (i : SlotIx) (r : FaultReport) (s : State) :
    (takeFaultReport i r s).env = s.env := by
  unfold takeFaultReport
  try dsimp only
  repeat' (first | (simp; done) | split | rfl)

@[simp] theorem takeJoinFailure_env (i : SlotIx) (o : ExOutcome) (s : State) :
    (takeJoinFailure i o s).env = s.env := by
  unfold takeJoinFailure
  try dsimp only
  repeat' (first | (simp; done) | split | rfl)

@[simp] theorem takeMeterReport_env (i : SlotIx) (asker : Asker) (r : MeterReport) (s : State) :
    (takeMeterReport i asker r s).env = s.env := by
  unfold takeMeterReport
  try dsimp only
  repeat' (first | (simp; done) | split | rfl)

@[simp] theorem takeItemFrame_env (g : SegId) (i : SlotIx) (k : Nat) (o : ExOutcome) (s : State) :
    (takeItemFrame g i k o s).env = s.env := by
  unfold takeItemFrame
  try dsimp only
  repeat' (first | (simp; done) | split | rfl)

@[simp] theorem askerTakes_env (g : SegId) (x : Exchange) (o : ExOutcome) (s : State) :
    (askerTakes g x o s).env = s.env := by
  unfold askerTakes
  try dsimp only
  repeat' (first | (simp; done) | split | rfl)

@[simp] theorem garbleTakes_env (g : SegId) (o : ExOutcome) (s : State) :
    (garbleTakes g o s).env = s.env := by
  unfold garbleTakes
  try dsimp only
  repeat' (first | (simp; done) | split | rfl)

@[simp] theorem handOn_env (g : SegId) (x : Exchange) (o : ExOutcome) (s : State) :
    (handOn g x o s).env = s.env := by
  unfold handOn
  try dsimp only
  repeat' (first | (simp; done) | split | rfl)

@[simp] theorem endExchange_env (g : SegId) (o : ExOutcome) (s : State) :
    (endExchange g o s).env = s.env := by
  unfold endExchange
  try dsimp only
  repeat' (first | (simp; done) | split | rfl)

@[simp] theorem modExchange_env (g : SegId) (f : Exchange → Exchange) (s : State) :
    (modExchange g f s).env = s.env := by
  unfold modExchange
  try dsimp only
  repeat' (first | (simp; done) | split | rfl)

@[simp] theorem loadRoster_env (k : Fin 4) (f : Nat → Slot) (s : State) :
    (loadRoster k f s).env = s.env :=
  foldl_env (fun (t : State) (x : SlotIx × Nat) => t.setSlot x.1 (f x.2)) (fun t x => setSlot_env t x.1 _) _ s

@[simp] theorem enterLoadFailures_env (s : State) :
    (enterLoadFailures s).env = s.env := by
  unfold enterLoadFailures
  try dsimp only
  repeat' (first | (simp; done) | split | rfl)

@[simp] theorem offerLoaded_env (i : SlotIx) (s : State) :
    (offerLoaded i s).env = s.env := by
  unfold offerLoaded
  try dsimp only
  repeat' (first | (simp; done) | split | rfl)

@[simp] theorem storeAlert_env (k : FaultKey) (s : State) :
    (storeAlert k s).env = s.env := by
  unfold storeAlert
  try dsimp only
  repeat' (first | (simp; done) | split | rfl)

@[simp] theorem stopStore_env (s : State) :
    (stopStore s).env = s.env := by
  unfold stopStore
  try dsimp only
  repeat' (first | (simp; done) | split | rfl)

@[simp] theorem failWrite_env (w : WriteInFlight) (s : State) :
    (failWrite w s).env = s.env := by
  unfold failWrite
  try dsimp only
  repeat' (first | (simp; done) | split | rfl)

@[simp] theorem verifyWrite_env (w : WriteInFlight) (s : State) :
    (verifyWrite w s).env = s.env := by
  unfold verifyWrite
  try dsimp only
  repeat' (first | (simp; done) | split | rfl)

@[simp] theorem endAttempt_env (equal : Bool) (w : WriteInFlight) (s : State) :
    (endAttempt equal w s).env = s.env := by
  unfold endAttempt
  try dsimp only
  repeat' (first | (simp; done) | split | rfl)

@[simp] theorem setDriver_env (g : SegId) (on : Bool) (s : State) :
    (setDriver g on s).env = s.env := by
  unfold setDriver
  try dsimp only
  repeat' (first | (simp; done) | split | rfl)

@[simp] theorem setPhase_env (g : SegId) (ph : Phase) (s : State) :
    (setPhase g ph s).env = s.env := by
  unfold setPhase
  try dsimp only
  repeat' (first | (simp; done) | split | rfl)

@[simp] theorem transmitFrame_env (g : SegId) (s : State) :
    (transmitFrame g s).env = s.env := by
  unfold transmitFrame
  try dsimp only
  repeat' (first | (simp; done) | split | rfl)

@[simp] theorem guardEnd_env (g : SegId) (s : State) :
    (guardEnd g s).env = s.env := by
  unfold guardEnd
  try dsimp only
  repeat' (first | (simp; done) | split | rfl)

@[simp] theorem collide_env (g : SegId) (s : State) :
    (collide g s).env = s.env := by
  unfold collide
  try dsimp only
  repeat' (first | (simp; done) | split | rfl)

@[simp] theorem collision_env (g : SegId) (cause : CollisionCause) (s : State) :
    (collision g cause s).env = s.env := by
  unfold collision
  try dsimp only
  repeat' (first | (simp; done) | split | rfl)

@[simp] theorem answerWindowExpiry_env (g : SegId) (s : State) :
    (answerWindowExpiry g s).env = s.env := by
  unfold answerWindowExpiry
  try dsimp only
  repeat' (first | (simp; done) | split | rfl)

@[simp] theorem takeAnswerCharacter_env (g : SegId) (c : LineChar) (s : State) :
    (takeAnswerCharacter g c s).env = s.env := by
  unfold takeAnswerCharacter
  try dsimp only
  repeat' (first | (simp; done) | split | rfl)

@[simp] theorem answerComplete_env (g : SegId) (gs : GameState) (status : AnswerStatus) (rest : List Byte) (s : State) :
    (answerComplete g gs status rest s).env = s.env := by
  unfold answerComplete
  try dsimp only
  repeat' (first | (simp; done) | split | rfl)

@[simp] theorem completionDeadline_env (g : SegId) (s : State) :
    (completionDeadline g s).env = s.env := by
  unfold completionDeadline
  try dsimp only
  repeat' (first | (simp; done) | split | rfl)

@[simp] theorem endGarbled_env (g : SegId) (s : State) :
    (endGarbled g s).env = s.env := by
  unfold endGarbled
  try dsimp only
  repeat' (first | (simp; done) | split | rfl)

@[simp] theorem strayCharacter_env (g : SegId) (c : LineChar) (s : State) :
    (strayCharacter g c s).env = s.env := by
  unfold strayCharacter
  try dsimp only
  repeat' (first | (simp; done) | split | rfl)

@[simp] theorem setInput_env (g : SegId) (kind : LineFaultKind) (b : Bool) (s : State) :
    (setInput g kind b s).env = s.env := by
  unfold setInput
  try dsimp only
  repeat' (first | (simp; done) | split | rfl)

@[simp] theorem lineFaultAsserted_env (g : SegId) (kind : LineFaultKind) (s : State) :
    (lineFaultAsserted g kind s).env = s.env := by
  unfold lineFaultAsserted
  try dsimp only
  repeat' (first | (simp; done) | split | rfl)

@[simp] theorem lineFaultDeasserted_env (g : SegId) (kind : LineFaultKind) (s : State) :
    (lineFaultDeasserted g kind s).env = s.env := by
  unfold lineFaultDeasserted
  try dsimp only
  repeat' (first | (simp; done) | split | rfl)

@[simp] theorem driverStuck_env (g : SegId) (s : State) :
    (driverStuck g s).env = s.env := by
  unfold driverStuck
  try dsimp only
  repeat' (first | (simp; done) | split | rfl)

@[simp] theorem startIdleElapsed_env (g : SegId) (s : State) :
    (startIdleElapsed g s).env = s.env := by
  unfold startIdleElapsed
  try dsimp only
  repeat' (first | (simp; done) | split | rfl)

@[simp] theorem dueTimerRun_env (i : SlotIx) (t : DueTimer) (s : State) :
    (dueTimerRun i t s).env = s.env := by
  unfold dueTimerRun
  try dsimp only
  repeat' (first | (simp; done) | split | rfl)

end Sys2Proof.Machine
end

