-- ==== Sys2Proof/Laws/Pending.lean ====
section
/-! SUPPORT. No operation of the blocks touches the queue of commands that wait: one lemma per operation. -/

namespace Sys2Proof.Machine

-- One closing script serves the lemmas of a kind; not every step of it is needed by each.
set_option linter.unusedTactic false
set_option linter.unreachableTactic false

@[simp] theorem foldl_pending {α : Type} (f : State → α → State) (h : ∀ s x, (f s x).pending = s.pending)
    (l : List α) (s : State) : (l.foldl f s).pending = s.pending := by
  induction l generalizing s with
  | nil => rfl
  | cons x xs ih => rw [List.foldl_cons, ih, h]

@[simp] theorem forSlots_pending (f : SlotIx → State → State) (h : ∀ i s, (f i s).pending = s.pending)
    (is : List SlotIx) (s : State) : (s.forSlots is f).pending = s.pending := foldl_pending _ (fun s i => h i s) is s

@[simp] theorem enqueuePage_pending (p : PageIx) (s : State) :
    (enqueuePage p s).pending = s.pending := by
  unfold enqueuePage
  try dsimp only
  repeat' (first | (simp; done) | split)

@[simp] theorem enqueuePages_pending (ps : List PageIx) (s : State) :
    (enqueuePages ps s).pending = s.pending := by
  unfold enqueuePages
  try dsimp only
  repeat' (first | (simp; done) | split)

theorem fillPlace_pending {s t : State} (h : fillPlace s = some t) : t.pending = s.pending := by
  unfold fillPlace at h
  split at h
  · obtain ⟨p, -, rfl⟩ := Option.map_eq_some_iff.mp h
    rfl
  · cases h

@[simp] theorem fillPlaces_pending (n : Nat) (s : State) : (fillPlaces n s).pending = s.pending := by
  induction n generalizing s with
  | zero => rfl
  | succ n ih =>
    unfold fillPlaces
    split
    · rfl
    · next h => rw [ih, fillPlace_pending h]

@[simp] theorem pumpStore_pending (s : State) :
    (pumpStore s).pending = s.pending := by
  unfold pumpStore
  try dsimp only
  repeat' (first | (simp; done) | split)

@[simp] theorem queueAlert_pending (a : Alert) (s : State) :
    (queueAlert a s).pending = s.pending := by
  unfold queueAlert
  try dsimp only
  repeat' (first | (simp; done) | split)

@[simp] theorem offerEntry_pending (roster : Nat) (k : FaultKey) (s : State) :
    (offerEntry roster k s).pending = s.pending := by
  unfold offerEntry
  try dsimp only
  repeat' (first | (simp; done) | split)

@[simp] theorem presenceAlert_pending (i : SlotIx) (code : Byte) (s : State) :
    (presenceAlert i code s).pending = s.pending := by
  unfold presenceAlert
  try dsimp only
  repeat' (first | (simp; done) | split)

@[simp] theorem putRoster_pending (n : Fin 17) (r : FaultRoster) (s : State) :
    (putRoster n r s).pending = s.pending := by
  unfold putRoster
  try dsimp only
  repeat' (first | (simp; done) | split)

@[simp] theorem enterFault_pending (n : Fin 17) (k : FaultKey) (origin : Origin) (kind : EntryKind) (s : State) :
    (enterFault n k origin kind s).pending = s.pending := by
  unfold enterFault
  try dsimp only
  repeat' (first | (simp; done) | split)

@[simp] theorem openCondition_pending (n : Fin 17) (k : FaultKey) (s : State) :
    (openCondition n k s).pending = s.pending := by
  unfold openCondition
  try dsimp only
  repeat' (first | (simp; done) | split)

@[simp] theorem endCondition_pending (n : Fin 17) (k : FaultKey) (s : State) :
    (endCondition n k s).pending = s.pending := by
  unfold endCondition
  try dsimp only
  repeat' (first | (simp; done) | split)

@[simp] theorem eventFault_pending (n : Fin 17) (k : FaultKey) (s : State) :
    (eventFault n k s).pending = s.pending := by
  unfold eventFault
  try dsimp only
  repeat' (first | (simp; done) | split)

@[simp] theorem answer_pending (p : PortId) (status : Status) (body : List Byte) (s : State) :
    (answer p status body s).pending = s.pending := by
  unfold answer
  try dsimp only
  repeat' (first | (simp; done) | split)

@[simp] theorem answerTo_pending (p : Option PortId) (status : Status) (body : List Byte) (s : State) :
    (answerTo p status body s).pending = s.pending := by
  unfold answerTo
  try dsimp only
  repeat' (first | (simp; done) | split)

@[simp] theorem clearReservations_pending (i : SlotIx) (s : State) :
    (clearReservations i s).pending = s.pending := by
  unfold clearReservations
  try dsimp only
  repeat' (first | (simp; done) | split)

@[simp] theorem removeEntry_pending (i : SlotIx) (s : State) :
    (removeEntry i s).pending = s.pending := by
  unfold removeEntry
  try dsimp only
  repeat' (first | (simp; done) | split)

@[simp] theorem joinQueue_pending (i : SlotIx) (priority : Nat) (origin : EntryOrigin) (s : State) :
    (joinQueue i priority origin s).pending = s.pending := by
  unfold joinQueue
  try dsimp only
  repeat' (first | (simp; done) | split)

@[simp] theorem modEntry_pending (i : SlotIx) (f : DeliveryEntry → DeliveryEntry) (s : State) :
    (modEntry i f s).pending = s.pending := by
  unfold modEntry
  try dsimp only
  repeat' (first | (simp; done) | split)

@[simp] theorem garbleRise_pending (g : SegId) (s : State) :
    (garbleRise g s).pending = s.pending := by
  unfold garbleRise
  try dsimp only
  repeat' (first | (simp; done) | split)

@[simp] theorem garbleFall_pending (g : SegId) (s : State) :
    (garbleFall g s).pending = s.pending := by
  unfold garbleFall
  try dsimp only
  repeat' (first | (simp; done) | split)

@[simp] theorem garbleReset_pending (g : SegId) (s : State) :
    (garbleReset g s).pending = s.pending := by
  unfold garbleReset
  try dsimp only
  repeat' (first | (simp; done) | split)

@[simp] theorem dropOutcome_pending (i : SlotIx) (s : State) :
    (dropOutcome i s).pending = s.pending := by
  unfold dropOutcome
  try dsimp only
  repeat' (first | (simp; done) | split)

@[simp] theorem settleOutcome_pending (i : SlotIx) (s : State) :
    (settleOutcome i s).pending = s.pending := by
  unfold settleOutcome
  try dsimp only
  repeat' (first | (simp; done) | split)

@[simp] theorem resetWindow_pending (i : SlotIx) (s : State) :
    (resetWindow i s).pending = s.pending := by
  unfold resetWindow
  try dsimp only
  repeat' (first | (simp; done) | split)

@[simp] theorem setDraftState_pending (i : SlotIx) (d : DraftState) (s : State) :
    (setDraftState i d s).pending = s.pending := by
  unfold setDraftState
  try dsimp only
  repeat' (first | (simp; done) | split)

@[simp] theorem applyOutcome_pending (i : SlotIx) (level : Nat) (s : State) :
    (applyOutcome i level s).pending = s.pending := by
  unfold applyOutcome
  try dsimp only
  repeat' (first | (simp; done) | split)

@[simp] theorem offerOutcome_pending (i : SlotIx) (s : State) :
    (offerOutcome i s).pending = s.pending := by
  unfold offerOutcome
  try dsimp only
  repeat' (first | (simp; done) | split)

@[simp] theorem unreadImages_pending (i : SlotIx) (s : State) :
    (unreadImages i s).pending = s.pending := by
  unfold unreadImages
  try dsimp only
  repeat' (first | (simp; done) | split)

@[simp] theorem followActive_pending (i : SlotIx) (s : State) :
    (followActive i s).pending = s.pending := by
  unfold followActive
  try dsimp only
  repeat' (first | (simp; done) | split)

@[simp] theorem withdrawEntry_pending (i : SlotIx) (port : Option PortId) (s : State) :
    (withdrawEntry i port s).pending = s.pending := by
  unfold withdrawEntry
  try dsimp only
  repeat' (first | (simp; done) | split)

@[simp] theorem returnToQueue_pending (g : SegId) (i : SlotIx) (s : State) :
    (returnToQueue g i s).pending = s.pending := by
  unfold returnToQueue
  try dsimp only
  repeat' (first | (simp; done) | split)

@[simp] theorem suspendDelivery_pending (g : SegId) (s : State) :
    (suspendDelivery g s).pending = s.pending := by
  unfold suspendDelivery
  try dsimp only
  repeat' (first | (simp; done) | split)

@[simp] theorem endFold_pending (i : SlotIx) (b' : Book) (s : State) :
    (endFold i b' s).pending = s.pending := by
  unfold endFold
  try dsimp only
  repeat' (first | (simp; done) | split)

@[simp] theorem windowFeed_pending (i : SlotIx) (amounts : Vector Nat 24) (s : State) :
    (windowFeed i amounts s).pending = s.pending := by
  unfold windowFeed
  try dsimp only
  repeat' (first | (simp; done) | split)

@[simp] theorem takeOutcome_pending (i : SlotIx) (base level : Nat) (s : State) :
    (takeOutcome i base level s).pending = s.pending := by
  unfold takeOutcome
  try dsimp only
  repeat' (first | (simp; done) | split)

@[simp] theorem evaluate_pending (i : SlotIx) (s : State) :
    (evaluate i s).pending = s.pending := by
  unfold evaluate
  try dsimp only
  repeat' (first | (simp; done) | split)

@[simp] theorem windowTest_pending (i : SlotIx) (s : State) :
    (windowTest i s).pending = s.pending := by
  unfold windowTest
  try dsimp only
  repeat' (first | (simp; done) | split)

@[simp] theorem takeReport_pending (i : SlotIx) (role : FoldRole) (report : MeterReport) (s : State) :
    (takeReport i role report s).pending = s.pending := by
  unfold takeReport
  try dsimp only
  repeat' (first | (simp; done) | split)

@[simp] theorem settleCloseAll_pending (p : PortId) (s : State) :
    (settleCloseAll p s).pending = s.pending := by
  unfold settleCloseAll
  try dsimp only
  repeat' (first | (simp; done) | split)

@[simp] theorem noteCloseAll_pending (p : PortId) (i : SlotIx) (r : CloseResult) (s : State) :
    (noteCloseAll p i r s).pending = s.pending := by
  unfold noteCloseAll
  try dsimp only
  repeat' (first | (simp; done) | split)

@[simp] theorem finishClose_pending (i : SlotIx) (stored : Bool) (s : State) :
    (finishClose i stored s).pending = s.pending := by
  unfold finishClose
  try dsimp only
  repeat' (first | (simp; done) | split)

@[simp] theorem reportGroup_pending (stored : Bool) (g : GroupRecord) (s : State) :
    (reportGroup stored g s).pending = s.pending := by
  unfold reportGroup
  try dsimp only
  repeat' (first | (simp; done) | split)

@[simp] theorem settleGroups_pending (s : State) :
    (settleGroups s).pending = s.pending := by
  unfold settleGroups
  try dsimp only
  repeat' (first | (simp; done) | split)

@[simp] theorem openGroup_pending (i : SlotIx) (s : State) :
    (openGroup i s).pending = s.pending := by
  unfold openGroup
  try dsimp only
  repeat' (first | (simp; done) | split)

@[simp] theorem closeNow_pending (i : SlotIx) (final : Bool) (port : Option PortId) (ofAll : Bool) (s : State) :
    (closeNow i final port ofAll s).pending = s.pending := by
  unfold closeNow
  try dsimp only
  repeat' (first | (simp; done) | split)

@[simp] theorem endPolling_pending (i : SlotIx) (final : Bool) (s : State) :
    (endPolling i final s).pending = s.pending := by
  unfold endPolling
  try dsimp only
  repeat' (first | (simp; done) | split)

@[simp] theorem startClose_pending (i : SlotIx) (port : PortId) (ofAll : Bool) (s : State) :
    (startClose i port ofAll s).pending = s.pending := by
  unfold startClose
  try dsimp only
  repeat' (first | (simp; done) | split)

@[simp] theorem leaveService_pending (i : SlotIx) (s : State) :
    (leaveService i s).pending = s.pending := by
  unfold leaveService
  try dsimp only
  repeat' (first | (simp; done) | split)

@[simp] theorem absentBySilence_pending (i : SlotIx) (s : State) :
    (absentBySilence i s).pending = s.pending := by
  unfold absentBySilence
  try dsimp only
  repeat' (first | (simp; done) | split)

@[simp] theorem isolate_pending (i : SlotIx) (score : Nat) (s : State) :
    (isolate i score s).pending = s.pending := by
  unfold isolate
  try dsimp only
  repeat' (first | (simp; done) | split)

@[simp] theorem absentByRequest_pending (i : SlotIx) (s : State) :
    (absentByRequest i s).pending = s.pending := by
  unfold absentByRequest
  try dsimp only
  repeat' (first | (simp; done) | split)

@[simp] theorem linkScore_pending (i : SlotIx) (o : ExOutcome) (s : State) :
    (linkScore i o s).pending = s.pending := by
  unfold linkScore
  try dsimp only
  repeat' (first | (simp; done) | split)

@[simp] theorem takeGameState_pending (i : SlotIx) (gs : GameState) (s : State) :
    (takeGameState i gs s).pending = s.pending := by
  unfold takeGameState
  try dsimp only
  repeat' (first | (simp; done) | split)

@[simp] theorem rosterTakes_pending (i : SlotIx) (o : ExOutcome) (s : State) :
    (rosterTakes i o s).pending = s.pending := by
  unfold rosterTakes
  try dsimp only
  repeat' (first | (simp; done) | split)

@[simp] theorem startJoin_pending (i : SlotIx) (s : State) :
    (startJoin i s).pending = s.pending := by
  unfold startJoin
  try dsimp only
  repeat' (first | (simp; done) | split)

@[simp] theorem failJoin_pending (i : SlotIx) (s : State) :
    (failJoin i s).pending = s.pending := by
  unfold failJoin
  try dsimp only
  repeat' (first | (simp; done) | split)

@[simp] theorem takeProbe_pending (i : SlotIx) (o : ExOutcome) (usable : Bool) (s : State) :
    (takeProbe i o usable s).pending = s.pending := by
  unfold takeProbe
  try dsimp only
  repeat' (first | (simp; done) | split)

@[simp] theorem changeModel_pending (i : SlotIx) (model : Nat) (s : State) :
    (changeModel i model s).pending = s.pending := by
  unfold changeModel
  try dsimp only
  repeat' (first | (simp; done) | split)

@[simp] theorem checkModel_pending (i : SlotIx) (model : Nat) (s : State) :
    (checkModel i model s).pending = s.pending := by
  unfold checkModel
  try dsimp only
  repeat' (first | (simp; done) | split)

@[simp] theorem storeIdentity_pending (i : SlotIx) (r : Identity) (s : State) :
    (storeIdentity i r s).pending = s.pending := by
  unfold storeIdentity
  try dsimp only
  repeat' (first | (simp; done) | split)

@[simp] theorem enterOutOfRange_pending (i : SlotIx) (items : List Nat) (s : State) :
    (enterOutOfRange i items s).pending = s.pending := by
  unfold enterOutOfRange
  try dsimp only
  repeat' (first | (simp; done) | split)

@[simp] theorem checkDraft_pending (i : SlotIx) (r : Identity) (s : State) :
    (checkDraft i r s).pending = s.pending := by
  unfold checkDraft
  try dsimp only
  repeat' (first | (simp; done) | split)

@[simp] theorem checkSettings_pending (i : SlotIx) (r : Identity) (s : State) :
    (checkSettings i r s).pending = s.pending := by
  unfold checkSettings
  try dsimp only
  repeat' (first | (simp; done) | split)

@[simp] theorem takeIdentity_pending (i : SlotIx) (r : Identity) (s : State) :
    (takeIdentity i r s).pending = s.pending := by
  unfold takeIdentity
  try dsimp only
  repeat' (first | (simp; done) | split)

@[simp] theorem endJoinReadback_pending (i : SlotIx) (r : Identity) (values : List Nat) (s : State) :
    (endJoinReadback i r values s).pending = s.pending := by
  unfold endJoinReadback
  try dsimp only
  repeat' (first | (simp; done) | split)

@[simp] theorem takeJoinReadback_pending (i : SlotIx) (values : List Nat) (s : State) :
    (takeJoinReadback i values s).pending = s.pending := by
  unfold takeJoinReadback
  try dsimp only
  repeat' (first | (simp; done) | split)

@[simp] theorem completeJoin_pending (i : SlotIx) (s : State) :
    (completeJoin i s).pending = s.pending := by
  unfold completeJoin
  try dsimp only
  repeat' (first | (simp; done) | split)

@[simp] theorem startDelivery_pending (g : SegId) (i : SlotIx) (s : State) :
    (startDelivery g i s).pending = s.pending := by
  unfold startDelivery
  try dsimp only
  repeat' (first | (simp; done) | split)

@[simp] theorem confirmDelivery_pending (g : SegId) (i : SlotIx) (s : State) :
    (confirmDelivery g i s).pending = s.pending := by
  unfold confirmDelivery
  try dsimp only
  repeat' (first | (simp; done) | split)

@[simp] theorem diverge_pending (g : SegId) (i : SlotIx) (e : DeliveryEntry) (s : State) :
    (diverge g i e s).pending = s.pending := by
  unfold diverge
  try dsimp only
  repeat' (first | (simp; done) | split)

@[simp] theorem mismatch_pending (g : SegId) (i : SlotIx) (s : State) :
    (mismatch g i s).pending = s.pending := by
  unfold mismatch
  try dsimp only
  repeat' (first | (simp; done) | split)

@[simp] theorem takeDeliveryWord_pending (g : SegId) (i : SlotIx) (q : BitVec 4) (reply : Nat) (s : State) :
    (takeDeliveryWord g i q reply s).pending = s.pending := by
  unfold takeDeliveryWord
  try dsimp only
  repeat' (first | (simp; done) | split)

@[simp] theorem takeItemAck_pending (g : SegId) (i : SlotIx) (k n : Nat) (gs : GameState) (s : State) :
    (takeItemAck g i k n gs s).pending = s.pending := by
  unfold takeItemAck
  try dsimp only
  repeat' (first | (simp; done) | split)

@[simp] theorem takeRoutineWord_pending (i : SlotIx) (q : BitVec 4) (reply : Nat) (s : State) :
    (takeRoutineWord i q reply s).pending = s.pending := by
  unfold takeRoutineWord
  try dsimp only
  repeat' (first | (simp; done) | split)

@[simp] theorem enterLocalChange_pending (i : SlotIx) (items : List Nat) (s : State) :
    (enterLocalChange i items s).pending = s.pending := by
  unfold enterLocalChange
  try dsimp only
  repeat' (first | (simp; done) | split)

@[simp] theorem endLocalReadback_pending (i : SlotIx) (r : Identity) (values : List Nat) (s : State) :
    (endLocalReadback i r values s).pending = s.pending := by
  unfold endLocalReadback
  try dsimp only
  repeat' (first | (simp; done) | split)

@[simp] theorem takeLocalReadback_pending (i : SlotIx) (start : Nat) (values : List Nat) (s : State) :
    (takeLocalReadback i start values s).pending = s.pending := by
  unfold takeLocalReadback
  try dsimp only
  repeat' (first | (simp; done) | split)

@[simp] theorem sendFrame_pending (g : SegId) (i : SlotIx) (f : HubFrame) (asker : Asker) (s : State) :
    (sendFrame g i f asker s).pending = s.pending := by
  unfold sendFrame
  try dsimp only
  repeat' (first | (simp; done) | split)

@[simp] theorem sendDelivery_pending (g : SegId) (d : DeliveryRecord) (s : State) :
    (sendDelivery g d s).pending = s.pending := by
  unfold sendDelivery
  try dsimp only
  repeat' (first | (simp; done) | split)

@[simp] theorem routineVisit_pending (g : SegId) (s : State) :
    (routineVisit g s).pending = s.pending := by
  unfold routineVisit
  try dsimp only
  repeat' (first | (simp; done) | split)

@[simp] theorem choose_pending (g : SegId) (s : State) :
    (choose g s).pending = s.pending := by
  unfold choose
  try dsimp only
  repeat' (first | (simp; done) | split)

@[simp] theorem chooseBoth_pending (s : State) :
    (chooseBoth s).pending = s.pending := by
  unfold chooseBoth
  try dsimp only
  repeat' (first | (simp; done) | split)

@[simp] theorem openIfAsserted_pending (g : SegId) (kind : LineFaultKind) (s : State) :
    (openIfAsserted g kind s).pending = s.pending := by
  unfold openIfAsserted
  try dsimp only
  repeat' (first | (simp; done) | split)

@[simp] theorem enterStarting_pending (g : SegId) (s : State) :
    (enterStarting g s).pending = s.pending := by
  unfold enterStarting
  try dsimp only
  repeat' (first | (simp; done) | split)

@[simp] theorem askerAbandons_pending (g : SegId) (x : Exchange) (s : State) :
    (askerAbandons g x s).pending = s.pending := by
  unfold askerAbandons
  try dsimp only
  repeat' (first | (simp; done) | split)

@[simp] theorem abandonExchange_pending (g : SegId) (s : State) :
    (abandonExchange g s).pending = s.pending := by
  unfold abandonExchange
  try dsimp only
  repeat' (first | (simp; done) | split)

@[simp] theorem answerAll_pending (ps : List PortId) (s : State) :
    (answerAll ps s).pending = s.pending := by
  unfold answerAll
  try dsimp only
  repeat' (first | (simp; done) | split)

@[simp] theorem haltNow_pending (g : SegId) (s : State) :
    (haltNow g s).pending = s.pending := by
  unfold haltNow
  try dsimp only
  repeat' (first | (simp; done) | split)

@[simp] theorem faultNow_pending (g : SegId) (s : State) :
    (faultNow g s).pending = s.pending := by
  unfold faultNow
  try dsimp only
  repeat' (first | (simp; done) | split)

@[simp] theorem takeFaultPollFailure_pending (i : SlotIx) (o : ExOutcome) (s : State) :
    (takeFaultPollFailure i o s).pending = s.pending := by
  unfold takeFaultPollFailure
  try dsimp only
  repeat' (first | (simp; done) | split)

@[simp] theorem takeFaultChange_pending (i : SlotIx) (c : FaultChange) (s : State) :
    (takeFaultChange i c s).pending = s.pending := by
  unfold takeFaultChange
  try dsimp only
  repeat' (first | (simp; done) | split)

@[simp] theorem takeFaultReport_pending (i : SlotIx) (r : FaultReport) (s : State) :
    (takeFaultReport i r s).pending = s.pending := by
  unfold takeFaultReport
  try dsimp only
  repeat' (first | (simp; done) | split)

@[simp] theorem takeJoinFailure_pending (i : SlotIx) (o : ExOutcome) (s : State) :
    (takeJoinFailure i o s).pending = s.pending := by
  unfold takeJoinFailure
  try dsimp only
  repeat' (first | (simp; done) | split)

@[simp] theorem takeMeterReport_pending (i : SlotIx) (asker : Asker) (r : MeterReport) (s : State) :
    (takeMeterReport i asker r s).pending = s.pending := by
  unfold takeMeterReport
  try dsimp only
  repeat' (first | (simp; done) | split)

@[simp] theorem takeItemFrame_pending (g : SegId) (i : SlotIx) (k : Nat) (o : ExOutcome) (s : State) :
    (takeItemFrame g i k o s).pending = s.pending := by
  unfold takeItemFrame
  try dsimp only
  repeat' (first | (simp; done) | split)

@[simp] theorem askerTakes_pending (g : SegId) (x : Exchange) (o : ExOutcome) (s : State) :
    (askerTakes g x o s).pending = s.pending := by
  unfold askerTakes
  try dsimp only
  repeat' (first | (simp; done) | split)

@[simp] theorem garbleTakes_pending (g : SegId) (o : ExOutcome) (s : State) :
    (garbleTakes g o s).pending = s.pending := by
  unfold garbleTakes
  try dsimp only
  repeat' (first | (simp; done) | split)

@[simp] theorem handOn_pending (g : SegId) (x : Exchange) (o : ExOutcome) (s : State) :
    (handOn g x o s).pending = s.pending := by
  unfold handOn
  try dsimp only
  repeat' (first | (simp; done) | split)

@[simp] theorem endExchange_pending (g : SegId) (o : ExOutcome) (s : State) :
    (endExchange g o s).pending = s.pending := by
  unfold endExchange
  try dsimp only
  repeat' (first | (simp; done) | split)

@[simp] theorem modExchange_pending (g : SegId) (f : Exchange → Exchange) (s : State) :
    (modExchange g f s).pending = s.pending := by
  unfold modExchange
  try dsimp only
  repeat' (first | (simp; done) | split)

@[simp] theorem loadRoster_pending (k : Fin 4) (f : Nat → Slot) (s : State) :
    (loadRoster k f s).pending = s.pending :=
  foldl_pending (fun (t : State) (x : SlotIx × Nat) => t.setSlot x.1 (f x.2)) (fun t x => setSlot_pending t x.1 _) _ s

@[simp] theorem takePage_pending (p : PageIx) (body : List Byte) (s : State) :
    (takePage p body s).pending = s.pending := by
  unfold takePage
  try dsimp only
  repeat' (first | (simp; done) | split)

@[simp] theorem failPage_pending (p : PageIx) (s : State) :
    (failPage p s).pending = s.pending := by
  unfold failPage
  try dsimp only
  repeat' (first | (simp; done) | split)

@[simp] theorem formatStore_pending (s : State) :
    (formatStore s).pending = s.pending := by
  unfold formatStore
  try dsimp only
  repeat' (first | (simp; done) | split)

@[simp] theorem enterLoadFailures_pending (s : State) :
    (enterLoadFailures s).pending = s.pending := by
  unfold enterLoadFailures
  try dsimp only
  repeat' (first | (simp; done) | split)

@[simp] theorem offerLoaded_pending (i : SlotIx) (s : State) :
    (offerLoaded i s).pending = s.pending := by
  unfold offerLoaded
  try dsimp only
  repeat' (first | (simp; done) | split)

@[simp] theorem endLoad_pending (s : State) :
    (endLoad s).pending = s.pending := by
  unfold endLoad
  try dsimp only
  repeat' (first | (simp; done) | split)

@[simp] theorem advanceLoad_pending (s : State) :
    (advanceLoad s).pending = s.pending := by
  unfold advanceLoad
  try dsimp only
  repeat' (first | (simp; done) | split)

@[simp] theorem readFails_pending (s : State) :
    (readFails s).pending = s.pending := by
  unfold readFails
  try dsimp only
  repeat' (first | (simp; done) | split)

@[simp] theorem readCompletes_pending (bytes : List Byte) (s : State) :
    (readCompletes bytes s).pending = s.pending := by
  unfold readCompletes
  try dsimp only
  repeat' (first | (simp; done) | split)

@[simp] theorem storeAlert_pending (k : FaultKey) (s : State) :
    (storeAlert k s).pending = s.pending := by
  unfold storeAlert
  try dsimp only
  repeat' (first | (simp; done) | split)

@[simp] theorem stopStore_pending (s : State) :
    (stopStore s).pending = s.pending := by
  unfold stopStore
  try dsimp only
  repeat' (first | (simp; done) | split)

@[simp] theorem failWrite_pending (w : WriteInFlight) (s : State) :
    (failWrite w s).pending = s.pending := by
  unfold failWrite
  try dsimp only
  repeat' (first | (simp; done) | split)

@[simp] theorem verifyWrite_pending (w : WriteInFlight) (s : State) :
    (verifyWrite w s).pending = s.pending := by
  unfold verifyWrite
  try dsimp only
  repeat' (first | (simp; done) | split)

@[simp] theorem endAttempt_pending (equal : Bool) (w : WriteInFlight) (s : State) :
    (endAttempt equal w s).pending = s.pending := by
  unfold endAttempt
  try dsimp only
  repeat' (first | (simp; done) | split)

@[simp] theorem refuseRequest_pending (p : PortId) (status : Status) (s : State) :
    (refuseRequest p status s).pending = s.pending := by
  unfold refuseRequest
  try dsimp only
  repeat' (first | (simp; done) | split)

@[simp] theorem serveReadStatus_pending (p : PortId) (s : State) :
    (serveReadStatus p s).pending = s.pending := by
  unfold serveReadStatus
  try dsimp only
  repeat' (first | (simp; done) | split)

@[simp] theorem serveSetClock_pending (p : PortId) (v : BitVec 32) (s : State) :
    (serveSetClock p v s).pending = s.pending := by
  unfold serveSetClock
  try dsimp only
  repeat' (first | (simp; done) | split)

@[simp] theorem restartSegment_pending (g : SegId) (s : State) :
    (restartSegment g s).pending = s.pending := by
  unfold restartSegment
  try dsimp only
  repeat' (first | (simp; done) | split)

@[simp] theorem restartTable_pending (i : SlotIx) (s : State) :
    (restartTable i s).pending = s.pending := by
  unfold restartTable
  try dsimp only
  repeat' (first | (simp; done) | split)

@[simp] theorem restartLine_pending (g : SegId) (s : State) :
    (restartLine g s).pending = s.pending := by
  unfold restartLine
  try dsimp only
  repeat' (first | (simp; done) | split)

@[simp] theorem serveRestartHub_pending (p : PortId) (s : State) :
    (serveRestartHub p s).pending = s.pending := by
  unfold serveRestartHub
  try dsimp only
  repeat' (first | (simp; done) | split)

@[simp] theorem serveReadRoster_pending (p : PortId) (slot : Byte) (s : State) :
    (serveReadRoster p slot s).pending = s.pending := by
  unfold serveReadRoster
  try dsimp only
  repeat' (first | (simp; done) | split)

@[simp] theorem listSlot_pending (i : SlotIx) (e : RosterArg) (s : State) :
    (listSlot i e s).pending = s.pending := by
  unfold listSlot
  try dsimp only
  repeat' (first | (simp; done) | split)

@[simp] theorem editSlot_pending (i : SlotIx) (e : RosterArg) (s : State) :
    (editSlot i e s).pending = s.pending := by
  unfold editSlot
  try dsimp only
  repeat' (first | (simp; done) | split)

@[simp] theorem serveWriteRosterEntry_pending (p : PortId) (slot : Byte) (e : RosterArg) (s : State) :
    (serveWriteRosterEntry p slot e s).pending = s.pending := by
  unfold serveWriteRosterEntry
  try dsimp only
  repeat' (first | (simp; done) | split)

@[simp] theorem removeSlot_pending (i : SlotIx) (s : State) :
    (removeSlot i s).pending = s.pending := by
  unfold removeSlot
  try dsimp only
  repeat' (first | (simp; done) | split)

@[simp] theorem serveRemoveTable_pending (p : PortId) (slot : Byte) (s : State) :
    (serveRemoveTable p slot s).pending = s.pending := by
  unfold serveRemoveTable
  try dsimp only
  repeat' (first | (simp; done) | split)

@[simp] theorem serveSetRegulation_pending (p : PortId) (slot : Byte) (a : RegulationArg) (s : State) :
    (serveSetRegulation p slot a s).pending = s.pending := by
  unfold serveSetRegulation
  try dsimp only
  repeat' (first | (simp; done) | split)

@[simp] theorem serveSetLineParameters_pending (p : PortId) (g : SegId) (a : LineParamsArg) (s : State) :
    (serveSetLineParameters p g a s).pending = s.pending := by
  unfold serveSetLineParameters
  try dsimp only
  repeat' (first | (simp; done) | split)

@[simp] theorem serveHaltSegment_pending (p : PortId) (g : SegId) (s : State) :
    (serveHaltSegment p g s).pending = s.pending := by
  unfold serveHaltSegment
  try dsimp only
  repeat' (first | (simp; done) | split)

@[simp] theorem resumeNow_pending (g : SegId) (s : State) :
    (resumeNow g s).pending = s.pending := by
  unfold resumeNow
  try dsimp only
  repeat' (first | (simp; done) | split)

@[simp] theorem serveResumeSegment_pending (p : PortId) (g : SegId) (s : State) :
    (serveResumeSegment p g s).pending = s.pending := by
  unfold serveResumeSegment
  try dsimp only
  repeat' (first | (simp; done) | split)

@[simp] theorem serveReadAudits_pending (p : PortId) (slot : Byte) (view : AuditView) (s : State) :
    (serveReadAudits p slot view s).pending = s.pending := by
  unfold serveReadAudits
  try dsimp only
  repeat' (first | (simp; done) | split)

@[simp] theorem closeAll_pending (p : PortId) (s : State) :
    (closeAll p s).pending = s.pending := by
  unfold closeAll
  try dsimp only
  repeat' (first | (simp; done) | split)

@[simp] theorem serveClosePeriod_pending (p : PortId) (slot : Byte) (s : State) :
    (serveClosePeriod p slot s).pending = s.pending := by
  unfold serveClosePeriod
  try dsimp only
  repeat' (first | (simp; done) | split)

@[simp] theorem serveReadSettings_pending (p : PortId) (slot : Byte) (s : State) :
    (serveReadSettings p slot s).pending = s.pending := by
  unfold serveReadSettings
  try dsimp only
  repeat' (first | (simp; done) | split)

@[simp] theorem serveReadDraft_pending (p : PortId) (slot : Byte) (reserve : Bool) (s : State) :
    (serveReadDraft p slot reserve s).pending = s.pending := by
  unfold serveReadDraft
  try dsimp only
  repeat' (first | (simp; done) | split)

@[simp] theorem setItems_pending (p : PortId) (i : SlotIx) (r : Identity) (pairs : List (Byte × Half)) (s : State) :
    (setItems p i r pairs s).pending = s.pending := by
  unfold setItems
  try dsimp only
  repeat' (first | (simp; done) | split)

@[simp] theorem serveSetItems_pending (p : PortId) (slot : Byte) (pairs : List (Byte × Half)) (s : State) :
    (serveSetItems p slot pairs s).pending = s.pending := by
  unfold serveSetItems
  try dsimp only
  repeat' (first | (simp; done) | split)

@[simp] theorem submitDraft_pending (p : PortId) (i : SlotIx) (priority : Byte) (s : State) :
    (submitDraft p i priority s).pending = s.pending := by
  unfold submitDraft
  try dsimp only
  repeat' (first | (simp; done) | split)

@[simp] theorem serveSubmitDraft_pending (p : PortId) (slot priority : Byte) (s : State) :
    (serveSubmitDraft p slot priority s).pending = s.pending := by
  unfold serveSubmitDraft
  try dsimp only
  repeat' (first | (simp; done) | split)

@[simp] theorem discardDraft_pending (p : PortId) (i : SlotIx) (s : State) :
    (discardDraft p i s).pending = s.pending := by
  unfold discardDraft
  try dsimp only
  repeat' (first | (simp; done) | split)

@[simp] theorem serveDiscardDraft_pending (p : PortId) (slot : Byte) (s : State) :
    (serveDiscardDraft p slot s).pending = s.pending := by
  unfold serveDiscardDraft
  try dsimp only
  repeat' (first | (simp; done) | split)

@[simp] theorem markWithdrawal_pending (p : PortId) (i : SlotIx) (s : State) :
    (markWithdrawal p i s).pending = s.pending := by
  unfold markWithdrawal
  try dsimp only
  repeat' (first | (simp; done) | split)

@[simp] theorem serveWithdrawDelivery_pending (p : PortId) (slot : Byte) (s : State) :
    (serveWithdrawDelivery p slot s).pending = s.pending := by
  unfold serveWithdrawDelivery
  try dsimp only
  repeat' (first | (simp; done) | split)

@[simp] theorem serveReadFaults_pending (p : PortId) (roster : Byte) (s : State) :
    (serveReadFaults p roster s).pending = s.pending := by
  unfold serveReadFaults
  try dsimp only
  repeat' (first | (simp; done) | split)

@[simp] theorem serveAcknowledgeFaults_pending (p : PortId) (roster : Byte) (key : Option FaultKey) (s : State) :
    (serveAcknowledgeFaults p roster key s).pending = s.pending := by
  unfold serveAcknowledgeFaults
  try dsimp only
  repeat' (first | (simp; done) | split)

@[simp] theorem serveSetWatchRules_pending (p : PortId) (a : WatchArg) (s : State) :
    (serveSetWatchRules p a s).pending = s.pending := by
  unfold serveSetWatchRules
  try dsimp only
  repeat' (first | (simp; done) | split)

@[simp] theorem serveTakeAlerts_pending (p : PortId) (count : Byte) (s : State) :
    (serveTakeAlerts p count s).pending = s.pending := by
  unfold serveTakeAlerts
  try dsimp only
  repeat' (first | (simp; done) | split)

@[simp] theorem serveAcknowledgeStoreFault_pending (p : PortId) (s : State) :
    (serveAcknowledgeStoreFault p s).pending = s.pending := by
  unfold serveAcknowledgeStoreFault
  try dsimp only
  repeat' (first | (simp; done) | split)

@[simp] theorem serve_pending (p : PortId) (r : Request) (s : State) : (serve p r s).pending = s.pending := by
  cases r <;> simp [serve]

@[simp] theorem holdRequest_pending (p : PortId) (kind : Byte) (s : State) :
    (holdRequest p kind s).pending = s.pending := by
  unfold holdRequest
  try dsimp only
  repeat' (first | (simp; done) | split)

@[simp] theorem refuseFrame_pending (p : PortId) (kind : Byte) (status : Status) (s : State) :
    (refuseFrame p kind status s).pending = s.pending := by
  unfold refuseFrame
  try dsimp only
  repeat' (first | (simp; done) | split)

@[simp] theorem takeRequest_pending (p : PortId) (r : Request) (s : State) :
    (takeRequest p r s).pending = s.pending := by
  unfold takeRequest
  try dsimp only
  repeat' (first | (simp; done) | split)

@[simp] theorem takeFrame_pending (p : PortId) (frame : List Byte) (s : State) :
    (takeFrame p frame s).pending = s.pending := by
  unfold takeFrame
  try dsimp only
  repeat' (first | (simp; done) | split)

@[simp] theorem setDriver_pending (g : SegId) (on : Bool) (s : State) :
    (setDriver g on s).pending = s.pending := by
  unfold setDriver
  try dsimp only
  repeat' (first | (simp; done) | split)

@[simp] theorem setPhase_pending (g : SegId) (ph : Phase) (s : State) :
    (setPhase g ph s).pending = s.pending := by
  unfold setPhase
  try dsimp only
  repeat' (first | (simp; done) | split)

@[simp] theorem transmitFrame_pending (g : SegId) (s : State) :
    (transmitFrame g s).pending = s.pending := by
  unfold transmitFrame
  try dsimp only
  repeat' (first | (simp; done) | split)

@[simp] theorem guardEnd_pending (g : SegId) (s : State) :
    (guardEnd g s).pending = s.pending := by
  unfold guardEnd
  try dsimp only
  repeat' (first | (simp; done) | split)

@[simp] theorem collide_pending (g : SegId) (s : State) :
    (collide g s).pending = s.pending := by
  unfold collide
  try dsimp only
  repeat' (first | (simp; done) | split)

@[simp] theorem collision_pending (g : SegId) (cause : CollisionCause) (s : State) :
    (collision g cause s).pending = s.pending := by
  unfold collision
  try dsimp only
  repeat' (first | (simp; done) | split)

@[simp] theorem answerWindowExpiry_pending (g : SegId) (s : State) :
    (answerWindowExpiry g s).pending = s.pending := by
  unfold answerWindowExpiry
  try dsimp only
  repeat' (first | (simp; done) | split)

@[simp] theorem takeAnswerCharacter_pending (g : SegId) (c : LineChar) (s : State) :
    (takeAnswerCharacter g c s).pending = s.pending := by
  unfold takeAnswerCharacter
  try dsimp only
  repeat' (first | (simp; done) | split)

@[simp] theorem answerComplete_pending (g : SegId) (gs : GameState) (status : AnswerStatus) (rest : List Byte) (s : State) :
    (answerComplete g gs status rest s).pending = s.pending := by
  unfold answerComplete
  try dsimp only
  repeat' (first | (simp; done) | split)

@[simp] theorem completionDeadline_pending (g : SegId) (s : State) :
    (completionDeadline g s).pending = s.pending := by
  unfold completionDeadline
  try dsimp only
  repeat' (first | (simp; done) | split)

@[simp] theorem endGarbled_pending (g : SegId) (s : State) :
    (endGarbled g s).pending = s.pending := by
  unfold endGarbled
  try dsimp only
  repeat' (first | (simp; done) | split)

@[simp] theorem strayCharacter_pending (g : SegId) (c : LineChar) (s : State) :
    (strayCharacter g c s).pending = s.pending := by
  unfold strayCharacter
  try dsimp only
  repeat' (first | (simp; done) | split)

@[simp] theorem setInput_pending (g : SegId) (kind : LineFaultKind) (b : Bool) (s : State) :
    (setInput g kind b s).pending = s.pending := by
  unfold setInput
  try dsimp only
  repeat' (first | (simp; done) | split)

@[simp] theorem lineFaultAsserted_pending (g : SegId) (kind : LineFaultKind) (s : State) :
    (lineFaultAsserted g kind s).pending = s.pending := by
  unfold lineFaultAsserted
  try dsimp only
  repeat' (first | (simp; done) | split)

@[simp] theorem lineFaultDeasserted_pending (g : SegId) (kind : LineFaultKind) (s : State) :
    (lineFaultDeasserted g kind s).pending = s.pending := by
  unfold lineFaultDeasserted
  try dsimp only
  repeat' (first | (simp; done) | split)

@[simp] theorem driverStuck_pending (g : SegId) (s : State) :
    (driverStuck g s).pending = s.pending := by
  unfold driverStuck
  try dsimp only
  repeat' (first | (simp; done) | split)

@[simp] theorem startIdleElapsed_pending (g : SegId) (s : State) :
    (startIdleElapsed g s).pending = s.pending := by
  unfold startIdleElapsed
  try dsimp only
  repeat' (first | (simp; done) | split)

@[simp] theorem dueTimerRun_pending (i : SlotIx) (t : DueTimer) (s : State) :
    (dueTimerRun i t s).pending = s.pending := by
  unfold dueTimerRun
  try dsimp only
  repeat' (first | (simp; done) | split)

@[simp] theorem powerOn_pending (node : BitVec 6) (speed : BitVec 2) (s : State) :
    (powerOn node speed s).pending = s.pending := by
  rfl

@[simp] theorem clockTick_pending (s : State) :
    (clockTick s).pending = s.pending := by
  unfold clockTick
  try dsimp only
  repeat' (first | (simp; done) | split)

@[simp] theorem storePageRead_pending (bytes : List Byte) (s : State) :
    (storePageRead bytes s).pending = s.pending := by
  unfold storePageRead
  try dsimp only
  repeat' (first | (simp; done) | split)

@[simp] theorem pageReadTimeout_pending (s : State) :
    (pageReadTimeout s).pending = s.pending := by
  unfold pageReadTimeout
  try dsimp only
  repeat' (first | (simp; done) | split)

@[simp] theorem attemptEnds_pending (readback : Option (List Byte)) (s : State) :
    (attemptEnds readback s).pending = s.pending := by
  unfold attemptEnds
  try dsimp only
  repeat' (first | (simp; done) | split)

@[simp] theorem setReceiver_pending (p : PortId) (r : Receiver) (s : State) :
    (setReceiver p r s).pending = s.pending := by
  unfold setReceiver
  try dsimp only
  repeat' (first | (simp; done) | split)

@[simp] theorem storeByte_pending (p : PortId) (buffer : List Byte) (s : State) :
    (storeByte p buffer s).pending = s.pending := by
  unfold storeByte
  try dsimp only
  repeat' (first | (simp; done) | split)

@[simp] theorem portByte_pending (p : PortId) (b : Byte) (framingError : Bool) (s : State) :
    (portByte p b framingError s).pending = s.pending := by
  unfold portByte
  try dsimp only
  repeat' (first | (simp; done) | split)

@[simp] theorem requestFrame_pending (p : PortId) (frame : List Byte) (s : State) :
    (requestFrame p frame s).pending = s.pending := by
  unfold requestFrame
  try dsimp only
  repeat' (first | (simp; done) | split)

@[simp] theorem frameByteTimeout_pending (p : PortId) (s : State) :
    (frameByteTimeout p s).pending = s.pending := by
  unfold frameByteTimeout
  try dsimp only
  repeat' (first | (simp; done) | split)

@[simp] theorem answerSent_pending (p : PortId) (s : State) :
    (answerSent p s).pending = s.pending := by
  unfold answerSent
  try dsimp only
  repeat' (first | (simp; done) | split)

@[simp] theorem unplugCollector_pending (s : State) :
    (unplugCollector s).pending = s.pending := by
  unfold unplugCollector
  try dsimp only
  repeat' (first | (simp; done) | split)

@[simp] theorem plugCollector_pending (s : State) :
    (plugCollector s).pending = s.pending := by
  unfold plugCollector
  try dsimp only
  repeat' (first | (simp; done) | split)

end Sys2Proof.Machine
end

