-- ==== Sys2Proof/Laws/Ops.lean ====
section
/-! SUPPORT. What each shared operation of Machine/Ops.lean does and what it leaves: the statements that later proofs
cite in place of unfolding the operation. -/

namespace Sys2Proof.Machine

-- One closing script serves the lemmas of a kind; not every step of it is needed by each.
set_option linter.unusedTactic false
set_option linter.unreachableTactic false

/-! ## The Store Controller -/

/-- R169: asking for a write changes only the store. -/
theorem enqueuePage_eq (p : PageIx) (s : State) :
    enqueuePage p s = s.modStore fun t => t.askWrite p (pageBody s p) := rfl

theorem fillPlace_eq {s t : State} (h : fillPlace s = some t) : ∃ st, t = s.modStore fun _ => st := by
  unfold fillPlace at h
  split at h
  · obtain ⟨p, -, rfl⟩ := Option.map_eq_some_iff.mp h
    exact ⟨_, rfl⟩
  · cases h

theorem fillPlaces_eq (n : Nat) (s : State) : ∃ st, fillPlaces n s = s.modStore fun _ => st := by
  induction n generalizing s with
  | zero => exact ⟨s.store, rfl⟩
  | succ n ih =>
    unfold fillPlaces
    split
    · exact ⟨s.store, rfl⟩
    · next t h =>
      obtain ⟨a, rfl⟩ := fillPlace_eq h
      obtain ⟨b, hb⟩ := ih (s.modStore fun _ => a)
      exact ⟨b, hb⟩

/-- R169, R170: the Store Controller's work at the end of a step changes only the store. -/
theorem pumpStore_eq (s : State) : ∃ st, pumpStore s = s.modStore fun _ => st := by
  obtain ⟨a, ha⟩ := fillPlaces_eq Config.writeCapacity s
  obtain ⟨b, hb⟩ := fillPlaces_eq Config.writeCapacity ((s.modStore fun _ => a).modStore Store.issue)
  exact ⟨b, by unfold pumpStore; rw [ha, hb]; rfl⟩

/-- A store that is quiet has nothing to fill. -/
theorem fillPlace_of_quiet {s : State} (h : s.store.quiet = true) : fillPlace s = none := by
  unfold fillPlace
  split
  · next hc =>
    simp only [Store.quiet, Bool.and_eq_true, Bool.or_eq_true, decide_eq_true_eq, Bool.not_eq_true'] at h hc
    rcases h with h | ⟨-, h | h⟩
    · simp [h] at hc
    · omega
    · simp [Option.isNone_iff_eq_none.mp h]
  · rfl

/-- A store that is quiet issues nothing. -/
theorem issue_of_quiet {t : Store} (h : t.quiet = true) : t.issue = t := by
  unfold Store.issue
  split
  · rfl
  · next hc =>
    simp only [Store.quiet, Bool.and_eq_true, Bool.or_eq_true, Bool.not_eq_true', not_or, Bool.not_eq_false] at h hc
    rcases h with h | ⟨h | h, -⟩
    · exact absurd hc.1 (by simp [h])
    · exact absurd h hc.2
    · simp [List.isEmpty_iff.mp h]

/-- R169, R170: at the end of a step that leaves the store quiet, the Store Controller does nothing. -/
theorem pumpStore_of_quiet {s : State} (h : s.store.quiet = true) : pumpStore s = s := by
  have hf : fillPlaces Config.writeCapacity s = s := by
    simp [fillPlaces, fillPlace_of_quiet h]
  unfold pumpStore
  rw [hf]
  have hi : s.modStore Store.issue = s := by
    simp [State.modStore, issue_of_quiet h]
  rw [hi, hf]

@[simp] theorem enqueuePage_clock (p : PageIx) (s : State) :
    (enqueuePage p s).clock = s.clock := by
  unfold enqueuePage
  try dsimp only
  repeat' (first | (simp; done) | split | rfl)

@[simp] theorem enqueuePage_clockUnset (p : PageIx) (s : State) :
    (enqueuePage p s).clockUnset = s.clockUnset := by
  unfold enqueuePage
  try dsimp only
  repeat' (first | (simp; done) | split | rfl)

@[simp] theorem enqueuePage_segA (p : PageIx) (s : State) :
    (enqueuePage p s).segA = s.segA := by
  unfold enqueuePage
  try dsimp only
  repeat' (first | (simp; done) | split | rfl)

@[simp] theorem enqueuePage_segB (p : PageIx) (s : State) :
    (enqueuePage p s).segB = s.segB := by
  unfold enqueuePage
  try dsimp only
  repeat' (first | (simp; done) | split | rfl)

@[simp] theorem enqueuePage_slots (p : PageIx) (s : State) :
    (enqueuePage p s).slots = s.slots := by
  unfold enqueuePage
  try dsimp only
  repeat' (first | (simp; done) | split | rfl)

@[simp] theorem enqueuePage_queue (p : PageIx) (s : State) :
    (enqueuePage p s).queue = s.queue := by
  unfold enqueuePage
  try dsimp only
  repeat' (first | (simp; done) | split | rfl)

@[simp] theorem enqueuePage_hubFaults (p : PageIx) (s : State) :
    (enqueuePage p s).hubFaults = s.hubFaults := by
  unfold enqueuePage
  try dsimp only
  repeat' (first | (simp; done) | split | rfl)

@[simp] theorem enqueuePage_watch (p : PageIx) (s : State) :
    (enqueuePage p s).watch = s.watch := by
  unfold enqueuePage
  try dsimp only
  repeat' (first | (simp; done) | split | rfl)

@[simp] theorem enqueuePage_alerts (p : PageIx) (s : State) :
    (enqueuePage p s).alerts = s.alerts := by
  unfold enqueuePage
  try dsimp only
  repeat' (first | (simp; done) | split | rfl)

@[simp] theorem enqueuePage_overrun (p : PageIx) (s : State) :
    (enqueuePage p s).overrun = s.overrun := by
  unfold enqueuePage
  try dsimp only
  repeat' (first | (simp; done) | split | rfl)

@[simp] theorem enqueuePage_collector (p : PageIx) (s : State) :
    (enqueuePage p s).collector = s.collector := by
  unfold enqueuePage
  try dsimp only
  repeat' (first | (simp; done) | split | rfl)

@[simp] theorem enqueuePage_office (p : PageIx) (s : State) :
    (enqueuePage p s).office = s.office := by
  unfold enqueuePage
  try dsimp only
  repeat' (first | (simp; done) | split | rfl)

@[simp] theorem enqueuePage_node (p : PageIx) (s : State) :
    (enqueuePage p s).node = s.node := by
  unfold enqueuePage
  try dsimp only
  repeat' (first | (simp; done) | split | rfl)

@[simp] theorem enqueuePage_speedStrap (p : PageIx) (s : State) :
    (enqueuePage p s).speedStrap = s.speedStrap := by
  unfold enqueuePage
  try dsimp only
  repeat' (first | (simp; done) | split | rfl)

@[simp] theorem seg_enqueuePage (p : PageIx) (s : State) (g : SegId) :
    (enqueuePage p s).seg g = s.seg g := by
  cases g <;> simp [State.seg]

@[simp] theorem slot_enqueuePage (p : PageIx) (s : State) (j : SlotIx) :
    (enqueuePage p s).slot j = s.slot j := by
  simp [State.slot]

@[simp] theorem port_enqueuePage (p : PageIx) (s : State) (q : PortId) :
    (enqueuePage p s).port q = s.port q := by
  cases q <;> simp [State.port]

@[simp] theorem pumpStore_clock (s : State) :
    (pumpStore s).clock = s.clock := by
  obtain ⟨t, h⟩ := pumpStore_eq s
  rw [h]
  rfl

@[simp] theorem pumpStore_clockUnset (s : State) :
    (pumpStore s).clockUnset = s.clockUnset := by
  obtain ⟨t, h⟩ := pumpStore_eq s
  rw [h]
  rfl

@[simp] theorem pumpStore_segA (s : State) :
    (pumpStore s).segA = s.segA := by
  obtain ⟨t, h⟩ := pumpStore_eq s
  rw [h]
  simp

@[simp] theorem pumpStore_segB (s : State) :
    (pumpStore s).segB = s.segB := by
  obtain ⟨t, h⟩ := pumpStore_eq s
  rw [h]
  simp

@[simp] theorem pumpStore_slots (s : State) :
    (pumpStore s).slots = s.slots := by
  obtain ⟨t, h⟩ := pumpStore_eq s
  rw [h]
  rfl

@[simp] theorem pumpStore_queue (s : State) :
    (pumpStore s).queue = s.queue := by
  obtain ⟨t, h⟩ := pumpStore_eq s
  rw [h]
  rfl

@[simp] theorem pumpStore_hubFaults (s : State) :
    (pumpStore s).hubFaults = s.hubFaults := by
  obtain ⟨t, h⟩ := pumpStore_eq s
  rw [h]
  rfl

@[simp] theorem pumpStore_watch (s : State) :
    (pumpStore s).watch = s.watch := by
  obtain ⟨t, h⟩ := pumpStore_eq s
  rw [h]
  rfl

@[simp] theorem pumpStore_alerts (s : State) :
    (pumpStore s).alerts = s.alerts := by
  obtain ⟨t, h⟩ := pumpStore_eq s
  rw [h]
  rfl

@[simp] theorem pumpStore_overrun (s : State) :
    (pumpStore s).overrun = s.overrun := by
  obtain ⟨t, h⟩ := pumpStore_eq s
  rw [h]
  rfl

@[simp] theorem pumpStore_collector (s : State) :
    (pumpStore s).collector = s.collector := by
  obtain ⟨t, h⟩ := pumpStore_eq s
  rw [h]
  rfl

@[simp] theorem pumpStore_office (s : State) :
    (pumpStore s).office = s.office := by
  obtain ⟨t, h⟩ := pumpStore_eq s
  rw [h]
  rfl

@[simp] theorem pumpStore_node (s : State) :
    (pumpStore s).node = s.node := by
  obtain ⟨t, h⟩ := pumpStore_eq s
  rw [h]
  rfl

@[simp] theorem pumpStore_speedStrap (s : State) :
    (pumpStore s).speedStrap = s.speedStrap := by
  obtain ⟨t, h⟩ := pumpStore_eq s
  rw [h]
  rfl

@[simp] theorem seg_pumpStore (s : State) (g : SegId) :
    (pumpStore s).seg g = s.seg g := by
  cases g <;> simp [State.seg]

@[simp] theorem slot_pumpStore (s : State) (j : SlotIx) :
    (pumpStore s).slot j = s.slot j := by
  simp [State.slot]

@[simp] theorem port_pumpStore (s : State) (q : PortId) :
    (pumpStore s).port q = s.port q := by
  cases q <;> simp [State.port]

/-! ## Alerts and faults -/

@[simp] theorem queueAlert_clock (a : Alert) (s : State) :
    (queueAlert a s).clock = s.clock := by
  unfold queueAlert
  try dsimp only
  repeat' (first | (simp; done) | split | rfl)

@[simp] theorem queueAlert_clockUnset (a : Alert) (s : State) :
    (queueAlert a s).clockUnset = s.clockUnset := by
  unfold queueAlert
  try dsimp only
  repeat' (first | (simp; done) | split | rfl)

@[simp] theorem queueAlert_segA (a : Alert) (s : State) :
    (queueAlert a s).segA = s.segA := by
  unfold queueAlert
  try dsimp only
  repeat' (first | (simp; done) | split | rfl)

@[simp] theorem queueAlert_segB (a : Alert) (s : State) :
    (queueAlert a s).segB = s.segB := by
  unfold queueAlert
  try dsimp only
  repeat' (first | (simp; done) | split | rfl)

@[simp] theorem queueAlert_slots (a : Alert) (s : State) :
    (queueAlert a s).slots = s.slots := by
  unfold queueAlert
  try dsimp only
  repeat' (first | (simp; done) | split | rfl)

@[simp] theorem queueAlert_queue (a : Alert) (s : State) :
    (queueAlert a s).queue = s.queue := by
  unfold queueAlert
  try dsimp only
  repeat' (first | (simp; done) | split | rfl)

@[simp] theorem queueAlert_hubFaults (a : Alert) (s : State) :
    (queueAlert a s).hubFaults = s.hubFaults := by
  unfold queueAlert
  try dsimp only
  repeat' (first | (simp; done) | split | rfl)

@[simp] theorem queueAlert_watch (a : Alert) (s : State) :
    (queueAlert a s).watch = s.watch := by
  unfold queueAlert
  try dsimp only
  repeat' (first | (simp; done) | split | rfl)

@[simp] theorem queueAlert_store (a : Alert) (s : State) :
    (queueAlert a s).store = s.store := by
  unfold queueAlert
  try dsimp only
  repeat' (first | (simp; done) | split | rfl)

@[simp] theorem queueAlert_collector (a : Alert) (s : State) :
    (queueAlert a s).collector = s.collector := by
  unfold queueAlert
  try dsimp only
  repeat' (first | (simp; done) | split | rfl)

@[simp] theorem queueAlert_office (a : Alert) (s : State) :
    (queueAlert a s).office = s.office := by
  unfold queueAlert
  try dsimp only
  repeat' (first | (simp; done) | split | rfl)

@[simp] theorem queueAlert_node (a : Alert) (s : State) :
    (queueAlert a s).node = s.node := by
  unfold queueAlert
  try dsimp only
  repeat' (first | (simp; done) | split | rfl)

@[simp] theorem queueAlert_speedStrap (a : Alert) (s : State) :
    (queueAlert a s).speedStrap = s.speedStrap := by
  unfold queueAlert
  try dsimp only
  repeat' (first | (simp; done) | split | rfl)

@[simp] theorem seg_queueAlert (a : Alert) (s : State) (g : SegId) :
    (queueAlert a s).seg g = s.seg g := by
  cases g <;> simp [State.seg]

@[simp] theorem slot_queueAlert (a : Alert) (s : State) (j : SlotIx) :
    (queueAlert a s).slot j = s.slot j := by
  simp [State.slot]

@[simp] theorem port_queueAlert (a : Alert) (s : State) (q : PortId) :
    (queueAlert a s).port q = s.port q := by
  cases q <;> simp [State.port]

/-- R164: an alert joins at the newest end, and the queue keeps its newest 32. -/
theorem queueAlert_alerts (a : Alert) (s : State) :
    (queueAlert a s).alerts = (s.alerts ++ [a]).drop (s.alerts.length + 1 - Config.alertCapacity) := by
  simp only [queueAlert]

/-- R164: the queue never holds more than 32 alerts. -/
theorem queueAlert_length (a : Alert) (s : State) : (queueAlert a s).alerts.length ≤ Config.alertCapacity := by
  simp only [queueAlert_alerts, List.length_drop, List.length_append, List.length_singleton]
  omega

@[simp] theorem offerEntry_clock (roster : Nat) (k : FaultKey) (s : State) :
    (offerEntry roster k s).clock = s.clock := by
  unfold offerEntry
  try dsimp only
  repeat' (first | (simp; done) | split | rfl)

@[simp] theorem offerEntry_clockUnset (roster : Nat) (k : FaultKey) (s : State) :
    (offerEntry roster k s).clockUnset = s.clockUnset := by
  unfold offerEntry
  try dsimp only
  repeat' (first | (simp; done) | split | rfl)

@[simp] theorem offerEntry_segA (roster : Nat) (k : FaultKey) (s : State) :
    (offerEntry roster k s).segA = s.segA := by
  unfold offerEntry
  try dsimp only
  repeat' (first | (simp; done) | split | rfl)

@[simp] theorem offerEntry_segB (roster : Nat) (k : FaultKey) (s : State) :
    (offerEntry roster k s).segB = s.segB := by
  unfold offerEntry
  try dsimp only
  repeat' (first | (simp; done) | split | rfl)

@[simp] theorem offerEntry_slots (roster : Nat) (k : FaultKey) (s : State) :
    (offerEntry roster k s).slots = s.slots := by
  unfold offerEntry
  try dsimp only
  repeat' (first | (simp; done) | split | rfl)

@[simp] theorem offerEntry_queue (roster : Nat) (k : FaultKey) (s : State) :
    (offerEntry roster k s).queue = s.queue := by
  unfold offerEntry
  try dsimp only
  repeat' (first | (simp; done) | split | rfl)

@[simp] theorem offerEntry_hubFaults (roster : Nat) (k : FaultKey) (s : State) :
    (offerEntry roster k s).hubFaults = s.hubFaults := by
  unfold offerEntry
  try dsimp only
  repeat' (first | (simp; done) | split | rfl)

@[simp] theorem offerEntry_watch (roster : Nat) (k : FaultKey) (s : State) :
    (offerEntry roster k s).watch = s.watch := by
  unfold offerEntry
  try dsimp only
  repeat' (first | (simp; done) | split | rfl)

@[simp] theorem offerEntry_store (roster : Nat) (k : FaultKey) (s : State) :
    (offerEntry roster k s).store = s.store := by
  unfold offerEntry
  try dsimp only
  repeat' (first | (simp; done) | split | rfl)

@[simp] theorem offerEntry_collector (roster : Nat) (k : FaultKey) (s : State) :
    (offerEntry roster k s).collector = s.collector := by
  unfold offerEntry
  try dsimp only
  repeat' (first | (simp; done) | split | rfl)

@[simp] theorem offerEntry_office (roster : Nat) (k : FaultKey) (s : State) :
    (offerEntry roster k s).office = s.office := by
  unfold offerEntry
  try dsimp only
  repeat' (first | (simp; done) | split | rfl)

@[simp] theorem offerEntry_node (roster : Nat) (k : FaultKey) (s : State) :
    (offerEntry roster k s).node = s.node := by
  unfold offerEntry
  try dsimp only
  repeat' (first | (simp; done) | split | rfl)

@[simp] theorem offerEntry_speedStrap (roster : Nat) (k : FaultKey) (s : State) :
    (offerEntry roster k s).speedStrap = s.speedStrap := by
  unfold offerEntry
  try dsimp only
  repeat' (first | (simp; done) | split | rfl)

@[simp] theorem seg_offerEntry (roster : Nat) (k : FaultKey) (s : State) (g : SegId) :
    (offerEntry roster k s).seg g = s.seg g := by
  cases g <;> simp [State.seg]

@[simp] theorem slot_offerEntry (roster : Nat) (k : FaultKey) (s : State) (j : SlotIx) :
    (offerEntry roster k s).slot j = s.slot j := by
  simp [State.slot]

@[simp] theorem port_offerEntry (roster : Nat) (k : FaultKey) (s : State) (q : PortId) :
    (offerEntry roster k s).port q = s.port q := by
  cases q <;> simp [State.port]

/-- R162: an offered entry queues one alert or none. -/
theorem offerEntry_cases (roster : Nat) (k : FaultKey) (s : State) :
    offerEntry roster k s = s ∨ ∃ a, offerEntry roster k s = queueAlert a s := by
  unfold offerEntry
  split
  · exact .inl rfl
  · exact .inr ⟨_, rfl⟩

@[simp] theorem presenceAlert_clock (i : SlotIx) (code : Byte) (s : State) :
    (presenceAlert i code s).clock = s.clock := by
  unfold presenceAlert
  try dsimp only
  repeat' (first | (simp; done) | split | rfl)

@[simp] theorem presenceAlert_clockUnset (i : SlotIx) (code : Byte) (s : State) :
    (presenceAlert i code s).clockUnset = s.clockUnset := by
  unfold presenceAlert
  try dsimp only
  repeat' (first | (simp; done) | split | rfl)

@[simp] theorem presenceAlert_segA (i : SlotIx) (code : Byte) (s : State) :
    (presenceAlert i code s).segA = s.segA := by
  unfold presenceAlert
  try dsimp only
  repeat' (first | (simp; done) | split | rfl)

@[simp] theorem presenceAlert_segB (i : SlotIx) (code : Byte) (s : State) :
    (presenceAlert i code s).segB = s.segB := by
  unfold presenceAlert
  try dsimp only
  repeat' (first | (simp; done) | split | rfl)

@[simp] theorem presenceAlert_slots (i : SlotIx) (code : Byte) (s : State) :
    (presenceAlert i code s).slots = s.slots := by
  unfold presenceAlert
  try dsimp only
  repeat' (first | (simp; done) | split | rfl)

@[simp] theorem presenceAlert_queue (i : SlotIx) (code : Byte) (s : State) :
    (presenceAlert i code s).queue = s.queue := by
  unfold presenceAlert
  try dsimp only
  repeat' (first | (simp; done) | split | rfl)

@[simp] theorem presenceAlert_hubFaults (i : SlotIx) (code : Byte) (s : State) :
    (presenceAlert i code s).hubFaults = s.hubFaults := by
  unfold presenceAlert
  try dsimp only
  repeat' (first | (simp; done) | split | rfl)

@[simp] theorem presenceAlert_watch (i : SlotIx) (code : Byte) (s : State) :
    (presenceAlert i code s).watch = s.watch := by
  unfold presenceAlert
  try dsimp only
  repeat' (first | (simp; done) | split | rfl)

@[simp] theorem presenceAlert_store (i : SlotIx) (code : Byte) (s : State) :
    (presenceAlert i code s).store = s.store := by
  unfold presenceAlert
  try dsimp only
  repeat' (first | (simp; done) | split | rfl)

@[simp] theorem presenceAlert_collector (i : SlotIx) (code : Byte) (s : State) :
    (presenceAlert i code s).collector = s.collector := by
  unfold presenceAlert
  try dsimp only
  repeat' (first | (simp; done) | split | rfl)

@[simp] theorem presenceAlert_office (i : SlotIx) (code : Byte) (s : State) :
    (presenceAlert i code s).office = s.office := by
  unfold presenceAlert
  try dsimp only
  repeat' (first | (simp; done) | split | rfl)

@[simp] theorem presenceAlert_node (i : SlotIx) (code : Byte) (s : State) :
    (presenceAlert i code s).node = s.node := by
  unfold presenceAlert
  try dsimp only
  repeat' (first | (simp; done) | split | rfl)

@[simp] theorem presenceAlert_speedStrap (i : SlotIx) (code : Byte) (s : State) :
    (presenceAlert i code s).speedStrap = s.speedStrap := by
  unfold presenceAlert
  try dsimp only
  repeat' (first | (simp; done) | split | rfl)

@[simp] theorem seg_presenceAlert (i : SlotIx) (code : Byte) (s : State) (g : SegId) :
    (presenceAlert i code s).seg g = s.seg g := by
  cases g <;> simp [State.seg]

@[simp] theorem slot_presenceAlert (i : SlotIx) (code : Byte) (s : State) (j : SlotIx) :
    (presenceAlert i code s).slot j = s.slot j := by
  simp [State.slot]

@[simp] theorem port_presenceAlert (i : SlotIx) (code : Byte) (s : State) (q : PortId) :
    (presenceAlert i code s).port q = s.port q := by
  cases q <;> simp [State.port]

@[simp] theorem putRoster_clock (n : Fin 17) (r : FaultRoster) (s : State) :
    (putRoster n r s).clock = s.clock := by
  unfold putRoster
  try dsimp only
  repeat' (first | (simp; done) | split | rfl)

@[simp] theorem putRoster_clockUnset (n : Fin 17) (r : FaultRoster) (s : State) :
    (putRoster n r s).clockUnset = s.clockUnset := by
  unfold putRoster
  try dsimp only
  repeat' (first | (simp; done) | split | rfl)

@[simp] theorem putRoster_segA (n : Fin 17) (r : FaultRoster) (s : State) :
    (putRoster n r s).segA = s.segA := by
  unfold putRoster
  try dsimp only
  repeat' (first | (simp; done) | split | rfl)

@[simp] theorem putRoster_segB (n : Fin 17) (r : FaultRoster) (s : State) :
    (putRoster n r s).segB = s.segB := by
  unfold putRoster
  try dsimp only
  repeat' (first | (simp; done) | split | rfl)

@[simp] theorem putRoster_queue (n : Fin 17) (r : FaultRoster) (s : State) :
    (putRoster n r s).queue = s.queue := by
  unfold putRoster
  try dsimp only
  repeat' (first | (simp; done) | split | rfl)

@[simp] theorem putRoster_watch (n : Fin 17) (r : FaultRoster) (s : State) :
    (putRoster n r s).watch = s.watch := by
  unfold putRoster
  try dsimp only
  repeat' (first | (simp; done) | split | rfl)

@[simp] theorem putRoster_alerts (n : Fin 17) (r : FaultRoster) (s : State) :
    (putRoster n r s).alerts = s.alerts := by
  unfold putRoster
  try dsimp only
  repeat' (first | (simp; done) | split | rfl)

@[simp] theorem putRoster_overrun (n : Fin 17) (r : FaultRoster) (s : State) :
    (putRoster n r s).overrun = s.overrun := by
  unfold putRoster
  try dsimp only
  repeat' (first | (simp; done) | split | rfl)

@[simp] theorem putRoster_collector (n : Fin 17) (r : FaultRoster) (s : State) :
    (putRoster n r s).collector = s.collector := by
  unfold putRoster
  try dsimp only
  repeat' (first | (simp; done) | split | rfl)

@[simp] theorem putRoster_office (n : Fin 17) (r : FaultRoster) (s : State) :
    (putRoster n r s).office = s.office := by
  unfold putRoster
  try dsimp only
  repeat' (first | (simp; done) | split | rfl)

@[simp] theorem putRoster_node (n : Fin 17) (r : FaultRoster) (s : State) :
    (putRoster n r s).node = s.node := by
  unfold putRoster
  try dsimp only
  repeat' (first | (simp; done) | split | rfl)

@[simp] theorem putRoster_speedStrap (n : Fin 17) (r : FaultRoster) (s : State) :
    (putRoster n r s).speedStrap = s.speedStrap := by
  unfold putRoster
  try dsimp only
  repeat' (first | (simp; done) | split | rfl)

@[simp] theorem seg_putRoster (n : Fin 17) (r : FaultRoster) (s : State) (g : SegId) :
    (putRoster n r s).seg g = s.seg g := by
  cases g <;> simp [State.seg]

@[simp] theorem port_putRoster (n : Fin 17) (r : FaultRoster) (s : State) (q : PortId) :
    (putRoster n r s).port q = s.port q := by
  cases q <;> simp [State.port]

/-- R151: replacing a roster changes nothing of a slot but its faults. -/
theorem slot_putRoster (n : Fin 17) (r : FaultRoster) (s : State) (j : SlotIx) :
    (putRoster n r s).slot j = { s.slot j with faults := ((putRoster n r s).slot j).faults } := by
  unfold putRoster
  split
  · rfl
  · dsimp only
    split
    · rfl
    · simp only [slot_enqueuePage]
      by_cases h : j = ⟨n.val - 1, by omega⟩
      · subst h
        simp
      · simp [slot_modSlot_other _ _ h]

/-- R151: the roster that was put is read back. -/
theorem roster_putRoster (n : Fin 17) (r : FaultRoster) (s : State) : (putRoster n r s).roster n = r := by
  unfold putRoster State.roster
  split
  · rfl
  · dsimp only
    split
    · assumption
    · simp

@[simp] theorem enterFault_clock (n : Fin 17) (k : FaultKey) (origin : Origin) (kind : EntryKind) (s : State) :
    (enterFault n k origin kind s).clock = s.clock := by
  unfold enterFault
  try dsimp only
  repeat' (first | (simp; done) | split | rfl)

@[simp] theorem enterFault_clockUnset (n : Fin 17) (k : FaultKey) (origin : Origin) (kind : EntryKind) (s : State) :
    (enterFault n k origin kind s).clockUnset = s.clockUnset := by
  unfold enterFault
  try dsimp only
  repeat' (first | (simp; done) | split | rfl)

@[simp] theorem enterFault_segA (n : Fin 17) (k : FaultKey) (origin : Origin) (kind : EntryKind) (s : State) :
    (enterFault n k origin kind s).segA = s.segA := by
  unfold enterFault
  try dsimp only
  repeat' (first | (simp; done) | split | rfl)

@[simp] theorem enterFault_segB (n : Fin 17) (k : FaultKey) (origin : Origin) (kind : EntryKind) (s : State) :
    (enterFault n k origin kind s).segB = s.segB := by
  unfold enterFault
  try dsimp only
  repeat' (first | (simp; done) | split | rfl)

@[simp] theorem enterFault_queue (n : Fin 17) (k : FaultKey) (origin : Origin) (kind : EntryKind) (s : State) :
    (enterFault n k origin kind s).queue = s.queue := by
  unfold enterFault
  try dsimp only
  repeat' (first | (simp; done) | split | rfl)

@[simp] theorem enterFault_watch (n : Fin 17) (k : FaultKey) (origin : Origin) (kind : EntryKind) (s : State) :
    (enterFault n k origin kind s).watch = s.watch := by
  unfold enterFault
  try dsimp only
  repeat' (first | (simp; done) | split | rfl)

@[simp] theorem enterFault_collector (n : Fin 17) (k : FaultKey) (origin : Origin) (kind : EntryKind) (s : State) :
    (enterFault n k origin kind s).collector = s.collector := by
  unfold enterFault
  try dsimp only
  repeat' (first | (simp; done) | split | rfl)

@[simp] theorem enterFault_office (n : Fin 17) (k : FaultKey) (origin : Origin) (kind : EntryKind) (s : State) :
    (enterFault n k origin kind s).office = s.office := by
  unfold enterFault
  try dsimp only
  repeat' (first | (simp; done) | split | rfl)

@[simp] theorem enterFault_node (n : Fin 17) (k : FaultKey) (origin : Origin) (kind : EntryKind) (s : State) :
    (enterFault n k origin kind s).node = s.node := by
  unfold enterFault
  try dsimp only
  repeat' (first | (simp; done) | split | rfl)

@[simp] theorem enterFault_speedStrap (n : Fin 17) (k : FaultKey) (origin : Origin) (kind : EntryKind) (s : State) :
    (enterFault n k origin kind s).speedStrap = s.speedStrap := by
  unfold enterFault
  try dsimp only
  repeat' (first | (simp; done) | split | rfl)

@[simp] theorem seg_enterFault (n : Fin 17) (k : FaultKey) (origin : Origin) (kind : EntryKind) (s : State) (g : SegId) :
    (enterFault n k origin kind s).seg g = s.seg g := by
  cases g <;> simp [State.seg]

@[simp] theorem port_enterFault (n : Fin 17) (k : FaultKey) (origin : Origin) (kind : EntryKind) (s : State) (q : PortId) :
    (enterFault n k origin kind s).port q = s.port q := by
  cases q <;> simp [State.port]

/-- R154 to R157: an entry changes nothing of a slot but its faults. -/
theorem slot_enterFault (n : Fin 17) (k : FaultKey) (origin : Origin) (kind : EntryKind) (s : State) (j : SlotIx) :
    (enterFault n k origin kind s).slot j
      = { s.slot j with faults := ((enterFault n k origin kind s).slot j).faults } := by
  unfold enterFault
  dsimp only
  split
  · simpa using slot_putRoster n _ s j
  · exact slot_putRoster n _ s j

/-- R154 to R157: the roster after an entry. -/
theorem roster_enterFault (n : Fin 17) (k : FaultKey) (origin : Origin) (kind : EntryKind) (s : State) :
    (enterFault n k origin kind s).roster n = ((s.roster n).enter k origin kind s.now).1 := by
  unfold enterFault
  dsimp only
  split
  · rw [show ∀ t u : State, t.hubFaults = u.hubFaults → t.slots = u.slots → t.roster n = u.roster n from
      fun t u h1 h2 => by unfold State.roster State.slot; rw [h1, h2]]
    · exact roster_putRoster n _ s
    · simp
    · simp
  · exact roster_putRoster n _ s

@[simp] theorem openCondition_clock (n : Fin 17) (k : FaultKey) (s : State) :
    (openCondition n k s).clock = s.clock := by
  unfold openCondition
  try dsimp only
  repeat' (first | (simp; done) | split | rfl)

@[simp] theorem openCondition_clockUnset (n : Fin 17) (k : FaultKey) (s : State) :
    (openCondition n k s).clockUnset = s.clockUnset := by
  unfold openCondition
  try dsimp only
  repeat' (first | (simp; done) | split | rfl)

@[simp] theorem openCondition_segA (n : Fin 17) (k : FaultKey) (s : State) :
    (openCondition n k s).segA = s.segA := by
  unfold openCondition
  try dsimp only
  repeat' (first | (simp; done) | split | rfl)

@[simp] theorem openCondition_segB (n : Fin 17) (k : FaultKey) (s : State) :
    (openCondition n k s).segB = s.segB := by
  unfold openCondition
  try dsimp only
  repeat' (first | (simp; done) | split | rfl)

@[simp] theorem openCondition_queue (n : Fin 17) (k : FaultKey) (s : State) :
    (openCondition n k s).queue = s.queue := by
  unfold openCondition
  try dsimp only
  repeat' (first | (simp; done) | split | rfl)

@[simp] theorem openCondition_watch (n : Fin 17) (k : FaultKey) (s : State) :
    (openCondition n k s).watch = s.watch := by
  unfold openCondition
  try dsimp only
  repeat' (first | (simp; done) | split | rfl)

@[simp] theorem openCondition_collector (n : Fin 17) (k : FaultKey) (s : State) :
    (openCondition n k s).collector = s.collector := by
  unfold openCondition
  try dsimp only
  repeat' (first | (simp; done) | split | rfl)

@[simp] theorem openCondition_office (n : Fin 17) (k : FaultKey) (s : State) :
    (openCondition n k s).office = s.office := by
  unfold openCondition
  try dsimp only
  repeat' (first | (simp; done) | split | rfl)

@[simp] theorem openCondition_node (n : Fin 17) (k : FaultKey) (s : State) :
    (openCondition n k s).node = s.node := by
  unfold openCondition
  try dsimp only
  repeat' (first | (simp; done) | split | rfl)

@[simp] theorem openCondition_speedStrap (n : Fin 17) (k : FaultKey) (s : State) :
    (openCondition n k s).speedStrap = s.speedStrap := by
  unfold openCondition
  try dsimp only
  repeat' (first | (simp; done) | split | rfl)

@[simp] theorem seg_openCondition (n : Fin 17) (k : FaultKey) (s : State) (g : SegId) :
    (openCondition n k s).seg g = s.seg g := by
  cases g <;> simp [State.seg]

@[simp] theorem port_openCondition (n : Fin 17) (k : FaultKey) (s : State) (q : PortId) :
    (openCondition n k s).port q = s.port q := by
  cases q <;> simp [State.port]

@[simp] theorem eventFault_clock (n : Fin 17) (k : FaultKey) (s : State) :
    (eventFault n k s).clock = s.clock := by
  unfold eventFault
  try dsimp only
  repeat' (first | (simp; done) | split | rfl)

@[simp] theorem eventFault_clockUnset (n : Fin 17) (k : FaultKey) (s : State) :
    (eventFault n k s).clockUnset = s.clockUnset := by
  unfold eventFault
  try dsimp only
  repeat' (first | (simp; done) | split | rfl)

@[simp] theorem eventFault_segA (n : Fin 17) (k : FaultKey) (s : State) :
    (eventFault n k s).segA = s.segA := by
  unfold eventFault
  try dsimp only
  repeat' (first | (simp; done) | split | rfl)

@[simp] theorem eventFault_segB (n : Fin 17) (k : FaultKey) (s : State) :
    (eventFault n k s).segB = s.segB := by
  unfold eventFault
  try dsimp only
  repeat' (first | (simp; done) | split | rfl)

@[simp] theorem eventFault_queue (n : Fin 17) (k : FaultKey) (s : State) :
    (eventFault n k s).queue = s.queue := by
  unfold eventFault
  try dsimp only
  repeat' (first | (simp; done) | split | rfl)

@[simp] theorem eventFault_watch (n : Fin 17) (k : FaultKey) (s : State) :
    (eventFault n k s).watch = s.watch := by
  unfold eventFault
  try dsimp only
  repeat' (first | (simp; done) | split | rfl)

@[simp] theorem eventFault_collector (n : Fin 17) (k : FaultKey) (s : State) :
    (eventFault n k s).collector = s.collector := by
  unfold eventFault
  try dsimp only
  repeat' (first | (simp; done) | split | rfl)

@[simp] theorem eventFault_office (n : Fin 17) (k : FaultKey) (s : State) :
    (eventFault n k s).office = s.office := by
  unfold eventFault
  try dsimp only
  repeat' (first | (simp; done) | split | rfl)

@[simp] theorem eventFault_node (n : Fin 17) (k : FaultKey) (s : State) :
    (eventFault n k s).node = s.node := by
  unfold eventFault
  try dsimp only
  repeat' (first | (simp; done) | split | rfl)

@[simp] theorem eventFault_speedStrap (n : Fin 17) (k : FaultKey) (s : State) :
    (eventFault n k s).speedStrap = s.speedStrap := by
  unfold eventFault
  try dsimp only
  repeat' (first | (simp; done) | split | rfl)

@[simp] theorem seg_eventFault (n : Fin 17) (k : FaultKey) (s : State) (g : SegId) :
    (eventFault n k s).seg g = s.seg g := by
  cases g <;> simp [State.seg]

@[simp] theorem port_eventFault (n : Fin 17) (k : FaultKey) (s : State) (q : PortId) :
    (eventFault n k s).port q = s.port q := by
  cases q <;> simp [State.port]

@[simp] theorem endCondition_clock (n : Fin 17) (k : FaultKey) (s : State) :
    (endCondition n k s).clock = s.clock := by
  unfold endCondition
  try dsimp only
  repeat' (first | (simp; done) | split | rfl)

@[simp] theorem endCondition_clockUnset (n : Fin 17) (k : FaultKey) (s : State) :
    (endCondition n k s).clockUnset = s.clockUnset := by
  unfold endCondition
  try dsimp only
  repeat' (first | (simp; done) | split | rfl)

@[simp] theorem endCondition_segA (n : Fin 17) (k : FaultKey) (s : State) :
    (endCondition n k s).segA = s.segA := by
  unfold endCondition
  try dsimp only
  repeat' (first | (simp; done) | split | rfl)

@[simp] theorem endCondition_segB (n : Fin 17) (k : FaultKey) (s : State) :
    (endCondition n k s).segB = s.segB := by
  unfold endCondition
  try dsimp only
  repeat' (first | (simp; done) | split | rfl)

@[simp] theorem endCondition_queue (n : Fin 17) (k : FaultKey) (s : State) :
    (endCondition n k s).queue = s.queue := by
  unfold endCondition
  try dsimp only
  repeat' (first | (simp; done) | split | rfl)

@[simp] theorem endCondition_watch (n : Fin 17) (k : FaultKey) (s : State) :
    (endCondition n k s).watch = s.watch := by
  unfold endCondition
  try dsimp only
  repeat' (first | (simp; done) | split | rfl)

@[simp] theorem endCondition_alerts (n : Fin 17) (k : FaultKey) (s : State) :
    (endCondition n k s).alerts = s.alerts := by
  unfold endCondition
  try dsimp only
  repeat' (first | (simp; done) | split | rfl)

@[simp] theorem endCondition_overrun (n : Fin 17) (k : FaultKey) (s : State) :
    (endCondition n k s).overrun = s.overrun := by
  unfold endCondition
  try dsimp only
  repeat' (first | (simp; done) | split | rfl)

@[simp] theorem endCondition_collector (n : Fin 17) (k : FaultKey) (s : State) :
    (endCondition n k s).collector = s.collector := by
  unfold endCondition
  try dsimp only
  repeat' (first | (simp; done) | split | rfl)

@[simp] theorem endCondition_office (n : Fin 17) (k : FaultKey) (s : State) :
    (endCondition n k s).office = s.office := by
  unfold endCondition
  try dsimp only
  repeat' (first | (simp; done) | split | rfl)

@[simp] theorem endCondition_node (n : Fin 17) (k : FaultKey) (s : State) :
    (endCondition n k s).node = s.node := by
  unfold endCondition
  try dsimp only
  repeat' (first | (simp; done) | split | rfl)

@[simp] theorem endCondition_speedStrap (n : Fin 17) (k : FaultKey) (s : State) :
    (endCondition n k s).speedStrap = s.speedStrap := by
  unfold endCondition
  try dsimp only
  repeat' (first | (simp; done) | split | rfl)

@[simp] theorem seg_endCondition (n : Fin 17) (k : FaultKey) (s : State) (g : SegId) :
    (endCondition n k s).seg g = s.seg g := by
  cases g <;> simp [State.seg]

@[simp] theorem port_endCondition (n : Fin 17) (k : FaultKey) (s : State) (q : PortId) :
    (endCondition n k s).port q = s.port q := by
  cases q <;> simp [State.port]

/-- R155: an ending changes nothing of a slot but its faults. -/
theorem slot_endCondition (n : Fin 17) (k : FaultKey) (s : State) (j : SlotIx) :
    (endCondition n k s).slot j = { s.slot j with faults := ((endCondition n k s).slot j).faults } :=
  slot_putRoster n _ s j

/-- R155: the roster after an ending. -/
theorem roster_endCondition (n : Fin 17) (k : FaultKey) (s : State) :
    (endCondition n k s).roster n = (s.roster n).finish k := roster_putRoster n _ s

/-! ## Answers and reservations -/

@[simp] theorem answer_clock (p : PortId) (status : Status) (body : List Byte) (s : State) :
    (answer p status body s).clock = s.clock := by
  unfold answer
  try dsimp only
  repeat' (first | (simp; done) | split | rfl)

@[simp] theorem answer_clockUnset (p : PortId) (status : Status) (body : List Byte) (s : State) :
    (answer p status body s).clockUnset = s.clockUnset := by
  unfold answer
  try dsimp only
  repeat' (first | (simp; done) | split | rfl)

@[simp] theorem answer_segA (p : PortId) (status : Status) (body : List Byte) (s : State) :
    (answer p status body s).segA = s.segA := by
  unfold answer
  try dsimp only
  repeat' (first | (simp; done) | split | rfl)

@[simp] theorem answer_segB (p : PortId) (status : Status) (body : List Byte) (s : State) :
    (answer p status body s).segB = s.segB := by
  unfold answer
  try dsimp only
  repeat' (first | (simp; done) | split | rfl)

@[simp] theorem answer_slots (p : PortId) (status : Status) (body : List Byte) (s : State) :
    (answer p status body s).slots = s.slots := by
  unfold answer
  try dsimp only
  repeat' (first | (simp; done) | split | rfl)

@[simp] theorem answer_queue (p : PortId) (status : Status) (body : List Byte) (s : State) :
    (answer p status body s).queue = s.queue := by
  unfold answer
  try dsimp only
  repeat' (first | (simp; done) | split | rfl)

@[simp] theorem answer_hubFaults (p : PortId) (status : Status) (body : List Byte) (s : State) :
    (answer p status body s).hubFaults = s.hubFaults := by
  unfold answer
  try dsimp only
  repeat' (first | (simp; done) | split | rfl)

@[simp] theorem answer_watch (p : PortId) (status : Status) (body : List Byte) (s : State) :
    (answer p status body s).watch = s.watch := by
  unfold answer
  try dsimp only
  repeat' (first | (simp; done) | split | rfl)

@[simp] theorem answer_alerts (p : PortId) (status : Status) (body : List Byte) (s : State) :
    (answer p status body s).alerts = s.alerts := by
  unfold answer
  try dsimp only
  repeat' (first | (simp; done) | split | rfl)

@[simp] theorem answer_overrun (p : PortId) (status : Status) (body : List Byte) (s : State) :
    (answer p status body s).overrun = s.overrun := by
  unfold answer
  try dsimp only
  repeat' (first | (simp; done) | split | rfl)

@[simp] theorem answer_store (p : PortId) (status : Status) (body : List Byte) (s : State) :
    (answer p status body s).store = s.store := by
  unfold answer
  try dsimp only
  repeat' (first | (simp; done) | split | rfl)

@[simp] theorem answer_node (p : PortId) (status : Status) (body : List Byte) (s : State) :
    (answer p status body s).node = s.node := by
  unfold answer
  try dsimp only
  repeat' (first | (simp; done) | split | rfl)

@[simp] theorem answer_speedStrap (p : PortId) (status : Status) (body : List Byte) (s : State) :
    (answer p status body s).speedStrap = s.speedStrap := by
  unfold answer
  try dsimp only
  repeat' (first | (simp; done) | split | rfl)

@[simp] theorem seg_answer (p : PortId) (status : Status) (body : List Byte) (s : State) (g : SegId) :
    (answer p status body s).seg g = s.seg g := by
  cases g <;> simp [State.seg]

@[simp] theorem slot_answer (p : PortId) (status : Status) (body : List Byte) (s : State) (j : SlotIx) :
    (answer p status body s).slot j = s.slot j := by
  simp [State.slot]

/-- R183: an answer changes the port that carries it. -/
theorem port_answer_same (p : PortId) (status : Status) (body : List Byte) (s : State) :
    (answer p status body s).port p = (s.port p).answer status body := by
  simp [answer]

theorem port_answer_other {p q : PortId} (status : Status) (body : List Byte) (s : State) (h : q ≠ p) :
    (answer p status body s).port q = s.port q := by
  simp [answer, port_modPort_other _ _ h]

@[simp] theorem answerTo_clock (p : Option PortId) (status : Status) (body : List Byte) (s : State) :
    (answerTo p status body s).clock = s.clock := by
  unfold answerTo
  try dsimp only
  repeat' (first | (simp; done) | split | rfl)

@[simp] theorem answerTo_clockUnset (p : Option PortId) (status : Status) (body : List Byte) (s : State) :
    (answerTo p status body s).clockUnset = s.clockUnset := by
  unfold answerTo
  try dsimp only
  repeat' (first | (simp; done) | split | rfl)

@[simp] theorem answerTo_segA (p : Option PortId) (status : Status) (body : List Byte) (s : State) :
    (answerTo p status body s).segA = s.segA := by
  unfold answerTo
  try dsimp only
  repeat' (first | (simp; done) | split | rfl)

@[simp] theorem answerTo_segB (p : Option PortId) (status : Status) (body : List Byte) (s : State) :
    (answerTo p status body s).segB = s.segB := by
  unfold answerTo
  try dsimp only
  repeat' (first | (simp; done) | split | rfl)

@[simp] theorem answerTo_slots (p : Option PortId) (status : Status) (body : List Byte) (s : State) :
    (answerTo p status body s).slots = s.slots := by
  unfold answerTo
  try dsimp only
  repeat' (first | (simp; done) | split | rfl)

@[simp] theorem answerTo_queue (p : Option PortId) (status : Status) (body : List Byte) (s : State) :
    (answerTo p status body s).queue = s.queue := by
  unfold answerTo
  try dsimp only
  repeat' (first | (simp; done) | split | rfl)

@[simp] theorem answerTo_hubFaults (p : Option PortId) (status : Status) (body : List Byte) (s : State) :
    (answerTo p status body s).hubFaults = s.hubFaults := by
  unfold answerTo
  try dsimp only
  repeat' (first | (simp; done) | split | rfl)

@[simp] theorem answerTo_watch (p : Option PortId) (status : Status) (body : List Byte) (s : State) :
    (answerTo p status body s).watch = s.watch := by
  unfold answerTo
  try dsimp only
  repeat' (first | (simp; done) | split | rfl)

@[simp] theorem answerTo_alerts (p : Option PortId) (status : Status) (body : List Byte) (s : State) :
    (answerTo p status body s).alerts = s.alerts := by
  unfold answerTo
  try dsimp only
  repeat' (first | (simp; done) | split | rfl)

@[simp] theorem answerTo_overrun (p : Option PortId) (status : Status) (body : List Byte) (s : State) :
    (answerTo p status body s).overrun = s.overrun := by
  unfold answerTo
  try dsimp only
  repeat' (first | (simp; done) | split | rfl)

@[simp] theorem answerTo_store (p : Option PortId) (status : Status) (body : List Byte) (s : State) :
    (answerTo p status body s).store = s.store := by
  unfold answerTo
  try dsimp only
  repeat' (first | (simp; done) | split | rfl)

@[simp] theorem answerTo_node (p : Option PortId) (status : Status) (body : List Byte) (s : State) :
    (answerTo p status body s).node = s.node := by
  unfold answerTo
  try dsimp only
  repeat' (first | (simp; done) | split | rfl)

@[simp] theorem answerTo_speedStrap (p : Option PortId) (status : Status) (body : List Byte) (s : State) :
    (answerTo p status body s).speedStrap = s.speedStrap := by
  unfold answerTo
  try dsimp only
  repeat' (first | (simp; done) | split | rfl)

@[simp] theorem seg_answerTo (p : Option PortId) (status : Status) (body : List Byte) (s : State) (g : SegId) :
    (answerTo p status body s).seg g = s.seg g := by
  cases g <;> simp [State.seg]

@[simp] theorem slot_answerTo (p : Option PortId) (status : Status) (body : List Byte) (s : State) (j : SlotIx) :
    (answerTo p status body s).slot j = s.slot j := by
  simp [State.slot]

@[simp] theorem clearReservations_clock (i : SlotIx) (s : State) :
    (clearReservations i s).clock = s.clock := by
  unfold clearReservations
  try dsimp only
  repeat' (first | (simp; done) | split | rfl)

@[simp] theorem clearReservations_clockUnset (i : SlotIx) (s : State) :
    (clearReservations i s).clockUnset = s.clockUnset := by
  unfold clearReservations
  try dsimp only
  repeat' (first | (simp; done) | split | rfl)

@[simp] theorem clearReservations_segA (i : SlotIx) (s : State) :
    (clearReservations i s).segA = s.segA := by
  unfold clearReservations
  try dsimp only
  repeat' (first | (simp; done) | split | rfl)

@[simp] theorem clearReservations_segB (i : SlotIx) (s : State) :
    (clearReservations i s).segB = s.segB := by
  unfold clearReservations
  try dsimp only
  repeat' (first | (simp; done) | split | rfl)

@[simp] theorem clearReservations_slots (i : SlotIx) (s : State) :
    (clearReservations i s).slots = s.slots := by
  unfold clearReservations
  try dsimp only
  repeat' (first | (simp; done) | split | rfl)

@[simp] theorem clearReservations_queue (i : SlotIx) (s : State) :
    (clearReservations i s).queue = s.queue := by
  unfold clearReservations
  try dsimp only
  repeat' (first | (simp; done) | split | rfl)

@[simp] theorem clearReservations_hubFaults (i : SlotIx) (s : State) :
    (clearReservations i s).hubFaults = s.hubFaults := by
  unfold clearReservations
  try dsimp only
  repeat' (first | (simp; done) | split | rfl)

@[simp] theorem clearReservations_watch (i : SlotIx) (s : State) :
    (clearReservations i s).watch = s.watch := by
  unfold clearReservations
  try dsimp only
  repeat' (first | (simp; done) | split | rfl)

@[simp] theorem clearReservations_alerts (i : SlotIx) (s : State) :
    (clearReservations i s).alerts = s.alerts := by
  unfold clearReservations
  try dsimp only
  repeat' (first | (simp; done) | split | rfl)

@[simp] theorem clearReservations_overrun (i : SlotIx) (s : State) :
    (clearReservations i s).overrun = s.overrun := by
  unfold clearReservations
  try dsimp only
  repeat' (first | (simp; done) | split | rfl)

@[simp] theorem clearReservations_store (i : SlotIx) (s : State) :
    (clearReservations i s).store = s.store := by
  unfold clearReservations
  try dsimp only
  repeat' (first | (simp; done) | split | rfl)

@[simp] theorem clearReservations_node (i : SlotIx) (s : State) :
    (clearReservations i s).node = s.node := by
  unfold clearReservations
  try dsimp only
  repeat' (first | (simp; done) | split | rfl)

@[simp] theorem clearReservations_speedStrap (i : SlotIx) (s : State) :
    (clearReservations i s).speedStrap = s.speedStrap := by
  unfold clearReservations
  try dsimp only
  repeat' (first | (simp; done) | split | rfl)

@[simp] theorem seg_clearReservations (i : SlotIx) (s : State) (g : SegId) :
    (clearReservations i s).seg g = s.seg g := by
  cases g <;> simp [State.seg]

@[simp] theorem slot_clearReservations (i : SlotIx) (s : State) (j : SlotIx) :
    (clearReservations i s).slot j = s.slot j := by
  simp [State.slot]

/-! ## The delivery queue -/

@[simp] theorem removeEntry_clock (i : SlotIx) (s : State) :
    (removeEntry i s).clock = s.clock := by
  unfold removeEntry
  try dsimp only
  repeat' (first | (simp; done) | split | rfl)

@[simp] theorem removeEntry_clockUnset (i : SlotIx) (s : State) :
    (removeEntry i s).clockUnset = s.clockUnset := by
  unfold removeEntry
  try dsimp only
  repeat' (first | (simp; done) | split | rfl)

@[simp] theorem removeEntry_segA (i : SlotIx) (s : State) :
    (removeEntry i s).segA = s.segA := by
  unfold removeEntry
  try dsimp only
  repeat' (first | (simp; done) | split | rfl)

@[simp] theorem removeEntry_segB (i : SlotIx) (s : State) :
    (removeEntry i s).segB = s.segB := by
  unfold removeEntry
  try dsimp only
  repeat' (first | (simp; done) | split | rfl)

@[simp] theorem removeEntry_slots (i : SlotIx) (s : State) :
    (removeEntry i s).slots = s.slots := by
  unfold removeEntry
  try dsimp only
  repeat' (first | (simp; done) | split | rfl)

@[simp] theorem removeEntry_hubFaults (i : SlotIx) (s : State) :
    (removeEntry i s).hubFaults = s.hubFaults := by
  unfold removeEntry
  try dsimp only
  repeat' (first | (simp; done) | split | rfl)

@[simp] theorem removeEntry_watch (i : SlotIx) (s : State) :
    (removeEntry i s).watch = s.watch := by
  unfold removeEntry
  try dsimp only
  repeat' (first | (simp; done) | split | rfl)

@[simp] theorem removeEntry_alerts (i : SlotIx) (s : State) :
    (removeEntry i s).alerts = s.alerts := by
  unfold removeEntry
  try dsimp only
  repeat' (first | (simp; done) | split | rfl)

@[simp] theorem removeEntry_overrun (i : SlotIx) (s : State) :
    (removeEntry i s).overrun = s.overrun := by
  unfold removeEntry
  try dsimp only
  repeat' (first | (simp; done) | split | rfl)

@[simp] theorem removeEntry_store (i : SlotIx) (s : State) :
    (removeEntry i s).store = s.store := by
  unfold removeEntry
  try dsimp only
  repeat' (first | (simp; done) | split | rfl)

@[simp] theorem removeEntry_collector (i : SlotIx) (s : State) :
    (removeEntry i s).collector = s.collector := by
  unfold removeEntry
  try dsimp only
  repeat' (first | (simp; done) | split | rfl)

@[simp] theorem removeEntry_office (i : SlotIx) (s : State) :
    (removeEntry i s).office = s.office := by
  unfold removeEntry
  try dsimp only
  repeat' (first | (simp; done) | split | rfl)

@[simp] theorem removeEntry_node (i : SlotIx) (s : State) :
    (removeEntry i s).node = s.node := by
  unfold removeEntry
  try dsimp only
  repeat' (first | (simp; done) | split | rfl)

@[simp] theorem removeEntry_speedStrap (i : SlotIx) (s : State) :
    (removeEntry i s).speedStrap = s.speedStrap := by
  unfold removeEntry
  try dsimp only
  repeat' (first | (simp; done) | split | rfl)

@[simp] theorem seg_removeEntry (i : SlotIx) (s : State) (g : SegId) :
    (removeEntry i s).seg g = s.seg g := by
  cases g <;> simp [State.seg]

@[simp] theorem slot_removeEntry (i : SlotIx) (s : State) (j : SlotIx) :
    (removeEntry i s).slot j = s.slot j := by
  simp [State.slot]

@[simp] theorem port_removeEntry (i : SlotIx) (s : State) (q : PortId) :
    (removeEntry i s).port q = s.port q := by
  cases q <;> simp [State.port]

@[simp] theorem joinQueue_clock (i : SlotIx) (priority : Nat) (origin : EntryOrigin) (s : State) :
    (joinQueue i priority origin s).clock = s.clock := by
  unfold joinQueue
  try dsimp only
  repeat' (first | (simp; done) | split | rfl)

@[simp] theorem joinQueue_clockUnset (i : SlotIx) (priority : Nat) (origin : EntryOrigin) (s : State) :
    (joinQueue i priority origin s).clockUnset = s.clockUnset := by
  unfold joinQueue
  try dsimp only
  repeat' (first | (simp; done) | split | rfl)

@[simp] theorem joinQueue_segA (i : SlotIx) (priority : Nat) (origin : EntryOrigin) (s : State) :
    (joinQueue i priority origin s).segA = s.segA := by
  unfold joinQueue
  try dsimp only
  repeat' (first | (simp; done) | split | rfl)

@[simp] theorem joinQueue_segB (i : SlotIx) (priority : Nat) (origin : EntryOrigin) (s : State) :
    (joinQueue i priority origin s).segB = s.segB := by
  unfold joinQueue
  try dsimp only
  repeat' (first | (simp; done) | split | rfl)

@[simp] theorem joinQueue_slots (i : SlotIx) (priority : Nat) (origin : EntryOrigin) (s : State) :
    (joinQueue i priority origin s).slots = s.slots := by
  unfold joinQueue
  try dsimp only
  repeat' (first | (simp; done) | split | rfl)

@[simp] theorem joinQueue_hubFaults (i : SlotIx) (priority : Nat) (origin : EntryOrigin) (s : State) :
    (joinQueue i priority origin s).hubFaults = s.hubFaults := by
  unfold joinQueue
  try dsimp only
  repeat' (first | (simp; done) | split | rfl)

@[simp] theorem joinQueue_watch (i : SlotIx) (priority : Nat) (origin : EntryOrigin) (s : State) :
    (joinQueue i priority origin s).watch = s.watch := by
  unfold joinQueue
  try dsimp only
  repeat' (first | (simp; done) | split | rfl)

@[simp] theorem joinQueue_alerts (i : SlotIx) (priority : Nat) (origin : EntryOrigin) (s : State) :
    (joinQueue i priority origin s).alerts = s.alerts := by
  unfold joinQueue
  try dsimp only
  repeat' (first | (simp; done) | split | rfl)

@[simp] theorem joinQueue_overrun (i : SlotIx) (priority : Nat) (origin : EntryOrigin) (s : State) :
    (joinQueue i priority origin s).overrun = s.overrun := by
  unfold joinQueue
  try dsimp only
  repeat' (first | (simp; done) | split | rfl)

@[simp] theorem joinQueue_store (i : SlotIx) (priority : Nat) (origin : EntryOrigin) (s : State) :
    (joinQueue i priority origin s).store = s.store := by
  unfold joinQueue
  try dsimp only
  repeat' (first | (simp; done) | split | rfl)

@[simp] theorem joinQueue_collector (i : SlotIx) (priority : Nat) (origin : EntryOrigin) (s : State) :
    (joinQueue i priority origin s).collector = s.collector := by
  unfold joinQueue
  try dsimp only
  repeat' (first | (simp; done) | split | rfl)

@[simp] theorem joinQueue_office (i : SlotIx) (priority : Nat) (origin : EntryOrigin) (s : State) :
    (joinQueue i priority origin s).office = s.office := by
  unfold joinQueue
  try dsimp only
  repeat' (first | (simp; done) | split | rfl)

@[simp] theorem joinQueue_node (i : SlotIx) (priority : Nat) (origin : EntryOrigin) (s : State) :
    (joinQueue i priority origin s).node = s.node := by
  unfold joinQueue
  try dsimp only
  repeat' (first | (simp; done) | split | rfl)

@[simp] theorem joinQueue_speedStrap (i : SlotIx) (priority : Nat) (origin : EntryOrigin) (s : State) :
    (joinQueue i priority origin s).speedStrap = s.speedStrap := by
  unfold joinQueue
  try dsimp only
  repeat' (first | (simp; done) | split | rfl)

@[simp] theorem seg_joinQueue (i : SlotIx) (priority : Nat) (origin : EntryOrigin) (s : State) (g : SegId) :
    (joinQueue i priority origin s).seg g = s.seg g := by
  cases g <;> simp [State.seg]

@[simp] theorem slot_joinQueue (i : SlotIx) (priority : Nat) (origin : EntryOrigin) (s : State) (j : SlotIx) :
    (joinQueue i priority origin s).slot j = s.slot j := by
  simp [State.slot]

@[simp] theorem port_joinQueue (i : SlotIx) (priority : Nat) (origin : EntryOrigin) (s : State) (q : PortId) :
    (joinQueue i priority origin s).port q = s.port q := by
  cases q <;> simp [State.port]

@[simp] theorem modEntry_clock (i : SlotIx) (f : DeliveryEntry → DeliveryEntry) (s : State) :
    (modEntry i f s).clock = s.clock := by
  unfold modEntry
  try dsimp only
  repeat' (first | (simp; done) | split | rfl)

@[simp] theorem modEntry_clockUnset (i : SlotIx) (f : DeliveryEntry → DeliveryEntry) (s : State) :
    (modEntry i f s).clockUnset = s.clockUnset := by
  unfold modEntry
  try dsimp only
  repeat' (first | (simp; done) | split | rfl)

@[simp] theorem modEntry_segA (i : SlotIx) (f : DeliveryEntry → DeliveryEntry) (s : State) :
    (modEntry i f s).segA = s.segA := by
  unfold modEntry
  try dsimp only
  repeat' (first | (simp; done) | split | rfl)

@[simp] theorem modEntry_segB (i : SlotIx) (f : DeliveryEntry → DeliveryEntry) (s : State) :
    (modEntry i f s).segB = s.segB := by
  unfold modEntry
  try dsimp only
  repeat' (first | (simp; done) | split | rfl)

@[simp] theorem modEntry_slots (i : SlotIx) (f : DeliveryEntry → DeliveryEntry) (s : State) :
    (modEntry i f s).slots = s.slots := by
  unfold modEntry
  try dsimp only
  repeat' (first | (simp; done) | split | rfl)

@[simp] theorem modEntry_hubFaults (i : SlotIx) (f : DeliveryEntry → DeliveryEntry) (s : State) :
    (modEntry i f s).hubFaults = s.hubFaults := by
  unfold modEntry
  try dsimp only
  repeat' (first | (simp; done) | split | rfl)

@[simp] theorem modEntry_watch (i : SlotIx) (f : DeliveryEntry → DeliveryEntry) (s : State) :
    (modEntry i f s).watch = s.watch := by
  unfold modEntry
  try dsimp only
  repeat' (first | (simp; done) | split | rfl)

@[simp] theorem modEntry_alerts (i : SlotIx) (f : DeliveryEntry → DeliveryEntry) (s : State) :
    (modEntry i f s).alerts = s.alerts := by
  unfold modEntry
  try dsimp only
  repeat' (first | (simp; done) | split | rfl)

@[simp] theorem modEntry_overrun (i : SlotIx) (f : DeliveryEntry → DeliveryEntry) (s : State) :
    (modEntry i f s).overrun = s.overrun := by
  unfold modEntry
  try dsimp only
  repeat' (first | (simp; done) | split | rfl)

@[simp] theorem modEntry_store (i : SlotIx) (f : DeliveryEntry → DeliveryEntry) (s : State) :
    (modEntry i f s).store = s.store := by
  unfold modEntry
  try dsimp only
  repeat' (first | (simp; done) | split | rfl)

@[simp] theorem modEntry_collector (i : SlotIx) (f : DeliveryEntry → DeliveryEntry) (s : State) :
    (modEntry i f s).collector = s.collector := by
  unfold modEntry
  try dsimp only
  repeat' (first | (simp; done) | split | rfl)

@[simp] theorem modEntry_office (i : SlotIx) (f : DeliveryEntry → DeliveryEntry) (s : State) :
    (modEntry i f s).office = s.office := by
  unfold modEntry
  try dsimp only
  repeat' (first | (simp; done) | split | rfl)

@[simp] theorem modEntry_node (i : SlotIx) (f : DeliveryEntry → DeliveryEntry) (s : State) :
    (modEntry i f s).node = s.node := by
  unfold modEntry
  try dsimp only
  repeat' (first | (simp; done) | split | rfl)

@[simp] theorem modEntry_speedStrap (i : SlotIx) (f : DeliveryEntry → DeliveryEntry) (s : State) :
    (modEntry i f s).speedStrap = s.speedStrap := by
  unfold modEntry
  try dsimp only
  repeat' (first | (simp; done) | split | rfl)

@[simp] theorem seg_modEntry (i : SlotIx) (f : DeliveryEntry → DeliveryEntry) (s : State) (g : SegId) :
    (modEntry i f s).seg g = s.seg g := by
  cases g <;> simp [State.seg]

@[simp] theorem slot_modEntry (i : SlotIx) (f : DeliveryEntry → DeliveryEntry) (s : State) (j : SlotIx) :
    (modEntry i f s).slot j = s.slot j := by
  simp [State.slot]

@[simp] theorem port_modEntry (i : SlotIx) (f : DeliveryEntry → DeliveryEntry) (s : State) (q : PortId) :
    (modEntry i f s).port q = s.port q := by
  cases q <;> simp [State.port]

end Sys2Proof.Machine
end

