-- ==== Sys2Proof/Tests/Slice0.lean ====
section
/-! SUPPORT. Our own tests: the worked examples of the spec (each names its rule or chapter), ill-formed commands that
the checks of WellFormed refuse, and, for every statement with hypotheses, a concrete state and operands that meet
them, clause by clause. -/

namespace Sys2Proof.Machine.Tests

open Sys2Proof Sys2Proof.Machine

-- One declaration at a time: with asynchronous elaboration every test would take a thread of its own.
set_option Elab.async false

/-! ## States for the tests -/

/-- The hub with its store Ready and nothing else changed from reset. -/
def ready : State := { State.reset with store := { Store.powerOn with state := .ready } }

/-- The same with the store in a state. -/
def stored (st : StoreState) : State := { State.reset with store := { Store.powerOn with state := st } }

/-- A listed table with three items of range 0 to 40, and the meters 7, 8, 9, 15 and 16. -/
def table (t : TableState) : Slot :=
  { Slot.unlisted with
    table := t, model := 500, active := some [10, 20, 30], draft := Draft.cleanOver (some [10, 20, 30])
    identity := some { model := 500, revision := 1, meters := [7, 8, 9, 15, 16]
                       ranges := [(0, 40), (0, 40), (0, 40)] } }

/-- The hub with slot 1 given. -/
def one (x : Slot) : State := ready.setSlot 0 x

/-- An exchange with slot 1 in a phase. -/
def exchange (f : HubFrame) (a : Asker) (ph : Phase) : Exchange :=
  { slot := 0, address := 1, frame := f, asker := a, phase := ph, received := [] }

/-- The hub with slot 1 given and segment A Running with an exchange in flight. -/
def line (x : Slot) (e : Exchange) : State :=
  (one x).setSeg .a { ready.segA with state := .running, exchange := some e }

/-- A routine Meter Poll to slot 1 in a phase. -/
def polled (x : Slot) (ph : Phase) : State := line x (exchange .meterPoll .meterFolding ph)

/-- Segment A in a state, with nothing on it. -/
def segment (st : SegState) : State := ready.setSeg .a { ready.segA with state := st }

/-- A fault record of the table that is open or gone. -/
def record (code : Byte) (st : FaultState) : FaultRecord :=
  { key := { cls := 1, code := code, subject := none }, origin := .table, state := st, acked := false
    firstSeen := { clock := 0, unset := true }, lastSeen := { clock := 0, unset := true }, occurrences := 1 }

/-- A roster of records, in this order of both. -/
def roster (l : List FaultRecord) : FaultRoster :=
  { records := l, recency := l.map FaultRecord.key, overflowed := false }

/-- An entry of the delivery queue for slot 1. -/
def entry (attempts : Nat) (withdrawal : Bool) : DeliveryEntry :=
  { slot := 0, priority := 2, origin := .office, attempts := attempts, withdrawal := withdrawal
    withdrawPort := if withdrawal then some .office else none }

/-- Slot 1 with its draft Delivering, the first item changed from 10 to 11. -/
def delivering : Slot :=
  { table .active with
    game := some .attract
    draft := { values := [11, 20, 30], touched := [true, false, false], state := .delivering, baseMoved := false } }

/-- A delivery to slot 1 in flight, its frame in the answer window. -/
def delivery (f : HubFrame) (ph : DeliveryPhase) (e : DeliveryEntry) : State :=
  let s := line delivering (exchange f .delivery .window)
  { s.setSeg .a { s.segA with
      delivery := some { slot := 0, changes := [(1, 11)], acked := 0, phase := ph, question := none } } with
    queue := [e] }

/-- A write in flight. -/
def write (attempt : Nat) : WriteInFlight :=
  { page := 5, generation := 1, snapshot := List.replicate 250 0, tags := [], attempt := attempt }

/-- The hub with a write in flight, entries waiting and the store in a state. -/
def writing (st : StoreState) (attempt : Nat) (l : List WriteEntry) : State :=
  { ready with store := { ready.store with state := st, inFlight := some (write attempt), waiting := l } }

/-! ## The tables of chapter 1 -/

/-- R2: the check character of the Meter Poll is 253. -/
theorem test_meter_poll_check : HubFrame.meterPoll.dataBytes = [3, 0, 0, 253] := by decide +kernel

/-- R12, R13: after the idle wait a Starting segment is Running. -/
theorem test_start_idle_runs :
    (nextOf (exec (.startIdleElapsed .a) (segment .starting))).map (fun t => t.segA.state) = some .running := by
  decide +kernel

/-- R4: the driver is enabled as the transmission begins, and released at the guard's end. -/
theorem test_transmit_and_guard :
    (nextOf (exec (.transmitFrame .a) (polled (table .active) .waiting))).map (fun t => t.segA.driverOn) = some true
      ∧ (nextOf (exec (.guardEnd .a) (polled (table .active) .sending))).map
          (fun t => t.segA.exchange.map Exchange.phase) = some (some .window) := by
  decide +kernel

/-- Chapter 1, the garble sequence (threshold 4): the counter at 4 and one more Garbled sets the Noisy mark; the
counter stays, and Segment/Noisy of segment A opens. -/
theorem test_garble_sequence_noisy :
    (nextOf (exec (.quietWaitEnd .a)
        (let s := polled (table .active) .garbled
         s.setSeg .a { s.segA with garble := 4, params := { s.segA.params with threshold := 4 } }))).map
      (fun t => (t.segA.garble, t.segA.noisy, t.hubFaults.records.map FaultRecord.state))
      = some (4, true, [.opened]) := by
  decide +kernel

/-- Chapter 1, the garble sequence: the counter falls from 3 to 2, half of 4, and the Noisy mark clears. -/
theorem test_garble_sequence_clears :
    (nextOf (exec (.answerComplete .a .attract .refusedInGame [])
        (let s := polled (table .active) .window
         s.setSeg .a { s.segA with garble := 3, noisy := true
                                   params := { s.segA.params with threshold := 4 } }))).map
      (fun t => (t.segA.garble, t.segA.noisy)) = some (2, false) := by
  decide +kernel

/-- R5: a missing echo of the first character is a collision. -/
theorem test_collision_counts :
    (nextOf (exec (.collision .a (.echo 0 none)) (polled (table .active) .sending))).map
      (fun t => (t.segA.collisions, t.segA.exchange.map Exchange.phase)) = some (1, some .garbled) := by
  decide +kernel

/-- R7: a character with a parity error outside an exchange raises the counter; R1: the parity is even. -/
theorem test_stray_character :
    (nextOf (exec (.strayCharacter .a { data := 1, address := false, parity := false, stop := true })
        (segment .running))).map (fun t => t.segA.garble) = some 1
      ∧ nextOf (exec (.strayCharacter .a (goodChar 1 false)) (segment .running)) = some (segment .running) := by
  decide +kernel

/-- R11: a line-fault input stops a Running segment, and its record, kind 2 of segment A, is subject 32. -/
theorem test_line_fault :
    (nextOf (exec (.lineFaultAsserted .a .shorted) (segment .running))).map
      (fun t => (t.segA.state, t.hubFaults.records.map fun r => r.key.subject)) = some (.faulted, [some 32]) := by
  decide +kernel

/-- R12: the driver limit. -/
theorem test_driver_stuck :
    (nextOf (exec (.driverStuck .a)
        (let s := polled (table .active) .sending
         s.setSeg .a { s.segA with driverOn := true }))).map
      (fun t => (t.segA.state, t.segA.driverOn)) = some (.faulted, false) := by
  decide +kernel

/-- R6: the address, kind, length, game-state, status and check of an answer, character by character. -/
theorem test_answer_characters :
    nextOf (exec (.answerComplete .a .service .refusedInService []) (polled (table .active) .window))
      = some (runAll ([1, 131, 0, 2, 2, 2, 118].map fun b => .answerCharacterTaken .a (goodChar b false))
          (polled (table .active) .window)) := by
  decide +kernel

/-- R6: the completion deadline finds the exchange Garbled. -/
theorem test_completion_deadline :
    (nextOf (exec (.completionDeadline .a) (polled (table .active) .answer))).map
      (fun t => t.segA.exchange.map Exchange.phase) = some (some .garbled) := by
  decide +kernel

/-! ## Chapter 3: tables switched off, a failing line -/

/-- Slot 9's fourth Silent: 62 becomes 66, and the table is in Caution with Link/Caution Open. -/
theorem test_silent_enters_caution :
    (nextOf (exec (.answerWindowExpiry .a)
        (polled { table .active with score := 62, silent := 3, game := some .attract } .window))).map
      (fun t => ((t.slot 0).table, (t.slot 0).score, (t.slot 0).faults.records.map FaultRecord.state))
      = some (.caution, 66, [.opened]) := by
  decide +kernel

/-- Slot 9's eighth Silent: 82, then 0, and Absent, with a Presence alert queued. -/
theorem test_eighth_silence_absent :
    (nextOf (exec (.answerWindowExpiry .a)
        (polled { table .caution with score := 78, silent := 7 } .window))).map
      (fun t => ((t.slot 0).table, (t.slot 0).score, (t.slot 0).silent, t.alerts.length))
      = some (.absent, 0, 0, 2) := by
  decide +kernel

/-- A failing line: 159 and one more Garbled isolates the table, its score frozen at 167. -/
theorem test_garbled_isolates :
    (nextOf (exec (.hardLimit .a) (polled { table .caution with score := 159 } .garbled))).map
      (fun t => ((t.slot 0).table, (t.slot 0).score)) = some (.isolated, 167) := by
  decide +kernel

/-! ## Chapters 4, 5 and 8: folding, closing, regulation -/

/-- R67, the worked report: meter 7 wraps from 65530 to 4, an amount of 10. -/
theorem test_fold_across_wrap : foldAmount false (some 65530) 4 = 10 := by decide +kernel

/-- R68, the worked report: an amount of 39900 on meter 0 is a discontinuity, and the baseline moves. -/
theorem test_fold_discontinuity :
    let b := { Book.empty with baselines := Book.empty.baselines.set 0 (some 100), discont := 2 }
    let acc := foldEntry [0] .routine false { book := b, amounts := Vector.replicate 24 0, gaps := [] } (0, 40000)
    acc.book.discont = 3 ∧ acc.gaps = [0] ∧ acc.book.baselines[0] = some 40000 ∧ acc.book.current[0].val = 0 := by
  decide +kernel

/-- Chapter 5: 209 paid plays and 32 awards are 15.3 %; R76: none paid is no data. -/
theorem test_replay_percentage :
    (replayPercent 32 209 false).val = 153 ∧ (replayPercent 3 0 false).noData = true := by decide +kernel

/-- Chapter 5: the takings of the worked close are 24200 cents. -/
theorem test_takings :
    rawTakings (fun k => [412, 99, 0, 0, 8].getD k.val 0) #v[25, 100, 0, 0] 500 = 24200 := by decide +kernel

/-- Chapter 8: 206 paid plays and 31 awards are 150, and the level 260 rises to 265; 92 lowers it to 255. -/
theorem test_regulation_levels :
    windowPercent 206 31 = 150
      ∧ nextLevel RegParams.default (150, 400) 150 260 = 265
      ∧ nextLevel RegParams.default (150, 400) 92 260 = 255
      ∧ nextLevel RegParams.default (150, 400) 135 260 = 260 := by
  decide +kernel

/-- R84, R88: the close of a table that is not Active is copied at once, and its period number rises. -/
theorem test_close_copies :
    (nextOf (exec (.closePeriod .office 1) (one (table .absent)))).map
      (fun t => ((t.slot 0).book.period, (t.slot 0).due.closing)) = some (1, false) := by
  decide +kernel

/-- R87: the closing timeout ends a close in Polling. -/
theorem test_closing_timeout :
    (nextOf (exec (.closingTimeout 0) (one { table .active with close := .polling (some .office) false 1 }))).map
      (fun t => (t.slot 0).book.period) = some 1 := by
  decide +kernel

/-- R81: the clock wraps. -/
theorem test_clock_wraps :
    (nextOf (exec .clockTick { ready with clock := 4294967295 })).map (fun t => t.clock) = some 0 := by
  decide +kernel

/-- R30, R37: the tick at which a probe timer runs out brings the probe of an idle Running segment. -/
theorem test_tick_sends_probe :
    (nextOf (exec .clockTick
        ((one { table .absent with due := { (table .absent).due with probe := 9 } }).setSeg .a
          { ready.segA with state := .running }))).map (fun t => t.segA.exchange.map Exchange.frame)
      = some (some .presenceProbe) := by
  decide +kernel

/-! ## Chapters 6 and 7: drafts and deliveries -/

/-- Chapter 7, the worked delivery: ten items change, and they make frames of eight and two. -/
theorem test_change_list :
    (changeList [3, 5, 1, 0, 7, 260, 9, 4, 6, 8, 2, 1] [4, 6, 2, 1, 8, 265, 10, 5, 6, 9, 3, 1]).map Prod.fst
      = [1, 2, 3, 4, 5, 6, 7, 8, 10, 11] := by
  decide +kernel

/-- Chapter 7: the weighted sum of the draft is 2033, asked with 13. -/
theorem test_check_word_of_draft :
    checkWord [4, 6, 2, 1, 8, 265, 10, 5, 6, 9, 3, 1] 13 = (2033 + 4099 * 13) % 65536 := by decide +kernel

/-- R106: Set Items clamps 50 to 40 and marks it. -/
theorem test_set_items_clamps :
    (nextOf (exec (.setItems .office 1 [(2, 50)])
        ((one (table .active)).setPort .office { ready.office with reservation := some 0 }))).map
      (fun t => ((t.slot 0).draft.values, t.office.transmitting.map fun a => a.body))
      = some ([10, 40, 30], some [1, 2, 0, 40, 1, 1, 0]) := by
  decide +kernel

/-- R124: the Check Word of the draft confirms the delivery. -/
theorem test_delivery_confirmed :
    (nextOf (exec (.answerComplete .a .attract .accepted (be2 (checkWord [11, 20, 30] 5)))
        (delivery (.checkQuery 5) .check (entry 1 false)))).map
      (fun t => ((t.slot 0).active, (t.slot 0).confirmed, t.queue)) = some (some [11, 20, 30], true, []) := by
  decide +kernel

/-- R133: Withdraw Delivery of a confirmed slot is Too late. -/
theorem test_withdraw_too_late :
    (nextOf (exec (.withdrawDelivery .office 1) (one { table .active with confirmed := true }))).map
      (fun t => t.office.transmitting.map fun a => a.status) = some (some .tooLate) := by
  decide +kernel

/-! ## Chapter 9: fault rosters and watch rules -/

/-- A full roster: an event entry takes the place of the Gone record oldest in recency. -/
theorem test_full_roster_evicts :
    let l := (List.range 12).map fun k => record (BitVec.ofNat 8 k) (if k = 3 ∨ k = 7 then .gone else .opened)
    let r := ((roster l).enter (keyDiscontinuity 0) .hub .event { clock := 9, unset := false }).1
    r.records.length = 12 ∧ r.find (record 3 .gone).key = none ∧ (r.find (record 7 .gone).key).isSome = true
      ∧ r.overflowed = false := by
  decide +kernel

/-- A Fault Report into slot 6: rules 2 and 4 match the coil's entry, which carries the first, and only rule 4 the
lamp's. -/
theorem test_watch_rules_hit :
    let coil : WatchRule := { slotValue := 0, slotMask := 0, cls := some 1, codeValue := 0, codeMask := 0
                              subject := none }
    let six : WatchRule := { slotValue := 6, slotMask := 31, cls := none, codeValue := 1, codeMask := 255
                             subject := none }
    let w : WatchTable := { mode := .rules, presence := true
                            rules := ((Vector.replicate 8 none).set 1 (some coil)).set 3 (some six) }
    w.hit 6 { cls := 1, code := 1, subject := some 3 } = some 2
      ∧ w.hit 6 { cls := 2, code := 1, subject := some 12 } = some 4
      ∧ w.hit 5 { cls := 2, code := 1, subject := some 12 } = none := by
  decide +kernel

/-- R165: Take Alerts empties the queue and the attention lines fall. -/
theorem test_take_alerts :
    (nextOf (exec (.takeAlerts .office 8) ready)).map (fun t => (t.alerts, t.attention)) = some ([], false) := by
  decide +kernel

/-! ## Chapter 10: the store -/

/-- R168: an unwritten memory (255 in every byte) fails its check; all zeros pass for page 0 alone. -/
theorem test_page_checks :
    passesCheck 0 (List.replicate 256 255) = false ∧ passesCheck 0 (List.replicate 256 0) = true
      ∧ passesCheck 1 (List.replicate 256 0) = false := by
  decide +kernel

/-- R171: page 52 differs on both attempts: it is bad and the store Degraded. -/
theorem test_page_failure_degrades :
    (nextOf (exec .storeTransferTimeout (writing .ready 2 []))).map
      (fun t => (t.store.state, (t.store.page 5).bad, t.attention)) = some (.degraded, true, true) := by
  decide +kernel

/-- R176: the third failing read of page 0 leaves it and goes on with page 1. -/
theorem test_third_read_fails :
    (nextOf (exec .pageReadTimeout { State.reset with
        store := { Store.powerOn with load := { Store.powerOn.load with tries := 2 } } })).map
      (fun t => (t.store.load.page, t.store.load.failed)) = some (1, [0]) := by
  decide +kernel

/-- R176: a page of zeros passes for page 0, without the format mark. -/
theorem test_page_zero_no_mark :
    (nextOf (exec (.storePageRead (List.replicate 256 0)) State.reset)).map (fun t => t.store.load.zero)
      = some .noMark := by
  decide +kernel

/-- R176: page 0 of zeros records node number 0, which is not the sampled 17. -/
theorem test_page_zero_names_another_node :
    (nextOf (exec (.storePageRead (List.replicate 256 0)) { State.reset with node := 17 })).map
      (fun t => t.store.nodeMismatch) = some true := by
  decide +kernel

/-- R170: the write that verifies leaves its place to the next entry. -/
theorem test_write_verifies :
    (nextOf (exec (.storeWriteVerify (write 1).bytes)
        (writing .ready 1 [{ page := 9, snapshot := List.replicate 250 1, tags := [] }]))).map
      (fun t => (t.store.waiting.length, t.store.inFlight.map WriteInFlight.page)) = some (0, some 9) := by
  decide +kernel

/-! ## Chapter 11: the ports -/

/-- R181: 5A 04 01 FF FB is Read Status. -/
theorem test_read_status_bytes :
    nextOf (exec (.readStatus .office) ready)
      = some (runAll ([0x5A, 0x04, 0x01, 0xFF, 0xFB].map fun b => .portByteReceived .office b false) ready) := by
  decide +kernel

/-- R182: during the load every request is answered Busy. -/
theorem test_busy_while_loading :
    (nextOf (exec (.requestFrame .office [0x04, 0x01, 0xFF, 0xFB]) State.reset)).map
      (fun t => t.office.transmitting.map fun a => a.status) = some (some .busy) := by
  decide +kernel

/-- R182: a frame that fails its check is answered Frame Rejected. -/
theorem test_frame_rejected :
    (nextOf (exec (.requestFrame .office [0x04, 0x01, 0xFF, 0xFA]) ready)).map
      (fun t => t.office.transmitting.map fun a => a.status) = some (some .frameRejected) := by
  decide +kernel

/-- R185: the Collector is unplugged. -/
theorem test_collector_unplugged :
    (nextOf (exec .collectorUnplugged
        { ready with collector := { ready.collector with plugged := true, reservation := some 3 } })).map
      (fun t => (t.collector.plugged, t.collector.reservation)) = some (false, none) := by
  decide +kernel

/-- R40: Write Roster Entry lists a slot; R42: Remove Table unlists it. -/
theorem test_list_and_remove :
    (nextOf (exec (.writeRosterEntry .office 7
        { seg := .a, addr := 8, regItem := 14, coins := #v[25, 100, 0, 0], note := 500 }) ready)).map
        (fun t => ((t.slot 6).table, (t.slot 6).addr, (t.slot 6).regItem)) = some (.absent, 8, 14)
      ∧ (nextOf (exec (.removeTable .office 1) (one (table .absent)))).map (fun t => (t.slot 0).table)
          = some .unlisted := by
  decide +kernel

/-- R182: a row of the decoder: the table gives no bits, so no word spells a command. -/
theorem test_no_word_spells_a_command : decodeTableWord 16 0 = none := by decide +kernel

/-! ## Ill-formed commands, one for each check -/

theorem test_wf_page_size : (Instr.storePageRead [1, 2]).wf = false := by decide +kernel
theorem test_wf_readback_size : (Instr.storeWriteVerify []).wf = false := by decide +kernel
theorem test_wf_echo_position : (Instr.collision .a (.echo 30 none)).wf = false := by decide +kernel
theorem test_wf_answer_rest :
    (Instr.answerComplete .a .attract .accepted (List.replicate 319 0)).wf = false := by decide +kernel
theorem test_wf_frame_length : (Instr.requestFrame .office [5, 1, 0, 0]).wf = false := by decide +kernel
theorem test_wf_pair_count : (Instr.setItems .office 1 (List.replicate 52 (1, 0))).wf = false := by decide +kernel
theorem test_wf_rule_count :
    (Instr.setWatchRules .office { mode := none, presence := none, rules := List.replicate 9 (1, none) }).wf = false :=
  by decide +kernel

/-! ## Witnesses: concrete states and operands that meet the hypotheses of the statements -/

/-- StepRunsFrontCommand: a queue with a command in front, and an empty queue. -/
theorem witness_StepRunsFrontCommand :
    { ready with pending := [.clockTick] }.pending = .clockTick :: [] ∧ ready.pending = [] := by decide +kernel

/-- CoherenceKept, StoreSoundKept, CapacitiesAndRangesKept, PortsSoundKept: a delivery in flight and a write in flight,
with a command that gives a next state. -/
theorem witness_invariants :
    let s := { delivery (.itemFrame [(1, 11)]) .items (entry 1 false) with
      store := (writing .ready 1 []).store, pending := [.answerWindowExpiry .a] }
    s.coherent = true ∧ s.store.sound = true ∧ s.capacitiesKept = true ∧ s.portsSound = true
      ∧ (nextOf (step s)).isSome = true := by
  decide +kernel

/-- CapacitiesAndRangesKept: the line parameters of both segments at the ends of their ranges. -/
theorem witness_line_parameters_in_range :
    LineParams.inRange { speed := 3, guard := 15, window := 50, threshold := 254, faultInt := 60, meterInt := 600
                         checkInt := 3600, probeInt := 60 }
      ∧ LineParams.inRange { speed := 0, guard := 0, window := 2, threshold := 1, faultInt := 1, meterInt := 5
                             checkInt := 60, probeInt := 2 } := by
  unfold LineParams.inRange; decide +kernel

/-- RequestBodiesRoundTrip: as many pairs and as many rules as the checks admit. -/
theorem witness_RequestBodiesRoundTrip :
    (Request.setItems 1 (List.replicate 51 (1, 65535))).wf = true
      ∧ (Request.setWatchRules { mode := none, presence := none, rules := List.replicate 8 (1, none) }).wf = true := by
  decide +kernel

/-- FrameServesRequest: on the Office Port. -/
theorem witness_FrameServesRequest :
    (Request.setItems 1 (List.replicate 51 (1, 65535))).wf = true ∧ (ready.port .office).plugged = true := by
  decide +kernel

/-- BytesMakeFrame: the shortest and the longest frame. -/
theorem witness_BytesMakeFrame :
    (ready.port .office).plugged = true ∧ (ready.port .office).receiver = .hunting ∧ ready.store.quiet = true
      ∧ frameWhole [4, 1, 255, 251] = true ∧ frameWhole (160 :: List.replicate 159 0) = true := by
  decide +kernel

/-- CharactersMakeAnswer: the first and the last line address, the longest body. -/
theorem witness_CharactersMakeAnswer :
    let s (a : Nat) := line (table .active) { exchange .meterPoll .meterFolding .window with address := a }
    ∀ a ∈ [1, 8], ((s a).seg .a).exchange = some { exchange .meterPoll .meterFolding .window with address := a }
      ∧ (List.replicate 318 (0 : Byte)).length ≤ 318 ∧ (s a).store.quiet = true := by
  decide +kernel

/-- RefusedRequestsChangeNothing: Read Audits of slot 0 is refused. -/
theorem witness_RefusedRequestsChangeNothing :
    ready.takes .office = true ∧ ready.store.quiet = true ∧ (ready.port .office).transmitting = none
      ∧ (nextOf (exec (requestCommand .office (.readAudits 0 .current)) ready)).map
          (fun t => (t.port .office).transmitting.map fun a => a.status.refusal) = some (some true) := by
  decide +kernel

/-- BusyPortRefuses: while Loading, and with a request in progress and an answer in transmission. -/
theorem witness_BusyPortRefuses :
    (State.reset.port .office).plugged = true ∧ State.reset.store.quiet = true
      ∧ State.reset.store.state = .loading ∧ (State.reset.port .office).transmitting = none
      ∧ (let s := answered .office 1 .done [] ready
         (s.port .office).plugged = true ∧ s.store.quiet = true ∧ (s.port .office).request.isSome = true
           ∧ (s.port .office).transmitting = some { kind := 1, status := .done, body := [], own := true }) := by
  decide +kernel

/-- SlotFieldIsChecked: slots 0, 17 and 255, and the first and last slot Unlisted. -/
theorem witness_SlotFieldIsChecked :
    ready.takes .office = true ∧ ready.store.quiet = true
      ∧ ((0 : Byte) = 0 ∧ 16 < (17 : Byte).toNat ∧ 16 < (255 : Byte).toNat ∧ (17 : Byte) ≠ 0)
      ∧ (1 : Byte).toNat = (0 : SlotIx).val + 1 ∧ (ready.slot 0).table = .unlisted
      ∧ (16 : Byte).toNat = (15 : SlotIx).val + 1 ∧ (ready.slot 15).table = .unlisted := by
  decide +kernel

/-- TransmissionPhases: an exchange in each phase; the first and the last character of a frame of five. -/
theorem witness_TransmissionPhases :
    (∀ ph ∈ [Phase.waiting, .sending, .garbled, .answer],
      (polled (table .active) ph).store.quiet = true
        ∧ ((polled (table .active) ph).seg .a).exchange = some (exchange .meterPoll .meterFolding ph)
        ∧ ((polled (table .active) ph).seg .a).state = .running)
      ∧ ((frameChars 1 .meterPoll)[0]?).isSome = true ∧ ((frameChars 1 .meterPoll)[4]?).isSome = true
      ∧ (let c := goodChar 7 false
         let sent := goodChar 3 false
         c.data ≠ sent.data ∧ { sent with address := true }.address ≠ sent.address
           ∧ { sent with stop := false }.stop = false
           ∧ { sent with parity := true }.parity ≠ parityOf 3 false) := by
  decide +kernel

/-- AnswerCharacters: every place of an answer; a good character, and one of each error. -/
theorem witness_AnswerCharacters :
    (∀ l ∈ [[], [1], [1, 131], [1, 131, 0], [1, 131, 0, 2], [1, 131, 0, 2, 0], [1, 131, 0, 3, 0, 0],
        [1, 131, 0, 2, 0, 0], [(1 : Byte), 131, 1, 64, 0, 0]],
      let x : Exchange := { exchange .meterPoll .meterFolding .answer with received := l }
      (line (table .active) x).store.quiet = true ∧ ((line (table .active) x).seg .a).exchange = some x)
      ∧ (polled (table .active) .window).store.quiet = true
      ∧ (let c := goodChar 1 false
         c.stop = true ∧ c.parity = parityOf c.data c.address ∧ c.address = false)
      ∧ { goodChar 1 false with stop := false }.stop = false ∧ (goodChar 1 true).address = true
      ∧ { goodChar 1 false with parity := false }.parity ≠ parityOf 1 false
      ∧ 2 ≤ (0 : Byte).toNat * 256 + (2 : Byte).toNat ∧ (1 : Byte).toNat * 256 + (64 : Byte).toNat ≤ 320
      ∧ (6 ≤ [(1 : Byte), 131, 0, 3, 0, 0].length
          ∧ [(1 : Byte), 131, 0, 3, 0, 0].length < 4 + halfAt [1, 131, 0, 3, 0, 0] 2)
      ∧ (4 + halfAt [1, 131, 0, 2, 0, 0] 2 ≤ [(1 : Byte), 131, 0, 2, 0, 0].length
          ∧ sumBytes ([1, 131, 0, 2, 0, 0] ++ [(goodChar 1 false).data]) % 256 ≠ 0) := by
  decide +kernel

/-- FailedPollMovesScore: each way to end, at the last score before Caution. -/
theorem witness_FailedPollMovesScore :
    let s (score silent : Nat) (ph : Phase) := polled { table .active with score := score, silent := silent } ph
    let e (ph : Phase) := exchange .meterPoll .meterFolding ph
    (∀ x ∈ [(59, 6, Phase.window), (55, 7, .garbled), (63, 7, .window)],
      (s x.1 x.2.1 x.2.2).store.quiet = true ∧ ((s x.1 x.2.1 x.2.2).seg .a).exchange = some (e x.2.2)
        ∧ ((s x.1 x.2.1 x.2.2).seg .a).haltPending = false ∧ ((s x.1 x.2.1 x.2.2).slot 0).table = .active
        ∧ ((s x.1 x.2.1 x.2.2).seg .a).garble < ((s x.1 x.2.1 x.2.2).seg .a).params.threshold
        ∧ ((s x.1 x.2.1 x.2.2).seg .a).driverOn = false ∧ ((s x.1 x.2.1 x.2.2).seg .a).noisy = false)
      ∧ (59 + 4 < 64 ∧ 6 + 1 < 8) ∧ 55 + 8 < 64 ∧ 63 < 64 ∧ (List.replicate 318 (0 : Byte)).length ≤ 318
      ∧ AnswerStatus.refusedInGame ≠ .accepted := by
  decide +kernel

/-- LinkStateRule: each of its four ends, at a boundary. -/
theorem witness_LinkStateRule :
    let x (t : TableState) (score silent : Nat) : Slot := { table t with score := score, silent := silent }
    ((one (x .active 0 7)).slot 0).table = .active ∧ 8 ≤ ((one (x .active 0 7)).slot 0).silent + 1
      ∧ ((one (x .caution 152 7)).slot 0).table = .caution
      ∧ (0 < 8 ∧ 160 ≤ min 255 (((one (x .caution 152 7)).slot 0).score + 8))
      ∧ 64 ≤ min 255 (((one (x .active 60 6)).slot 0).score + 4)
      ∧ ((one (x .active 60 6)).slot 0).silent + 1 < 8
      ∧ min 255 (((one (x .caution 155 0)).slot 0).score + 4) < 160
      ∧ ((one (x .caution 64 3)).slot 0).score - 1 < 64 := by
  decide +kernel

/-- StrayCharacters: the counter below the threshold, at it, and at it with the Noisy mark; every state. -/
theorem witness_StrayCharacters :
    let at' (st : SegState) (k : Nat) (noisy : Bool) : State :=
      ready.setSeg .a { ready.segA with state := st, garble := k, noisy := noisy }
    (∀ st ∈ [SegState.starting, .running, .halted, .faulted], (at' st 30 false).store.quiet = true
        ∧ ((at' st 30 false).seg .a).state = st ∧ ((at' st 30 false).seg .a).exchange = none
        ∧ ((at' st 30 false).seg .a).garble < ((at' st 30 false).seg .a).params.threshold
        ∧ ((at' st 31 false).seg .a).garble = ((at' st 31 false).seg .a).params.threshold
        ∧ ((at' st 31 false).seg .a).noisy = false ∧ ((at' st 31 true).seg .a).noisy = true)
      ∧ { goodChar 1 false with stop := false }.stop = false
      ∧ ¬ ((goodChar 1 false).stop = false ∨ (goodChar 1 false).parity ≠ parityOf 1 false) := by
  decide +kernel

/-- LineFaultStopsSegment: a segment in each state, its inputs clear; an input set; a driver that is stuck. -/
theorem witness_LineFaultStopsSegment :
    (∀ st ∈ [SegState.starting, .running, .halted, .faulted], (segment st).store.quiet = true
        ∧ ((segment st).seg .a).inputs.level .grounded = false ∧ ((segment st).seg .a).state = st
        ∧ ((segment st).seg .a).exchange = none ∧ ((segment st).seg .a).delivery = none
        ∧ ((segment st).seg .a).haltPending = false)
      ∧ ((polled (table .active) .window).setSeg .a
          { (polled (table .active) .window).segA with haltPending := true }).segA.haltPending = true
      ∧ (let s := ready.setSeg .a { ready.segA with inputs := { bias := true, short := false, ground := false } }
         s.store.quiet = true ∧ (s.seg .a).inputs.level .biasLost = true)
      ∧ (let t := polled (table .active) .sending
         let s := t.setSeg .a { t.segA with driverOn := true }
         s.store.quiet = true ∧ (s.seg .a).driverOn = true ∧ (s.seg .a).delivery = none
           ∧ (s.seg .a).exchange = some (exchange .meterPoll .meterFolding .sending)
           ∧ (s.seg .a).haltPending = false) := by
  decide +kernel

/-- SchedulerWakes: a Starting segment and another; a listed and an Unlisted slot; the only table of its segment,
Absent. -/
theorem witness_SchedulerWakes :
    (segment .starting).store.quiet = true ∧ ((segment .starting).seg .a).state = .starting
      ∧ ((segment .running).seg .a).state ≠ .starting
      ∧ ((one (table .isolated)).slot 0).table ≠ .unlisted ∧ (ready.slot 15).table = .unlisted
      ∧ (let s := (one (table .absent)).setSeg .a { ready.segA with state := .running }
         s.store.quiet = true ∧ (s.slot 0).table = .absent ∧ (s.slot 0).due.closing = false ∧ (s.slot 0).seg = .a
           ∧ (s.seg .a).state = .running ∧ (s.seg .a).exchange = none ∧ (s.seg .a).haltPending = false
           ∧ (s.seg .a).delivery = none
           ∧ ∀ j : SlotIx, j ≠ 0 → (s.slot j).seg = .a → (s.slot j).table = .unlisted) := by
  decide +kernel

/-- HaltAndResume: a Halted segment, a Starting one, a Running one with a Meter Poll in the window, a Faulted one. -/
theorem witness_HaltAndResume :
    (∀ st ∈ [SegState.halted, .starting, .running, .faulted], (segment st).takes .office = true
        ∧ (segment st).store.quiet = true ∧ ((segment st).seg .a).state = st
        ∧ ((segment st).seg .a).exchange = none ∧ ((segment st).seg .a).delivery = none
        ∧ ((segment st).seg .a).haltWaiters = [])
      ∧ (let s := polled { table .active with score := 59, silent := 6 } .window
         s.takes .office = true ∧ s.store.quiet = true ∧ (s.seg .a).state = .running
           ∧ (s.seg .a).exchange = some (exchange .meterPoll .meterFolding .window)
           ∧ (s.slot 0).table = .active ∧ (s.slot 0).score + 4 < 64 ∧ (s.slot 0).silent + 1 < 8
           ∧ (s.seg .a).delivery = none ∧ (s.seg .a).haltWaiters = [])
      ∧ ready.store.writing = true := by
  decide +kernel

/-- SetLineParameters: code 4 against code 3, a Halted segment and a Running one. -/
theorem witness_SetLineParameters :
    let a (c : BitVec 3) : LineParamsArg :=
      { speed := some c, guard := some 16, window := some 51, threshold := some 255, faultInt := some 61
        meterInt := some 601, checkInt := some 3601, probeInt := some 61 }
    (∀ st ∈ [SegState.halted, .running], (segment st).takes .office = true ∧ (segment st).store.quiet = true
        ∧ ((segment st).seg .a).state = st)
      ∧ (∃ c, (a 4).speed = some c ∧ 4 ≤ c.toNat) ∧ (∀ c, (a 3).speed = some c → c.toNat < 4) := by
  refine ⟨by decide +kernel, ⟨4, rfl, by decide⟩, ?_⟩
  intro c h
  cases h
  decide

/-- AnswerTakesGameState: a Service table that answers Attract. -/
theorem witness_AnswerTakesGameState :
    let s := polled { table .active with game := some .service } .window
    (s.seg .a).exchange = some (exchange .meterPoll .meterFolding .window)
      ∧ (List.replicate 318 (0 : Byte)).length ≤ 318 ∧ (s.slot 0).game = some .service
      ∧ ∀ q, (exchange .meterPoll .meterFolding .window).frame ≠ .checkQuery q :=
  ⟨by decide +kernel, by decide +kernel, by decide +kernel, fun _ h => by cases h⟩

/-- JoinSteps: an Absent table answers its probe; a Joining table gives its catch-up report. -/
theorem witness_JoinSteps :
    (let s := line (table .absent) (exchange .presenceProbe .roster .window)
     s.store.quiet = true ∧ (s.seg .a).exchange = some (exchange .presenceProbe .roster .window)
       ∧ (s.seg .a).haltPending = false ∧ (s.seg .a).noisy = false ∧ (s.slot 0).table = .absent)
      ∧ (let s := line { table .joining with join := some .catchUp } (exchange .meterPoll .roster .window)
         (s.seg .a).exchange = some (exchange .meterPoll .roster .window) ∧ (s.slot 0).table = .joining
           ∧ parseMeterReport [3, 1, 7, 0, 100] = some { epoch := 3, entries := [(7, 100)] }
           ∧ s.watch.presence = true) := by
  decide +kernel

/-- FaultReportEnters: a change Raised and one Gone, of a table class and of class 128; a roster with room for one. -/
theorem witness_FaultReportEnters :
    let full := roster ((List.range 11).map fun k => record (BitVec.ofNat 8 k) .opened)
    let s := line { table .active with score := 63, faults := full } (exchange (.faultPoll true) .faultAndAlert .window)
    (s.seg .a).exchange = some (exchange (.faultPoll true) .faultAndAlert .window)
      ∧ (s.slot 0).table = .active ∧ (s.slot 0).score < 64 ∧ (s.slot 0).faults.records.length < 12
      ∧ ((s.slot 0).faults.find (record 3 .opened).key).isSome = true
      ∧ parseFaultReport [1, 1, 127, 3, 1, 9, 1]
          = some { more := true, changes := [{ key := { cls := 127, code := 3, subject := some 9 }, raised := true }] }
      ∧ parseFaultReport [0, 1, 128, 3, 0, 0, 0]
          = some
              { more := false, changes := [{ key := { cls := 128, code := 3, subject := none }, raised := false }] } := by
  decide +kernel

/-- MatchingCheckWordConfirms and MismatchEndsAttempt: a delivery at its Check Query, at attempts 2 and 3, and a Check
Word that differs. -/
theorem witness_CheckWordOfDelivery :
    ∀ n ∈ [2, 3],
      let t := delivery (.checkQuery 5) .check (entry n false)
      let s := { t with watch := { t.watch with mode := .closed } }
      s.store.quiet = true ∧ (s.seg .a).exchange = some (exchange (.checkQuery 5) .delivery .window)
        ∧ (s.seg .a).haltPending = false ∧ (s.seg .a).noisy = false
        ∧ (s.seg .a).delivery
            = some { slot := 0, changes := [(1, 11)], acked := 0, phase := .check, question := none }
        ∧ s.entry 0 = some (entry n false) ∧ (s.slot 0).table = .active ∧ (s.slot 0).score < 64
        ∧ (s.slot 0).outcome = none ∧ (0 : Byte).toNat * 256 + (0 : Byte).toNat ≠ checkWord (s.slot 0).draft.values 5
        ∧ s.watch.mode = .closed ∧ s.alerts.length < 32 ∧ (s.slot 0).faults.records.length < 12
        ∧ (s.slot 0).faults.find { cls := 130, code := 1, subject := none } = none := by
  decide +kernel

/-- FailedDeliveryFrameSuspends: an Item Frame in the window, with and without a withdrawal. -/
theorem witness_FailedDeliveryFrameSuspends :
    ∀ w ∈ [true, false],
      let t := delivery (.itemFrame [(1, 11)]) .items (entry 1 w)
      let s := t.setPort .office { t.office with request := some 18 }
      s.store.quiet = true ∧ (s.seg .a).exchange = some (exchange (.itemFrame [(1, 11)]) .delivery .window)
        ∧ (s.seg .a).haltPending = false
        ∧ (s.seg .a).delivery
            = some { slot := 0, changes := [(1, 11)], acked := 0, phase := .items, question := none }
        ∧ s.entry 0 = some (entry 1 w) ∧ (s.slot 0).table = .active ∧ (s.slot 0).score + 4 < 64
        ∧ (s.slot 0).silent + 1 < 8 ∧ (s.port .office).request = some 18 := by
  decide +kernel

/-- WriteRosterEntry: the first and the last line address, a free and a taken place, an Unlisted and a listed slot,
with the item and the place changed and kept. -/
theorem witness_WriteRosterEntry :
    let e (a item : Byte) : RosterArg := { seg := .a, addr := a, regItem := item, coins := #v[0, 0, 0, 0], note := 0 }
    let s := one { table .absent with regItem := 1 }
    s.takes .office = true ∧ s.store.quiet = true ∧ (2 : Byte).toNat = (1 : SlotIx).val + 1
      ∧ (s.slot 1).table = .unlisted ∧ (s.slot 0).table ≠ .unlisted ∧ (e 8 64).regItem.toNat ≤ 64
      ∧ (1 ≤ (e 1 0).addr.toNat ∧ (e 8 0).addr.toNat ≤ 8)
      ∧ (∀ j : SlotIx, j ≠ 1 → (s.slot j).table ≠ .unlisted → (s.slot j).seg = .a → (s.slot j).addr ≠ (8 : Byte).toNat)
      ∧ ¬ (∀ j : SlotIx, j ≠ 1 → (s.slot j).table ≠ .unlisted → (s.slot j).seg = .a →
          (s.slot j).addr ≠ (1 : Byte).toNat)
      ∧ (s.seg .a).state = .halted
      ∧ (((one (table .absent)).setSeg .a { ready.segA with state := .starting }).seg .a).state ≠ .halted
      ∧ (∀ j : SlotIx, j ≠ 0 → (s.slot j).table ≠ .unlisted → (s.slot j).seg = .a → (s.slot j).addr ≠ (8 : Byte).toNat)
      ∧ (3 : Nat) ≤ [(0, 40), (0, 40), (0, 40)].length ∧ (s.slot 0).outcome = none ∧ (s.slot 0).readback = none
      ∧ (s.slot 0).table ≠ .caution ∧ (s.seg .a).delivery = none ∧ (s.slot 0).close = .idle := by
  decide +kernel

/-- RemoveTableEmptiesSlot: a listed slot of a Halted segment and of a Running one; its close is Idle. -/
theorem witness_RemoveTableEmptiesSlot :
    (let s := one (table .absent)
     s.takes .office = true ∧ s.store.quiet = true ∧ (1 : Byte).toNat = (0 : SlotIx).val + 1
       ∧ (s.slot 0).table ≠ .unlisted ∧ (s.seg (s.slot 0).seg).state = .halted ∧ (s.slot 0).close = .idle)
      ∧ ((polled (table .active) .window).seg ((polled (table .active) .window).slot 0).seg).state ≠ .halted := by
  decide +kernel

/-- RemoveTableEmptiesSlot, WriteRosterEntry: an Idle close is not in Polling. -/
theorem witness_idle_is_not_polling : ∀ q o n, ((one (table .absent)).slot 0).close ≠ .polling q o n := by
  have h : ((one (table .absent)).slot 0).close = .idle := by decide +kernel
  intro q o n
  rw [h]
  exact fun e => nomatch e

/-- SetRegulation: a listed slot with its parameters in range, and a regulated range. -/
theorem witness_SetRegulation :
    let s := one { table .absent with regItem := 3, outcome := some 30 }
    s.takes .office = true ∧ s.store.quiet = true ∧ (1 : Byte).toNat = (0 : SlotIx).val + 1
      ∧ (s.slot 0).table ≠ .unlisted ∧ (s.slot 0).regulatedRange = some (0, 40) := by
  decide +kernel

/-- SetRegulation, SlotPagesRoundTrip: the default regulation parameters are in range. -/
theorem witness_regulation_in_range : RegParams.default.inRange := by
  unfold RegParams.inRange Limit.inRange RegParams.default
  decide

/-- ClosesOfOneSlot: a table Active on a Running segment, Absent, with a close open; a store that writes and one that
does not; a close in Polling. -/
theorem witness_ClosesOfOneSlot :
    (let s := (one (table .active)).setSeg .a { ready.segA with state := .running }
     s.takes .office = true ∧ s.store.quiet = true ∧ (s.slot 0).table ≠ .unlisted ∧ (s.slot 0).close = .idle
       ∧ (s.slot 0).table = .active ∧ (s.seg (s.slot 0).seg).state = .running)
      ∧ (∀ st ∈ [StoreState.ready, .stopped],
          let s := (stored st).setSlot 0 (table .absent)
          s.takes .office = true ∧ s.store.quiet = true ∧ (s.slot 0).close = .idle
            ∧ ¬ ((s.slot 0).table = .active ∨ (s.slot 0).table = .caution)
            ∧ s.store.writing = (st == .ready))
      ∧ (let s := one { table .active with close := .polling (some .office) false 2 }
         s.takes .office = true ∧ (s.slot 0).close ≠ .idle
           ∧ (s.slot 0).close = .polling (some .office) false 2 ∧ s.store.writing = true) := by
  decide +kernel

/-- CloseAll: no slot listed; one listed, Idle. -/
theorem witness_CloseAll :
    ready.takes .office = true ∧ ready.store.quiet = true ∧ (∀ i : SlotIx, (ready.slot i).table = .unlisted)
      ∧ (one (table .absent)).takes .office = true ∧ (one (table .absent)).store.quiet = true
      ∧ (one (table .absent)).store.writing = true
      ∧ (∃ i : SlotIx,
          ((one (table .absent)).slot i).table ≠ .unlisted ∧ ((one (table .absent)).slot i).close = .idle) := by
  decide +kernel

/-- SetItemsWrites: an Active table with the reservation and without it, its regulated item the last of three. -/
theorem witness_SetItemsWrites :
    let s := (one { table .active with regItem := 3 }).setPort .office { ready.office with reservation := some 0 }
    s.takes .office = true ∧ s.store.quiet = true ∧ (1 : Byte).toNat = (0 : SlotIx).val + 1
      ∧ (s.slot 0).table ≠ .unlisted ∧ ((s.slot 0).identity.map fun r => r.ranges.length) = some 3
      ∧ (s.slot 0).draft.state = .clean ∧ (s.slot 0).active.isSome = true ∧ (s.port .office).reservation = some 0
      ∧ (2 : Byte).toNat ≠ (s.slot 0).regItem ∧ (3 : Byte).toNat = (s.slot 0).regItem ∧ (s.slot 0).outcome = none
      ∧ (ready.port .office).reservation ≠ some 0 := by
  decide +kernel

/-- SetItemsWrites: one pair and sixteen, for items 2 and 3; seventeen, and item 4 of 3. -/
theorem witness_SetItemsWrites_pairs :
    let fits (l : List (Byte × Half)) : Bool :=
      decide (1 ≤ l.length ∧ l.length ≤ 16) && l.all fun e => decide (1 ≤ e.1.toNat ∧ e.1.toNat ≤ 3)
    fits [(2, 300)] = true ∧ fits (List.replicate 16 (3, 0)) = true
      ∧ fits (List.replicate 17 (3, 0)) = false ∧ fits [(4, 0)] = false := by
  decide +kernel

/-- SubmitDraftQueues: an Edited draft that differs, one that is equal, one with its base moved; priority 7; with the
reservation and without. -/
theorem witness_SubmitDraftQueues :
    let x (v : Nat) (moved : Bool) : Slot := { table .active with
      draft := { values := [v, 20, 30], touched := [true, false, false], state := .edited, baseMoved := moved } }
    (∀ v ∈ [10, 11], ∀ m ∈ [true, false],
      let s := (one (x v m)).setPort .office { ready.office with reservation := some 0 }
      s.takes .office = true ∧ s.store.quiet = true ∧ (s.slot 0).table ≠ .unlisted ∧ (7 : Byte).toNat ≤ 7
        ∧ (s.slot 0).draft.state = .edited ∧ (s.slot 0).draft.baseMoved = m
        ∧ (s.port .office).reservation = some 0 ∧ (s.slot 0).outcome = none
        ∧ (((s.slot 0).active = some (s.slot 0).draft.values) ↔ v = 10))
      ∧ ((one (x 10 false)).port .office).reservation ≠ some 0 ∧ (one (x 10 false)).takes .office = true := by
  decide +kernel

/-- DiscardDraft: a draft in each state; an Edited one with a pending outcome for its last item. -/
theorem witness_DiscardDraft :
    (∀ ds ∈ [DraftState.clean, .edited, .queued, .delivering],
      let s := one { table .active with draft := { (table .active).draft with state := ds } }
      s.takes .office = true ∧ s.store.quiet = true ∧ (s.slot 0).table ≠ .unlisted ∧ (s.slot 0).draft.state = ds
        ∧ (s.slot 0).outcome = none)
      ∧ (let s := one { table .active with
           draft := { (table .active).draft with state := .edited }, regItem := 3, outcome := some 40 }
         s.takes .office = true ∧ s.store.quiet = true ∧ (s.slot 0).draft.state = .edited
           ∧ (s.slot 0).active = some [10, 20, 30] ∧ (s.slot 0).outcome = some 40 ∧ 1 ≤ (s.slot 0).regItem
           ∧ (s.slot 0).regItem ≤ [10, 20, 30].length ∧ [10, 20, 30][(s.slot 0).regItem - 1]? ≠ some 40) := by
  decide +kernel

/-- WithdrawDelivery: a draft in each state of the rule's table. -/
theorem witness_WithdrawDelivery :
    (let s := { one { table .active with draft := { (table .active).draft with state := .queued } } with
        queue := [entry 1 false] }
     s.takes .office = true ∧ s.store.quiet = true ∧ (s.slot 0).draft.state = .queued
       ∧ s.entry 0 = some (entry 1 false))
      ∧ (∀ w ∈ [true, false],
          let s := delivery (.itemFrame [(1, 11)]) .items (entry 1 w)
          s.takes .office = true ∧ s.store.quiet = true ∧ (s.slot 0).draft.state = .delivering
            ∧ s.entry 0 = some (entry 1 w))
      ∧ (∀ c ∈ [true, false],
          let s := one { table .active with confirmed := c }
          s.takes .office = true ∧ (s.slot 0).draft.state = .clean ∧ (s.slot 0).confirmed = c)
      ∧ ((one { table .active with draft := { (table .active).draft with state := .edited } }).slot 0).draft.state
          = .edited := by
  decide +kernel

/-- ReadsAnswerOnly, ClockRules, SetWatchRules, TakeAlerts, AcknowledgeFaults: a free port of a Ready hub with a listed
slot; the numbers at the ends of their ranges. -/
theorem witness_plain_requests :
    let s := one { table .active with faults := roster [record 1 .gone, record 2 .opened] }
    s.takes .office = true ∧ s.store.quiet = true ∧ (1 : Byte).toNat = (0 : SlotIx).val + 1
      ∧ (s.slot 0).table ≠ .unlisted
      ∧ (∀ x ∈ [((1 : Byte), (none : Option WatchRule)), (8, none)], 1 ≤ x.1.toNat ∧ x.1.toNat ≤ 8)
      ∧ ([((1 : Byte), (none : Option WatchRule)), (8, none)].map Prod.fst).Nodup
      ∧ ¬ ((1 : Byte) :: [1]).Nodup ∧ ¬ (∀ x ∈ [((9 : Byte), (none : Option WatchRule))], x.1.toNat ≤ 8)
      ∧ (1 ≤ (1 : Byte).toNat ∧ (8 : Byte).toNat ≤ 8) ∧ 8 < (9 : Byte).toNat ∧ (0 : Byte).toNat = 0
      ∧ 16 < (17 : Byte).toNat
      ∧ (nextOf (exec (.acknowledgeFaults .office 1 none) s)).map (fun t => (t.slot 0).faults.records.length) = some 1
      ∧ (s.slot 0).faults.overflowed = false := by
  decide +kernel

/-- AcknowledgeFaults: a slot's roster that an acknowledgement leaves as it is. -/
theorem witness_AcknowledgeFaults_unchanged :
    let s := one (table .active)
    s.takes .office = true ∧ s.store.quiet = true
      ∧ (nextOf (exec (.acknowledgeFaults .office 1 none) s)).map (fun t => (t.slot 0).faults)
          = some (s.slot 0).faults := by
  decide +kernel

/-- TakeAlerts: the plugged Collector with its request taken, and then unplugged. -/
theorem witness_TakeAlerts_unplugged :
    let s := { ready with collector := { ready.collector with plugged := true } }
    s.takes .collector = true ∧ s.store.quiet = true ∧ (nextOf (exec (.takeAlerts .collector 1) s)).isSome = true := by
  decide +kernel

/-- AttentionLines: power-on gives a next state; as many alerts as are asked for. -/
theorem witness_AttentionLines :
    (nextOf (exec (.powerOn 63 3) ready)).isSome = true ∧ ready.takes .office = true ∧ ready.store.quiet = true
      ∧ (1 ≤ (1 : Byte).toNat ∧ (1 : Byte).toNat ≤ 8) ∧ ready.alerts.length ≤ (1 : Byte).toNat
      ∧ (nextOf (exec (.takeAlerts .office 1) ready)).isSome = true := by
  decide +kernel

/-- FaultEntryKeepsRoster, FaultPagesRoundTrip: full rosters, all Open and with one Gone record, and one with room. -/
theorem witness_FaultEntryKeepsRoster :
    let r (n : Nat) (st : FaultState) := roster ((List.range n).map fun k =>
      record (BitVec.ofNat 8 k) (if k = 5 then st else .opened))
    (∀ st ∈ [FaultState.opened, .gone], ∀ n ∈ [11, 12],
      ((r n st).records.map FaultRecord.key).Nodup ∧ (r n st).recency.Perm ((r n st).records.map FaultRecord.key)
        ∧ (r n st).records.length = n ∧ (∀ x ∈ (r n st).records, 1 ≤ x.occurrences ∧ x.occurrences ≤ 65535)
        ∧ (r n st).find keyNotTaken = none ∧ ((r n st).find (record 2 .opened).key).isSome = true)
      ∧ (r 12 .gone).oldestGone = some (record 5 .gone).key
      ∧ ∀ x ∈ (r 12 .opened).records, x.state = .opened := by
  decide +kernel

/-- PagesPassTheirCheck: a body of 250 bytes. -/
theorem witness_PagesPassTheirCheck : (List.replicate 250 (255 : Byte)).length = 250 := by decide +kernel

/-- StoreWriteAttempts: the first and the second attempt, with nothing waiting and an entry waiting, Ready and
Degraded. -/
theorem witness_StoreWriteAttempts :
    (∀ st ∈ [StoreState.ready, .degraded], ∀ n ∈ [1, 2],
      ∀ l ∈ [[], [({ page := 5, snapshot := List.replicate 250 1, tags := [] } : WriteEntry)]],
        let s := writing st n l
        s.store.sound = true ∧ s.store.inFlight = some (write n) ∧ s.store.groups = [] ∧ s.store.waiting = l
          ∧ (s.store.page (write n).page).bad = false ∧ s.store.lowestDeferred = none ∧ s.store.state = st)
      ∧ ([] : List Byte) ≠ (write 1).bytes := by
  decide +kernel

/-- AcknowledgeStoreFault: each store state; a write in flight at its second attempt. -/
theorem witness_AcknowledgeStoreFault :
    (∀ st ∈ [StoreState.ready, .degraded, .stopped], (stored st).takes .office = true
        ∧ (stored st).store.quiet = true ∧ (stored st).store.state = st)
      ∧ (let s := writing .degraded 2 []
         s.takes .office = true ∧ s.store.quiet = true ∧ s.store.state = .degraded
           ∧ s.store.inFlight = some (write 2) ∧ 2 ≤ (write 2).attempt
           ∧ (nextOf (exec (.acknowledgeStoreFault .office) s)).isSome = true) := by
  decide +kernel

/-- BookPagesRoundTrip, FoldRules: the empty book is in range and lawful, and one at the ceilings. -/
theorem witness_BookPagesRoundTrip :
    let top : Vector Total 24 := Vector.replicate 24 { val := 4294967295, sat := true }
    ∀ b ∈ [Book.empty, { Book.empty with current := top, closed := top, lifetime := top, paid := 65535, award := 65535
                                         discont := 65535 }],
      b.inRange ∧ b.lawful := by
  unfold Book.inRange Book.lawful Total.inRange
  decide +kernel

/-- SlotPagesRoundTrip: slots of a roster page at the ends of their ranges; an Active image and an outcome. -/
theorem witness_SlotPagesRoundTrip :
    (let x : Slot := { table .absent with addr := 8, model := 65535, regItem := 64, note := 65535
                                          coins := Vector.replicate 4 65535 }
     let s := one x
     ∀ i ∈ rosterSlots 0, (1 ≤ (s.slot i).addr ∧ (s.slot i).addr ≤ 8) ∧ (s.slot i).model ≤ 65535
       ∧ (s.slot i).regItem ≤ 64 ∧ (∀ c : Fin 4, (s.slot i).coins[c.val] ≤ 65535) ∧ (s.slot i).note ≤ 65535
       ∧ (s.slot i).reg = RegParams.default)
      ∧ (let x : Slot := { table .active with outcome := some 65535 }
         x.model ≤ 65535 ∧ (x.active.getD []).length ≤ 64 ∧ (∀ v ∈ x.active.getD [], v ≤ 65535)
           ∧ x.outcome = some 65535 ∧ x.active.isSome = true) := by
  decide +kernel

/-- LoadReadsPages: slot 1's book page being read, its first and its third time; the faults page of the last listed
slot, and bytes that pass and that fail their check. -/
theorem witness_LoadReadsPages :
    let s (p : PageIx) (tries : Nat) : State := { State.reset.setSlot 0 (table .absent) with
      store := { Store.powerOn with load := { page := p, tries := tries, failed := [], zero := .held } } }
    (∀ n ∈ [0, 1, 2], (s (bookPage 0) n).store.state = .loading
        ∧ (s (bookPage 0) n).store.load.page = bookPage 0 ∧ ((s (bookPage 0) n).slot 0).table ≠ .unlisted
        ∧ (s (bookPage 0) n).store.load.tries = n)
      ∧ passesCheck (bookPage 0) [] = false ∧ (List.replicate 250 (0 : Byte)).length = 250
      ∧ (s (faultsPage 0) 0).store.load.page = faultsPage 0
      ∧ (∀ j : SlotIx, 0 < j → ((s (faultsPage 0) 0).slot j).table = .unlisted)
      ∧ (s (faultsPage 0) 0).store.load.zero = .held
      ∧ passesCheck (faultsPage 0) (pageBytes (faultsPage 0) 1 (List.replicate 250 0)) = true := by
  decide +kernel

/-- PortEvents: a hunting and an assembling receiver, an answer in transmission, the Collector in and out. -/
theorem witness_PortEvents :
    ready.store.quiet = true ∧ (ready.port .office).plugged = true ∧ (ready.port .office).receiver = .hunting
      ∧ ({ ready.office with receiver := .assembling [] } : Port).receiver = .assembling []
      ∧ ((answered .office 1 .done [] ready).port .office).transmitting
          = some { kind := 1, status := .done, body := [], own := true }
      ∧ ({ ready with collector := { ready.collector with plugged := true } } : State).collector.plugged = true
      ∧ ready.collector.plugged = false := by
  decide +kernel

/-- RestartHub: with a delivery in flight. -/
theorem witness_RestartHub :
    let s := delivery (.itemFrame [(1, 11)]) .items (entry 1 false)
    s.takes .office = true ∧ s.store.quiet = true ∧ s.coherent = true ∧ s.segA.inputs.asserted = false
      ∧ s.segB.inputs.asserted = false ∧ (s.port .office).transmitting = none
      ∧ (s.slot 0).draft.state = .delivering ∧ s.entry 0 = some (entry 1 false) := by
  decide +kernel

/-- FoldRules: amounts at and beyond the limit, after an epoch change, without a baseline and across a wrap. -/
theorem witness_FoldRules :
    (7 : Fin 24) ∈ (table .active).identity.elim [] Identity.meters ∧ ¬ (0 : Fin 24) ∈ [(7 : Fin 24)]
      ∧ (250 : Half).toNat ≤ 250 ∧ 250 < (251 : Half).toNat
      ∧ ((4 : Half).toNat + 65536 - (65530 : Half).toNat) % 65536 ≤ 250
      ∧ Book.empty.baselines[7] = none := by
  decide +kernel

/-- EvaluationLevel: above, below and at the ends of the deadband. -/
theorem witness_EvaluationLevel :
    let r := RegParams.default
    (150 : Nat) ≤ 400 ∧ r.target + r.deadband < 136 ∧ 104 < r.target - r.deadband
      ∧ r.target - r.deadband ≤ 105 ∧ 135 ≤ r.target + r.deadband := by
  decide +kernel

/-- CheckWordAndChangeList: two questions; the last item; two images of one length. -/
theorem witness_CheckWordAndChangeList :
    (0 : BitVec 4) ≠ 15 ∧ 2 < [10, 20, 30].length ∧ [10, 20, 30].length = [11, 20, 31].length := by decide +kernel

/-- SchedulerOrder: a segment closed to a choice; a delivery at its items and at its check; a closing poll due; entries
that fit and slots with something due. -/
theorem witness_SchedulerOrder :
    ¬ ((segment .halted).seg .a).state = .running
      ∧ (∀ ph ∈ [DeliveryPhase.items, .check],
          let t := delivery (.itemFrame [(1, 11)]) ph (entry 1 false)
          let s := t.setSeg .a { t.segA with exchange := none }
          (s.seg .a).state = .running ∧ (s.seg .a).exchange = none ∧ (s.seg .a).haltPending = false
            ∧ (s.seg .a).delivery = some { slot := 0, changes := [(1, 11)], acked := 0, phase := ph, question := none })
      ∧ (let x := { table .active with game := some .attract, draft := { (table .active).draft with state := .queued }
                                       due := { (table .active).due with closing := true } }
         let s := { (one x).setSeg .a { ready.segA with state := .running } with queue := [entry 1 false] }
         (s.seg .a).delivery = none ∧ (s.slot 0).table ≠ .unlisted ∧ (s.slot 0).seg = .a
           ∧ (s.slot 0).due.closing = true ∧ (∀ j : SlotIx, j < 0 → (s.slot j).due.closing = false)
           ∧ pickEntry .a s = some (entry 1 false) ∧ pickEntry .b s = none)
      ∧ (let s := (one (table .absent)).modSlot 0 fun x => { x with due := { x.due with probe := 10 } }
         nextVisit .a s = some 0 ∧ nextVisit .b s = none
           ∧ nextVisit .a (s.setSeg .a { s.segA with pointer := some 5 }) = some 0) := by
  decide +kernel

/-! ## Witnesses of the clauses on deliveries, joins, closes and the store -/

/-- The premises that most statements about an exchange share: it is on segment A of a hub whose store is quiet, and
the segment has no halt pending and no Noisy mark. -/
abbrev plainLine (s : State) (x : Exchange) : Prop :=
  s.store.quiet = true ∧ (s.seg .a).exchange = some x ∧ (s.seg .a).haltPending = false ∧ (s.seg .a).noisy = false

/-- LineFaultStopsSegment: a delivery in flight, with a withdrawal mark and without; a driver left on with nothing in
flight. -/
theorem witness_LineFaultStopsSegment_in_flight :
    (∀ w ∈ [true, false],
      let s := delivery (.itemFrame [(1, 11)]) .items (entry 1 w)
      s.store.quiet = true ∧ (s.seg .a).state = .running ∧ (s.seg .a).inputs.level .shorted = false
        ∧ (s.seg .a).delivery.map DeliveryRecord.slot = some 0 ∧ s.entry 0 = some (entry 1 w)
        ∧ (s.seg .a).exchange.map Exchange.slot = some 0)
      ∧ (let s := ready.setSeg .a { ready.segA with driverOn := true }
         s.store.quiet = true ∧ (s.seg .a).driverOn = true ∧ (s.seg .a).exchange = none
           ∧ (s.seg .a).delivery = none ∧ (s.seg .a).haltPending = false) := by
  decide +kernel

/-- A slot regulated between numeric limits. -/
def limited : Slot :=
  { table .absent with regItem := 3, outcome := some 30
                       reg := { RegParams.default with enabled := true, lmin := .value 10, lmax := .value 20 } }

/-- SetRegulation: a numeric Lmin under a numeric Lmax left in place, numbers of 0, and limits that follow the item. -/
theorem witness_SetRegulation_limits :
    let a (lmin lmax : Option LimitArg) : RegulationArg :=
      { enabled := none, target := none, deadband := none, window := none, step := none, lmin := lmin, lmax := lmax
        priority := none }
    (one limited).takes .office = true ∧ (one limited).store.quiet = true ∧ ((one limited).slot 0).table ≠ .unlisted
      ∧ ((one limited).slot 0).reg.lmax = .value 20 ∧ (a (some (.value 25)) none).lmax = none
      ∧ (a (some (.value 25)) none).lmin = some (.value 25) ∧ (a none (some (.value 0))).lmax = some (.value 0)
      ∧ ((one (table .absent)).slot 0).reg.lmax = .follow
      ∧ (nextOf (exec (.setRegulation .office 1 (a (some (.value 25)) none)) (one limited))).map
          (fun t => ((t.slot 0).reg.lmin, (t.slot 0).reg.lmax)) = some (.value 25, .value 25)
      ∧ (nextOf (exec (.setRegulation .office 1 (a none (some (.value 0)))) (one limited))).map
          (fun t => ((t.slot 0).reg.lmin, (t.slot 0).reg.lmax)) = some (.value 10, .value 10) := by
  decide +kernel

/-- An Active slot that waits for its closing report, the close asked for alone or by Close All. -/
def closing (ofAll : Bool) : Slot :=
  { table .active with close := .polling (some .office) ofAll 1, due := { (table .active).due with closing := true } }

/-- ClosesOfOneSlot: the closing timeout with a store that makes writes and with one that makes none; a usable closing
report. -/
theorem witness_ClosesOfOneSlot_ends :
    (∀ st ∈ [StoreState.ready, .stopped],
      let t := (stored st).setSlot 0 (closing false)
      let s := t.setPort .office { t.office with request := some 12 }
      s.store.quiet = true ∧ (s.slot 0).close = .polling (some .office) false 1
        ∧ s.store.writing = (st == .ready) ∧ (s.port .office).request = some 12)
      ∧ (let s := line { closing false with score := 63 } (exchange .meterPoll .collection .window)
         plainLine s (exchange .meterPoll .collection .window) ∧ (s.slot 0).table = .active ∧ (s.slot 0).score < 64
           ∧ parseMeterReport [3, 1, 7, 0, 100] = some { epoch := 3, entries := [(7, 100)] }
           ∧ (s.slot 0).identity = (table .active).identity ∧ (table .active).identity.isSome = true
           ∧ (s.slot 0).close = .polling (some .office) false 1 ∧ s.store.writing = true) := by
  decide +kernel

/-- What a close of the empty book keeps for its answer. -/
def kept : ClosedFigures :=
  { number := 0, stamp := { clock := 0, unset := true }, totals := Book.empty.current
    figures := figuresOf none (Vector.replicate 4 0) 0 Book.empty.current, lost := false, modelChanged := false }

/-- Slot 1's close waits for its group, the last write of the group in flight. -/
def storing (ofAll failed abandoned : Bool) (l : List WriteEntry) : State :=
  let t := writing .ready 1 l
  let s := t.setSlot 0 { table .active with close := .storing (some .office) ofAll true kept }
  { s with
    store := { s.store with
      inFlight := some { write 1 with tags := [2] }
      groups := [{ slot := 0, tag := 2, failed := failed, abandoned := abandoned }] }
    office := { s.office with request := some 12 } }

/-- ClosesOfOneSlot: the last write of a group, failed and not; one abandoned; one with another write waiting. -/
theorem witness_ClosesOfOneSlot_groups :
    let other : WriteEntry := { page := 9, snapshot := List.replicate 250 1, tags := [1, 2] }
    (∀ f ∈ [true, false], ∀ ab ∈ [true, false], ∀ l ∈ [[], [other]],
      let s := storing false f ab l
      s.store.sound = true ∧ s.store.inFlight = some { write 1 with tags := [2] }
        ∧ (s.store.page 5).bad = false ∧ s.store.waiting = l
        ∧ s.store.groups = [{ slot := 0, tag := 2, failed := f, abandoned := ab }]
        ∧ (∀ q : PageIx, (s.store.page q).deferredTags = [])
        ∧ (s.slot 0).close = .storing (some .office) false true kept ∧ (s.port .office).request = some 12)
      ∧ (2 : Nat) ∈ ([other].flatMap WriteEntry.tags) := by
  decide +kernel

/-- CloseAll: the last result of the record, and one of two. -/
theorem witness_CloseAll_results :
    let result := CloseResult.closed true true kept.number kept.figures.takings kept.figures.takingsSat
    ∀ l ∈ [[((0 : SlotIx), CloseResult.pending)], [(0, CloseResult.pending), (1, CloseResult.pending)]],
      let t := storing true false false []
      let s := t.setPort .office { t.office with closeAll := some l }
      s.store.sound = true ∧ s.store.waiting = [] ∧ (s.store.page 5).bad = false
        ∧ (∀ q : PageIx, (s.store.page q).deferredTags = [])
        ∧ (s.slot 0).close = .storing (some .office) true true kept ∧ (s.port .office).closeAll = some l
        ∧ (s.port .office).request = some 12
        ∧ ((∃ e ∈ l.map (fun e => if e.1 = 0 then ((0 : SlotIx), result) else e), e.2 = .pending) ↔ 1 < l.length) := by
  decide +kernel

/-- DiscardDraft: a pending outcome equal to the Active value of the last item. -/
theorem witness_DiscardDraft_equal :
    let s := one { table .active with
      draft := { (table .active).draft with state := .edited }, regItem := 3, outcome := some 30 }
    s.takes .office = true ∧ s.store.quiet = true ∧ (s.slot 0).draft.state = .edited
      ∧ (s.slot 0).active = some [10, 20, 30] ∧ (s.slot 0).outcome = some 30 ∧ 1 ≤ (s.slot 0).regItem
      ∧ [10, 20, 30][(s.slot 0).regItem - 1]? = some 30 := by
  decide +kernel

/-- ClockRules: a quiet store, the clock at its end, a listed slot whose timers are at their ceiling. -/
theorem witness_ClockRules :
    let s := { one { table .absent with due := { (table .absent).due with probe := 3600 } } with clock := 4294967295 }
    s.store.quiet = true ∧ s.clock = 4294967295 ∧ (s.slot 0).table ≠ .unlisted ∧ (s.slot 15).table = .unlisted := by
  decide +kernel

/-- FaultEntryKeepsRoster: a full roster whose sixth key is the first Gone one in recency. -/
theorem witness_FaultEntryKeepsRoster_oldest :
    let r := roster ((List.range 12).map fun k => record (BitVec.ofNat 8 k) (if k = 5 ∨ k = 8 then .gone else .opened))
    let keys (a n : Nat) := (List.range n).map fun k => (record (BitVec.ofNat 8 (a + k)) .gone).key
    r.find keyNotTaken = none ∧ r.records.length = 12
      ∧ r.recency = keys 0 5 ++ (record 5 .gone).key :: keys 6 6
      ∧ r.find (record 5 .gone).key = some (record 5 .gone)
      ∧ ∀ j ∈ keys 0 5, ∃ x ∈ r.records, r.find j = some x ∧ x.state = .opened := by
  decide +kernel

/-- SetWatchRules: each watch mode; an entry with room, one that finds only Open records; a queue with room and a full
one; an input asserted on a Faulted segment. -/
theorem witness_SetWatchRules_matcher :
    let alert : Alert := { kind := .presence, slot := 0, cls := none, code := 3, subject := none, hit := 0
                           stamp := { clock := 0, unset := true } }
    let full := roster ((List.range 12).map fun k => record (BitVec.ofNat 8 k) .opened)
    let s (m : WatchMode) (n : Nat) : State :=
      { segment .faulted with watch := { ready.watch with mode := m }, alerts := List.replicate n alert }
    (∀ m ∈ [WatchMode.openAll, .closed, .rules], ∀ n ∈ [31, 32],
      (s m n).store.quiet = true ∧ (s m n).watch.mode = m ∧ (s m n).alerts.length = n
        ∧ ((s m n).seg .a).state = .faulted ∧ ((s m n).seg .a).inputs.level .grounded = false
        ∧ ((s m n).roster 0).records.length < 12)
      ∧ full.find keyNotTaken = none ∧ full.records.length = 12
      ∧ ∀ x ∈ full.records, x.state = .opened := by
  decide +kernel

/-- SetWatchRules: rule 2 is the lowest that fits an entry of slot 16; rule 1 differs in the class. -/
theorem witness_SetWatchRules_fits :
    let rule (c : Byte) : WatchRule :=
      { slotValue := 16, slotMask := 31, cls := some c, codeValue := 3, codeMask := 255, subject := none }
    let rules : Vector (Option WatchRule) 8 := ((Vector.replicate 8 none).set 0 (some (rule 2))).set 1 (some (rule 1))
    let k : FaultKey := { cls := 1, code := 3, subject := some 9 }
    let fits (j : Fin 8) : Prop := ∃ r, rules[j.val] = some r
      ∧ (∀ b, b < 5 → r.slotMask.getLsbD b = true → r.slotValue.getLsbD b = Nat.testBit 16 b)
      ∧ (∀ v, r.cls = some v → v = k.cls)
      ∧ (∀ b, b < 8 → r.codeMask.getLsbD b = true → r.codeValue.getLsbD b = k.code.getLsbD b)
      ∧ ∀ v, r.subject = some v → k.subject = some v
    fits 1 ∧ ∀ h : Fin 8, h < 1 → ¬ fits h := by
  intro rule rules k fits
  refine ⟨⟨rule 1, by decide +kernel, by decide +kernel, ?_, by decide +kernel, nofun⟩, ?_⟩
  · intro v h
    cases h
    rfl
  · rintro h hh ⟨r, hr, -, hc, -⟩
    have h0 : h = 0 := by omega
    subst h0
    have : r = rule 2 := by
      have e : rules[(0 : Fin 8).val] = some (rule 2) := by decide +kernel
      exact (Option.some.inj (e.symm.trans hr)).symm
    subst this
    exact absurd (hc 2 rfl) (by decide)

/-- StoreWriteAttempts: a bad page that is written again; a group's write that fails while another of it waits; roster 0
with room for one and for two; the watch closed and room for two alerts. -/
theorem witness_StoreWriteAttempts_failure :
    let other : WriteEntry := { page := 9, snapshot := List.replicate 250 1, tags := [2] }
    (let t := writing .ready 1 []
     let s := { t with store := t.store.modPage 5 fun m => { m with bad := true } }
     s.store.sound = true ∧ s.store.inFlight = some (write 1) ∧ s.store.groups = [] ∧ s.store.waiting = []
       ∧ (s.store.page 5).bad = true)
      ∧ (∀ st ∈ [StoreState.ready, .degraded], ∀ n ∈ [10, 11],
          let t := storing false false false [other]
          let s := { t with
            store := { t.store with state := st, inFlight := some { write 2 with tags := [2] } }
            watch := { t.watch with mode := .closed }, alerts := []
            hubFaults := roster ((List.range n).map fun k => record (BitVec.ofNat 8 k) .opened) }
          s.store.sound = true ∧ s.store.inFlight = some { write 2 with tags := [2] } ∧ s.store.state = st
            ∧ s.store.groups = [{ slot := 0, tag := 2, failed := false, abandoned := false }]
            ∧ s.store.waiting = [other] ∧ (2 : Nat) ∈ other.tags ∧ s.hubFaults.records.length = n
            ∧ s.watch.mode = .closed ∧ s.alerts.length < 31
            ∧ (s.slot 0).close = .storing (some .office) false true kept) := by
  decide +kernel

/-- LoadReadsPages: page 0 with a format mark and without; the last faults page after a page 0 without it; the third
read of page 4 where pages 0 to 3 have failed. -/
theorem witness_LoadReadsPages_format :
    let at' (p : PageIx) (z : PageZero) (failed : List PageIx) (tries : Nat) : State :=
      { State.reset with
        store := { Store.powerOn with load := { page := p, tries := tries, failed := failed, zero := z } } }
    (State.reset.store.load.page = 0 ∧ passesCheck 0 (List.replicate 256 0) = true
        ∧ hasFormatMark (padBody (formatBody ready)) = true
        ∧ passesCheck 0 (pageBytes 0 1 (padBody (formatBody ready))) = true)
      ∧ (let s := (at' (faultsPage 0) .noMark [] 0).setSlot 0 (table .absent)
         s.store.load.page = faultsPage 0 ∧ (∀ j : SlotIx, 0 < j → (s.slot j).table = .unlisted)
           ∧ s.store.load.zero = .noMark ∧ s.store.waiting = [] ∧ s.store.inFlight = none ∧ s.store.load.tries = 0
           ∧ s.store.state = .loading)
      ∧ (let s := at' 4 .failed [0, 1, 2, 3] 2
         s.store.load.page = 4 ∧ (∀ j : SlotIx, j.val < 12 → (s.slot j).table = .unlisted)
           ∧ s.store.load.zero = .failed ∧ s.store.load.failed = [0, 1, 2, 3] ∧ s.store.load.tries = 2
           ∧ s.store.waiting = [] ∧ s.store.inFlight = none ∧ s.store.state = .loading) := by
  decide +kernel

/-- RestartHub: a Fault Poll in flight to a table in Caution, an asserted input, a write in flight and a group. -/
theorem witness_RestartHub_in_flight :
    (let x := { table .caution with readback := some { next := 9, held := [] } }
     let t := line x (exchange (.faultPoll true) .faultAndAlert .window)
     let s := { t with
       segB := { t.segB with state := .faulted, inputs := { bias := false, short := false, ground := true } }
       store := (storing false false false []).store
       hubFaults := roster ((List.range 6).map fun k => record (BitVec.ofNat 8 k) .opened) }
     s.takes .office = true ∧ s.store.quiet = true ∧ s.coherent = true ∧ (s.slot 0).table = .caution
       ∧ (s.seg .b).inputs.level .grounded = true ∧ s.hubFaults.records.length ≤ 6
       ∧ s.store.inFlight = some { write 1 with tags := [2] }
       ∧ (s.seg .a).exchange = some (exchange (.faultPoll true) .faultAndAlert .window))
      ∧ (let s := delivery (.itemFrame [(1, 11)]) .items (entry 1 true)
         s.takes .office = true ∧ s.coherent = true ∧ (s.slot 0).draft.state = .delivering
           ∧ s.entry 0 = some (entry 1 true)) := by
  decide +kernel

/-! ## Witnesses of the clauses on answers of a table -/

/-- AnswerTakesGameState: a routine Check Word that agrees, one that differs, one too short. -/
theorem witness_AnswerTakesGameState_check :
    let x := exchange (.checkQuery 5) .settings .window
    let s := line { table .active with score := 63, game := some .service } x
    let w := (weightedSum 1 ((table .active).active.getD []) + 4099 * (5 : BitVec 4).toNat) % 65536
    plainLine s x ∧ (s.slot 0).table = .active ∧ (s.slot 0).score < 64
      ∧ (BitVec.ofNat 8 (w / 256)).toNat * 256 + (BitVec.ofNat 8 w).toNat = w
      ∧ (0 : Byte).toNat * 256 + (0 : Byte).toNat ≠ w ∧ ([0] : List Byte).length ≠ 2 := by
  decide +kernel

/-- A table whose local-change readback holds some values, with n items. -/
def reading (n : Nat) (next : Nat) (held : List Nat) (d : DraftState) : Slot :=
  let l := List.replicate n 20
  { table .active with
    active := some l, readback := some { next := next, held := held }, regItem := n
    draft := { Draft.cleanOver (some l) with state := d }
    identity := some { model := 500, revision := 1, meters := [7], ranges := List.replicate n (0, 40) } }

/-- The body of a Readback Record: items from `start` on with their values. -/
def readbackBody (start : Nat) (l : List Nat) : List Byte :=
  BitVec.ofNat 8 l.length
    :: (List.range l.length).flatMap fun k => BitVec.ofNat 8 (start + k) :: be2 (l.getD k 0)

/-- AnswerTakesGameState: the first of two frames of nine items, the last one, and one of another count. -/
theorem witness_AnswerTakesGameState_readback :
    let x (k : Nat) := exchange (.readbackRequest k) .settings .window
    (let s := line (reading 9 1 [] .clean) (x 1)
     plainLine s (x 1) ∧ (s.slot 0).readback = some { next := 1, held := [] }
       ∧ parseReadback 1 (readbackBody 1 (List.replicate 8 21)) = some (List.replicate 8 21)
       ∧ 8 = min 8 (9 + 1 - 1) ∧ 1 + 8 ≤ 9
       ∧ parseReadback 1 (readbackBody 1 [21]) = some [21] ∧ [21].length ≠ min 8 (9 + 1 - 1))
      ∧ ∀ d ∈ [DraftState.clean, .edited, .queued], ∀ v ∈ [20, 50],
          let t := line (reading 9 9 (List.replicate 8 20) d) (x 9)
          let s := if d = .queued then { t with queue := [entry 1 false] } else t
          plainLine s (x 9) ∧ (s.slot 0).readback = some { next := 9, held := List.replicate 8 20 }
            ∧ parseReadback 9 (readbackBody 9 [v]) = some [v] ∧ [v].length = min 8 (9 + 1 - 9) ∧ 9 < 9 + 8
            ∧ (List.replicate 8 20 ++ [v]).length = 9 ∧ (s.slot 0).active = some (List.replicate 9 20)
            ∧ (s.slot 0).draft.state = d ∧ (s.seg .a).delivery = none
            ∧ (s.queue.map DeliveryEntry.slot).Nodup ∧ s.store.writing = true := by
  decide +kernel

/-- AnswerTakesGameState: with three items the room asked for is there. -/
theorem witness_AnswerTakesGameState_room :
    let s := line (reading 3 1 [] .clean) (exchange (.readbackRequest 1) .settings .window)
    (s.slot 0).faults.records.length + 2 * 3 + 1 ≤ 12
      ∧ parseReadback 1 (readbackBody 1 [20, 41, 20]) = some [20, 41, 20] ∧ 40 < 41
      ∧ parseReadback 1 (readbackBody 1 [20, 20, 20]) = some [20, 20, 20] := by
  decide +kernel

/-- JoinSteps: probes of an Absent table and of an Isolated one, at the last count before each change. -/
theorem witness_JoinSteps_probes :
    ∀ t ∈ [TableState.absent, .isolated], ∀ good ∈ [10, 11], ∀ silent ∈ [6, 7], ∀ ph ∈ [Phase.window, .garbled],
      let x := exchange .presenceProbe .roster ph
      let s := line { table t with goodProbes := good, silent := silent } x
      plainLine s x ∧ (s.slot 0).table = t ∧ s.alerts.length < 32 ∧ (s.seg .a).driverOn = false
        ∧ (s.seg .a).garble < (s.seg .a).params.threshold := by
  decide +kernel

/-- The body of the Identity Record that `table` holds, but for its model number. -/
def identityBody (model : Nat) : List Byte :=
  be2 model ++ [1, 5, 7, 8, 9, 15, 16, 3] ++ (List.replicate 3 [0, 0, 0, 40]).flatten

/-- JoinSteps: an Identity Record of the same model, of a first and of another one; an Active image that is none, fits,
has another length, and has a value out of its range; a draft outside the new ranges. -/
theorem witness_JoinSteps_identify :
    let x := exchange .identify .roster .window
    let y (model : Nat) (active : Option (List Nat)) (d : Draft) : Slot :=
      { table .joining with join := some .identify, model := model, active := active, draft := d }
    let clean := (table .active).draft
    let out : Draft := { clean with values := [10, 20, 41], state := .edited }
    (∀ m ∈ [0, 500, 501], ∀ l ∈ [none, some [10, 20, 40], some [10, 20], some [10, 20, 41]],
      let t := line (y m l clean) x
      let s := { t with watch := { t.watch with mode := .closed } }
      plainLine s x ∧ (s.slot 0).table = .joining ∧ (s.slot 0).active = l ∧ s.watch.mode = .closed
        ∧ (s.slot 0).faults.records.length + 3 ≤ 12
        ∧ (s.slot 0).faults.find { cls := 128, code := 3, subject := none } = none
        ∧ ((m = 0 ∨ m = 500) ↔ m ≠ 501))
      ∧ (∀ d ∈ [DraftState.edited, .queued],
          let t := line (y 500 (some [10, 20, 40]) { out with state := d }) x
          let s := if d = .queued then { t with queue := [entry 1 false] } else t
          plainLine s x ∧ (s.slot 0).draft.state = d ∧ (s.slot 0).draft.values = [10, 20, 41])
      ∧ parseIdentity (identityBody 500) = (table .active).identity ∧ (identityBody 500).length ≤ 318
      ∧ 40 < 41 := by
  decide +kernel

/-- JoinSteps: a join readback of nine items, its first frame, its last and one of another count. -/
theorem witness_JoinSteps_readback :
    let x (k : Nat) := exchange (.readbackRequest k) .roster .window
    let y (next : Nat) (held : List Nat) : Slot :=
      { reading 9 1 [] .clean with
        table := .joining, join := some (.readback next held), readback := none, active := none
        draft := Draft.cleanOver none }
    (let s := line (y 1 []) (x 1)
     plainLine s (x 1) ∧ (s.slot 0).table = .joining ∧ (s.slot 0).join = some (.readback 1 [])
       ∧ parseReadback 1 (readbackBody 1 (List.replicate 8 21)) = some (List.replicate 8 21)
       ∧ (List.replicate 8 21).length = min 8 (9 + 1 - 1) ∧ 1 + 8 ≤ 9
       ∧ parseReadback 1 (readbackBody 1 [21]) = some [21] ∧ [21].length ≠ min 8 (9 + 1 - 1))
      ∧ (let s := line (y 9 (List.replicate 8 21)) (x 9)
         plainLine s (x 9) ∧ (s.slot 0).join = some (.readback 9 (List.replicate 8 21))
           ∧ parseReadback 9 (readbackBody 9 [22]) = some [22] ∧ [22].length = min 8 (9 + 1 - 9) ∧ 9 < 9 + 8
           ∧ (s.slot 0).draft.state = .clean ∧ (s.seg .a).delivery = none
           ∧ List.zipWith (fun (b : Nat × Nat) v => max b.1 (min v b.2)) (List.replicate 9 (0, 40))
               (List.replicate 8 21 ++ [22]) = List.replicate 8 21 ++ [22]) := by
  decide +kernel

/-- JoinSteps: a join step that fails, each way. -/
theorem witness_JoinSteps_failed :
    (∀ f ∈ [HubFrame.identify, .meterPoll, .readbackRequest 1], ∀ ph ∈ [Phase.window, .garbled],
      let x := exchange f .roster ph
      let s := line { table .joining with join := some .identify } x
      plainLine s x ∧ (s.slot 0).table = .joining ∧ (s.seg .a).driverOn = false
        ∧ (s.seg .a).garble < (s.seg .a).params.threshold)
      ∧ parseIdentity [] = none ∧ parseMeterReport [] = none ∧ parseReadback 1 [9] = none := by
  decide +kernel

/-- CheckWordAndChangeList: a delivery that starts when the line has been idle, with a change and with none. -/
theorem witness_CheckWordAndChangeList_start :
    ∀ v ∈ [10, 11],
      let e := entry 1 false
      let x : Slot := { table .active with
        game := some .attract
        draft := { values := [v, 20, 30], touched := [true, false, false], state := .queued, baseMoved := false } }
      let s := { (one x).setSeg .a { ready.segA with state := .starting } with queue := [e] }
      s.store.quiet = true ∧ (s.seg .a).state = .starting ∧ (s.seg .a).exchange = none ∧ (s.seg .a).delivery = none
        ∧ (s.seg .a).haltPending = false
        ∧ (∀ j : SlotIx, (s.slot j).table ≠ .unlisted → (s.slot j).seg = .a → (s.slot j).due.closing = false)
        ∧ pickEntry .a s = some e ∧ (s.slot e.slot).active = some [10, 20, 30]
        ∧ changeList [10, 20, 30] [v, 20, 30] = (if v = 10 then [] else [(1, 11)]) := by
  decide +kernel

/-- CheckWordAndChangeList: an Item Ack for the first of nine changes' frames, for the last of eight, and one short. -/
theorem witness_CheckWordAndChangeList_ack :
    ∀ n ∈ [8, 9],
      let items := (List.range 8).map fun k => (k + 1, 11)
      let x := exchange (.itemFrame items) .delivery .window
      let t := delivery (.itemFrame items) .items (entry 1 false)
      let d : DeliveryRecord :=
        { slot := 0, changes := (List.range n).map fun k => (k + 1, 11), acked := 0, phase := .items, question := none }
      let s := t.setSeg .a { t.segA with delivery := some d }
      plainLine s x ∧ (s.seg .a).delivery = some d ∧ (8 : Byte).toNat = items.length ∧ (7 : Byte).toNat < items.length
        ∧ s.entry 0 = some (entry 1 false) ∧ (s.slot 0).table = .active ∧ (s.slot 0).score < 64
        ∧ (d.changes.length ≤ 8 * (d.acked + 1) ↔ n = 8) := by
  decide +kernel

/-- A table under regulation, its window one paid play short of its width, or full. -/
def regulated (paid award : Nat) (outcome : Option Nat) (d : DraftState) : Slot :=
  { table .active with
    regItem := 3, outcome := outcome, reg := { RegParams.default with enabled := true }
    draft := { (table .active).draft with state := d }
    book := { Book.empty with paid := paid, award := award, baselines := Book.empty.baselines.set 7 (some 99) } }

/-- EvaluationLevel: a report that leaves the window short, and one that completes it: a level equal to its base, equal
to the Active value, and neither, with a Clean draft and with an Edited one; and a table that is inert. -/
theorem witness_EvaluationLevel_windows :
    let x := exchange .meterPoll .meterFolding .window
    let rest : List Byte := [3, 1, 7, 0, 100]
    let acc (y : Slot) := y.book.foldReport [7, 8, 9, 15, 16] .routine { epoch := 3, entries := [(7, 100)] }
    let level (y : Slot) : Nat := nextLevel y.reg y.effectiveLimits
      (min 9999 ((2 * (y.book.award * 1000) + 200) / 400)) (y.outcome.getD 30)
    (∀ n ∈ [198, 199], ∀ aw ∈ [0, 24], ∀ o ∈ [none, some 35], ∀ d ∈ [DraftState.clean, .edited],
      let y := regulated n aw o d
      let s := line y x
      plainLine s x ∧ (s.slot 0).table = .active ∧ (s.slot 0).score < 64
        ∧ parseMeterReport rest = some { epoch := 3, entries := [(7, 100)] }
        ∧ (s.slot 0).identity = some { model := 500, revision := 1, meters := [7, 8, 9, 15, 16]
                                       ranges := [(0, 40), (0, 40), (0, 40)] }
        ∧ (acc y).gaps = [] ∧ min 65535 (n + ((acc y).amounts[7] - (acc y).amounts[8])) = n + 1
        ∧ (y.reg.window ≤ n + 1 ↔ n = 199) ∧ y.active = some [10, 20, 30] ∧ [10, 20, 30][y.regItem - 1]? = some 30
        ∧ (y.reg.enabled = true ∧ y.regItem ≠ 0 ∧ y.regItem ≤ 3))
      ∧ level (regulated 199 24 none .clean) = 30 ∧ level (regulated 199 0 (some 35) .clean) = 30
      ∧ level (regulated 199 0 none .clean) = 25
      ∧ { regulated 199 0 none .clean with regItem := 0 }.regItem = 0 := by
  decide +kernel

/-- FoldRules: the figures of a period in which nothing was paid, and of one at the replay percentage's ceiling. -/
theorem witness_FoldRules_figures :
    let z : Total := { val := 0, sat := false }
    let v : Vector Total 24 := ((Vector.replicate 24 z).set 7 { z with val := 1 }).set 9 { z with val := 11 }
    (figuresOf none (Vector.replicate 4 0) 0 (Vector.replicate 24 z)).paid = 0
      ∧ (figuresOf none (Vector.replicate 4 0) 0 v).paid = 1
      ∧ (figuresOf none (Vector.replicate 4 0) 0 v).percent.val = 9999
      ∧ (figuresOf none (Vector.replicate 4 0) 0 v).percent.capped = true
      ∧ (figuresOf none (Vector.replicate 4 0) 0 v).awards = 11 := by
  decide +kernel

end Sys2Proof.Machine.Tests
end

namespace Sys2Proof.Machine

/-! ## The capacities of rosters and alert queue (R152, R164) -/

/-- Two states with the same rosters and a slot's roster changed. -/
theorem roster_zero (s : State) : s.roster 0 = s.hubFaults := rfl

theorem roster_rosterOfSlot (s : State) (i : SlotIx) : s.roster (rosterOfSlot i) = (s.slot i).faults := by
  simp [State.roster, rosterOfSlot]

/-- The rosters and the alert queue are within their capacities, roster by roster. -/
theorem capacitiesKept_iff (s : State) :
    s.capacitiesKept = true ↔
      (∀ n, (s.roster n).records.length ≤ Config.rosterCapacity) ∧ s.alerts.length ≤ Config.alertCapacity := by
  simp only [State.capacitiesKept, State.rostersFit, State.alertsFit, Bool.and_eq_true, decide_eq_true_eq,
    List.all_eq_true, allSlots, List.mem_finRange, true_implies]
  refine and_congr_left fun _ => ⟨fun ⟨h0, h⟩ n => ?_, fun h => ⟨h 0, fun i => ?_⟩⟩
  · unfold State.roster
    split
    · exact h0
    · exact h _
  · simpa [roster_rosterOfSlot] using h (rosterOfSlot i)

/-- The roster made of an entry stays within its capacity: a full roster loses a record before it takes one (R157). -/
theorem enter_length {r : FaultRoster} (h : r.records.length ≤ Config.rosterCapacity) (k : FaultKey) (origin : Origin)
    (kind : EntryKind) (now : Stamp) :
    (r.enter k origin kind now).1.records.length ≤ Config.rosterCapacity := by
  unfold FaultRoster.enter
  split
  · simpa using h
  · split
    · simp only [FaultRoster.add, List.length_append, List.length_singleton]
      omega
    · split
      · next g hg =>
        have hlt : (r.remove g).records.length < r.records.length := by
          have hgone := List.find?_some hg
          split at hgone
          · cases hgone
          · next x hx =>
            refine List.length_filter_lt_length_iff_exists.mpr ⟨x, List.mem_of_find?_eq_some hx, ?_⟩
            simpa using List.find?_some hx
        simp only [FaultRoster.add, List.length_append, List.length_singleton]
        omega
      · exact h

@[simp] theorem finish_length (r : FaultRoster) (k : FaultKey) : (r.finish k).records.length = r.records.length := by
  simp [FaultRoster.finish]

/-! ## Quiet operations -/

/-- What segments, deliveries and answers read of a slot: its table state, its segment, its draft's state, the
reported game-state and the local-check mark. -/
def Slot.bond (x : Slot) : TableState × SegId × DraftState × Option GameState × Bool :=
  (x.table, x.seg, x.draft.state, x.game, x.localCheck)

/-- What most operations of the blocks have in common: the segments and the delivery queue stay, of a slot only what
neither a segment nor a delivery reads changes, the store does not move into or out of Loading, and the capacities are
kept. -/
structure Quiet (s t : State) : Prop where
  seg : ∀ g, t.seg g = s.seg g
  queue : t.queue = s.queue
  loading : t.store.state = .loading ↔ s.store.state = .loading
  bond : ∀ j, (t.slot j).bond = (s.slot j).bond
  fits : s.capacitiesKept = true → t.capacitiesKept = true

@[simp] theorem Quiet.refl (s : State) : Quiet s s := ⟨fun _ => rfl, rfl, Iff.rfl, fun _ => rfl, id⟩

theorem Quiet.trans {s t u : State} (h : Quiet s t) (k : Quiet t u) : Quiet s u :=
  ⟨fun g => (k.seg g).trans (h.seg g), k.queue.trans h.queue, k.loading.trans h.loading,
    fun j => (k.bond j).trans (h.bond j), k.fits ∘ h.fits⟩

theorem Quiet.foldl {α : Type} {f : State → α → State} (h : ∀ s x, Quiet s (f s x)) (l : List α) (s : State) :
    Quiet s (l.foldl f s) := by
  induction l generalizing s with
  | nil => exact .refl s
  | cons x xs ih => exact (h s x).trans (ih _)

theorem Quiet.forSlots {f : SlotIx → State → State} (h : ∀ i s, Quiet s (f i s)) (is : List SlotIx) (s : State) :
    Quiet s (s.forSlots is f) :=
  Quiet.foldl (fun s i => h i s) is s

theorem Quiet.ite {s t u : State} {c : Prop} [Decidable c] (ht : Quiet s t) (hu : Quiet s u) :
    Quiet s (if c then t else u) := by
  split <;> assumption

theorem roster_congr {s t : State} (hh : t.hubFaults = s.hubFaults) (hf : ∀ j, (t.slot j).faults = (s.slot j).faults)
    (n : Fin 17) : t.roster n = s.roster n := by
  unfold State.roster
  split
  · exact hh
  · exact hf _

/-- The capacities speak of the rosters and the alerts alone. -/
theorem fits_of_same {s t : State} (hh : t.hubFaults = s.hubFaults) (hf : ∀ j, (t.slot j).faults = (s.slot j).faults)
    (ha : t.alerts = s.alerts) (h : s.capacitiesKept = true) : t.capacitiesKept = true := by
  rw [capacitiesKept_iff] at h ⊢
  exact ⟨fun n => by rw [roster_congr hh hf n]; exact h.1 n, by rw [ha]; exact h.2⟩

/-- A change of slots alone that keeps their bonds and their rosters. -/
theorem Quiet.ofSlots {s t : State} (hs : ∀ g, t.seg g = s.seg g) (hq : t.queue = s.queue)
    (hl : t.store.state = .loading ↔ s.store.state = .loading) (hb : ∀ j, (t.slot j).bond = (s.slot j).bond)
    (hh : t.hubFaults = s.hubFaults) (hf : ∀ j, (t.slot j).faults = (s.slot j).faults) (ha : t.alerts = s.alerts) :
    Quiet s t :=
  ⟨hs, hq, hl, hb, fits_of_same hh hf ha⟩

theorem modSlot_quiet (i : SlotIx) (f : Slot → Slot) (s : State) (hb : ∀ x, (f x).bond = x.bond := by intro; rfl)
    (hf : ∀ x, (f x).faults = x.faults := by intro; rfl) : Quiet s (s.modSlot i f) := by
  have hslot : ∀ j, ((s.modSlot i f).slot j).bond = (s.slot j).bond
      ∧ ((s.modSlot i f).slot j).faults = (s.slot j).faults := by
    intro j
    by_cases h : j = i
    · subst h; simp [hb, hf]
    · simp [slot_modSlot_other s f h]
  exact .ofSlots (by simp) rfl Iff.rfl (fun j => (hslot j).1) rfl (fun j => (hslot j).2) rfl

theorem modStore_quiet (f : Store → Store) (s : State)
    (h : (f s.store).state = .loading ↔ s.store.state = .loading) : Quiet s (s.modStore f) :=
  .ofSlots (by simp) rfl h (by simp) rfl (fun _ => rfl) rfl

theorem modPort_quiet (p : PortId) (f : Port → Port) (s : State) : Quiet s (s.modPort p f) :=
  .ofSlots (by simp) (by simp) (by simp) (by simp) (by simp) (by simp) (by simp)

/-! ### The Store Controller, the alerts and the rosters -/

@[simp] theorem askWrite_state (t : Store) (p : PageIx) (content : List Byte) :
    (t.askWrite p content).state = t.state := by
  unfold Store.askWrite
  split <;> [rfl; (split <;> [rfl; (split <;> rfl)])]

theorem enqueuePage_quiet (p : PageIx) (s : State) : Quiet s (enqueuePage p s) :=
  modStore_quiet _ s (by simp)

theorem enqueuePages_quiet (ps : List PageIx) (s : State) : Quiet s (enqueuePages ps s) :=
  .foldl (fun s p => enqueuePage_quiet p s) ps s

theorem fillPlace_state {s t : State} (h : fillPlace s = some t) : t.store.state = s.store.state := by
  unfold fillPlace at h
  split at h
  · obtain ⟨p, -, rfl⟩ := Option.map_eq_some_iff.mp h
    rfl
  · cases h

theorem fillPlaces_state (n : Nat) (s : State) : (fillPlaces n s).store.state = s.store.state := by
  induction n generalizing s with
  | zero => rfl
  | succ n ih =>
    unfold fillPlaces
    split
    · rfl
    · next h => rw [ih, fillPlace_state h]

@[simp] theorem issue_state (t : Store) : t.issue.state = t.state := by
  unfold Store.issue
  split
  · rfl
  · split <;> rfl

@[simp] theorem pumpStore_state (s : State) : (pumpStore s).store.state = s.store.state := by
  simp [pumpStore, fillPlaces_state]

theorem pumpStore_quiet (s : State) : Quiet s (pumpStore s) :=
  .ofSlots (seg_pumpStore s) (pumpStore_queue s) (by simp) (by simp) (pumpStore_hubFaults s) (by simp)
    (pumpStore_alerts s)

theorem queueAlert_quiet (a : Alert) (s : State) : Quiet s (queueAlert a s) where
  seg := by simp
  queue := by simp
  loading := by simp
  bond := by simp
  fits h := by
    rw [capacitiesKept_iff] at h ⊢
    have hsame := roster_congr (queueAlert_hubFaults a s) fun j => congrArg Slot.faults (slot_queueAlert a s j)
    exact ⟨fun n => hsame n ▸ h.1 n, queueAlert_length a s⟩

theorem offerEntry_quiet (roster : Nat) (k : FaultKey) (s : State) : Quiet s (offerEntry roster k s) := by
  obtain h | ⟨a, h⟩ := offerEntry_cases roster k s
  · rw [h]; exact .refl s
  · rw [h]; exact queueAlert_quiet a s

theorem presenceAlert_quiet (i : SlotIx) (code : Byte) (s : State) : Quiet s (presenceAlert i code s) :=
  .ite (queueAlert_quiet _ s) (.refl s)

/-- A roster that is put leaves the others. -/
theorem roster_putRoster_other {n m : Fin 17} (r : FaultRoster) (s : State) (h : m ≠ n) :
    (putRoster n r s).roster m = s.roster m := by
  unfold putRoster
  by_cases hn : n.val = 0
  · rw [dif_pos hn]
    have hm : m.val ≠ 0 := fun hm => h (Fin.ext (hm.trans hn.symm))
    simp [State.roster, hm, State.slot]
  · rw [dif_neg hn]
    dsimp only
    split
    · rfl
    · by_cases hm : m.val = 0
      · simp [State.roster, hm]
      · have hne : (⟨m.val - 1, by omega⟩ : SlotIx) ≠ ⟨n.val - 1, by omega⟩ := fun he => h (Fin.ext (by
          have := congrArg Fin.val he
          simp only at this
          omega))
        simp [State.roster, hm, slot_modSlot_other _ _ hne]

@[simp] theorem putRoster_state (n : Fin 17) (r : FaultRoster) (s : State) :
    (putRoster n r s).store.state = s.store.state := by
  unfold putRoster
  split
  · rfl
  · dsimp only
    split <;> [rfl; simp [enqueuePage_eq]]

theorem putRoster_quiet (n : Fin 17) (r : FaultRoster) (s : State)
    (h : (s.roster n).records.length ≤ Config.rosterCapacity → r.records.length ≤ Config.rosterCapacity) :
    Quiet s (putRoster n r s) where
  seg := by simp
  queue := by simp
  loading := by simp
  bond j := by rw [slot_putRoster]; rfl
  fits hs := by
    rw [capacitiesKept_iff] at hs ⊢
    refine ⟨fun m => ?_, by simpa using hs.2⟩
    by_cases hm : m = n
    · subst hm
      rw [roster_putRoster]
      exact h (hs.1 m)
    · rw [roster_putRoster_other r s hm]
      exact hs.1 m

theorem enterFault_quiet (n : Fin 17) (k : FaultKey) (origin : Origin) (kind : EntryKind) (s : State) :
    Quiet s (enterFault n k origin kind s) := by
  have hput := putRoster_quiet n _ s fun h => enter_length h k origin kind s.now
  unfold enterFault
  exact .ite (hput.trans (offerEntry_quiet _ _ _)) hput

theorem openCondition_quiet (n : Fin 17) (k : FaultKey) (s : State) : Quiet s (openCondition n k s) :=
  enterFault_quiet n k _ _ s

theorem eventFault_quiet (n : Fin 17) (k : FaultKey) (s : State) : Quiet s (eventFault n k s) :=
  enterFault_quiet n k _ _ s

theorem finishFault_quiet (n : Fin 17) (k : FaultKey) (s : State) :
    Quiet s (putRoster n ((s.roster n).finish k) s) :=
  putRoster_quiet n _ s (by simp)

theorem endCondition_quiet (n : Fin 17) (k : FaultKey) (s : State) : Quiet s (endCondition n k s) :=
  finishFault_quiet n k s

/-! ### Answers and reservations -/

theorem answer_quiet (p : PortId) (status : Status) (body : List Byte) (s : State) :
    Quiet s (answer p status body s) :=
  modPort_quiet p _ s

theorem answerTo_quiet (p : Option PortId) (status : Status) (body : List Byte) (s : State) :
    Quiet s (answerTo p status body s) := by
  cases p with
  | none => exact .refl s
  | some p => exact answer_quiet p status body s

theorem answerAll_quiet (ps : List PortId) (s : State) : Quiet s (answerAll ps s) :=
  .foldl (fun s p => answer_quiet p _ _ s) ps s

theorem clearReservations_quiet (i : SlotIx) (s : State) : Quiet s (clearReservations i s) :=
  (modPort_quiet _ _ s).trans (modPort_quiet _ _ _)

/-! ### Books, outcomes and closes -/

theorem dropOutcome_quiet (i : SlotIx) (s : State) : Quiet s (dropOutcome i s) :=
  .ite (.refl s) ((modSlot_quiet i _ s).trans (enqueuePage_quiet _ _))

theorem settleOutcome_quiet (i : SlotIx) (s : State) : Quiet s (settleOutcome i s) := by
  unfold settleOutcome
  dsimp only
  split
  · exact .refl s
  · exact .ite (dropOutcome_quiet i s) (.refl s)

theorem resetWindow_quiet (i : SlotIx) (s : State) : Quiet s (resetWindow i s) :=
  (modSlot_quiet i _ s).trans (enqueuePage_quiet _ _)

theorem endFold_quiet (i : SlotIx) (b' : Book) (s : State) : Quiet s (endFold i b' s) := by
  have hbook := modSlot_quiet i (fun x => { x with book := b' }) s
  have hpage := Quiet.ite (c := bookPageChanged (s.slot i).book b' = true)
    (hbook.trans (enqueuePage_quiet (bookPage i) _)) hbook
  exact .ite hpage (hpage.trans (enqueuePage_quiet _ _))

theorem windowFeed_quiet (i : SlotIx) (amounts : Vector Nat 24) (s : State) : Quiet s (windowFeed i amounts s) :=
  .ite (.refl s) ((modSlot_quiet i _ s).trans (enqueuePage_quiet _ _))

theorem settleCloseAll_quiet (p : PortId) (s : State) : Quiet s (settleCloseAll p s) := by
  unfold settleCloseAll
  split
  · exact .refl s
  · exact .ite ((modPort_quiet p _ s).trans (answer_quiet p _ _ _)) (.refl s)

theorem noteCloseAll_quiet (p : PortId) (i : SlotIx) (r : CloseResult) (s : State) :
    Quiet s (noteCloseAll p i r s) :=
  (modPort_quiet p _ s).trans (settleCloseAll_quiet p _)

theorem finishClose_quiet (i : SlotIx) (stored : Bool) (s : State) : Quiet s (finishClose i stored s) := by
  unfold finishClose
  split
  · next port ofAll final kept _ =>
    have hidle := modSlot_quiet i (fun x => { x with close := .idle }) s
    dsimp only
    split
    · split
      · exact hidle
      · exact hidle.trans (noteCloseAll_quiet _ i _ _)
    · exact hidle.trans (answerTo_quiet port _ _ _)
  · exact .refl s
  · exact .refl s

theorem reportGroup_quiet (stored : Bool) (g : GroupRecord) (s : State) : Quiet s (reportGroup stored g s) :=
  .ite (.refl s) (finishClose_quiet _ stored s)

theorem settleGroups_quiet (s : State) : Quiet s (settleGroups s) := by
  have hend : ∀ (u : State) (g : GroupRecord), Quiet u (reportGroup (!g.failed) g u) :=
    fun u g => reportGroup_quiet _ g u
  unfold settleGroups
  exact (modStore_quiet _ s Iff.rfl).trans (.foldl hend _ _)

theorem openGroup_quiet (i : SlotIx) (s : State) : Quiet s (openGroup i s) := modStore_quiet _ s Iff.rfl

theorem closeNow_quiet (i : SlotIx) (final : Bool) (port : Option PortId) (ofAll : Bool) (s : State) :
    Quiet s (closeNow i final port ofAll s) :=
  have hcopy := modSlot_quiet i _ s
  .ite (hcopy.trans ((openGroup_quiet i _).trans (enqueuePages_quiet _ _))) (hcopy.trans (finishClose_quiet i _ _))

theorem endPolling_quiet (i : SlotIx) (final : Bool) (s : State) : Quiet s (endPolling i final s) := by
  unfold endPolling
  split
  · exact closeNow_quiet i final _ _ s
  · exact .refl s
  · exact .refl s

theorem startClose_quiet (i : SlotIx) (port : PortId) (ofAll : Bool) (s : State) :
    Quiet s (startClose i port ofAll s) :=
  .ite (modSlot_quiet i _ s) (closeNow_quiet i _ _ _ s)

theorem closeAll_quiet (p : PortId) (s : State) : Quiet s (closeAll p s) := by
  unfold closeAll
  dsimp only
  exact (modPort_quiet p _ s).trans
    ((Quiet.forSlots (fun i s => startClose_quiet i p true s) _ _).trans (settleCloseAll_quiet p _))

/-! ### Records, fault reports and images -/

theorem storeIdentity_quiet (i : SlotIx) (r : Identity) (s : State) : Quiet s (storeIdentity i r s) := by
  have hrecord := modSlot_quiet i (fun x => { x with identity := some r }) s
  unfold storeIdentity
  dsimp only
  refine Quiet.trans ?_ (settleOutcome_quiet i _)
  split
  · exact hrecord
  · exact .ite hrecord (hrecord.trans ((modSlot_quiet i _ _).trans (enqueuePage_quiet _ _)))

theorem enterOutOfRange_quiet (i : SlotIx) (items : List Nat) (s : State) : Quiet s (enterOutOfRange i items s) :=
  .foldl (fun s k => eventFault_quiet _ (keyOutOfRange k) s) items s

theorem enterLocalChange_quiet (i : SlotIx) (items : List Nat) (s : State) : Quiet s (enterLocalChange i items s) :=
  .ite (eventFault_quiet _ _ s) (.foldl (fun s k => eventFault_quiet _ (keyLocalChange (some k)) s) items s)

theorem takeFaultChange_quiet (i : SlotIx) (c : FaultChange) (s : State) : Quiet s (takeFaultChange i c s) :=
  .ite (.refl s) (.ite (enterFault_quiet _ _ _ _ s) (finishFault_quiet _ _ s))

theorem takeFaultReport_quiet (i : SlotIx) (r : FaultReport) (s : State) : Quiet s (takeFaultReport i r s) := by
  unfold takeFaultReport
  exact (Quiet.foldl (fun s c => takeFaultChange_quiet i c s) r.changes s).trans (modSlot_quiet i _ _)

theorem takeFaultPollFailure_quiet (i : SlotIx) (o : ExOutcome) (s : State) :
    Quiet s (takeFaultPollFailure i o s) := by
  have hresend := modSlot_quiet i (fun x => { x with due := { x.due with resend := true } }) s
  cases o with
  | refused _ => exact .refl s
  | silent => exact hresend
  | garbled => exact hresend
  | good _ _ => exact hresend

theorem openIfAsserted_quiet (g : SegId) (kind : LineFaultKind) (s : State) : Quiet s (openIfAsserted g kind s) :=
  .ite (openCondition_quiet _ _ s) (.refl s)

/-! ### The end of a page write -/

theorem storeAlert_quiet (k : FaultKey) (s : State) : Quiet s (storeAlert k s) := queueAlert_quiet _ s

end Sys2Proof.Machine

namespace Sys2Proof.Machine

/-! ## The agreement of segments, exchanges, deliveries, drafts and the delivery queue -/

/-- R122: the slot that the delivery in flight on a segment is for. -/
def Segment.target (x : Segment) : Option SlotIx := x.delivery.map DeliveryRecord.slot

/-- R4, R8: the slot, the asking block and the frame of the exchange in flight on a segment. -/
def Segment.line (x : Segment) : Option (SlotIx × Asker × HubFrame) :=
  x.exchange.map fun e => (e.slot, e.asker, e.frame)

theorem target_of_none {x : Segment} (h : x.delivery = none) : x.target = none := by simp [Segment.target, h]

theorem target_of_some {x : Segment} {d : DeliveryRecord} (h : x.delivery = some d) : x.target = some d.slot := by
  simp [Segment.target, h]

theorem line_of_none {x : Segment} (h : x.exchange = none) : x.line = none := by simp [Segment.line, h]

theorem line_of_some {x : Segment} {e : Exchange} (h : x.exchange = some e) :
    x.line = some (e.slot, e.asker, e.frame) := by simp [Segment.line, h]

/-- The slots that have an entry in the delivery queue. -/
def State.entries (s : State) : List SlotIx := s.queue.map DeliveryEntry.slot

/-- R31, R118, R122: `State.queueCoherent` as propositions, slot by slot and segment by segment. -/
structure Agrees (s : State) : Prop where
  nodup : s.entries.Nodup
  entry : ∀ i, i ∈ s.entries ↔ (s.slot i).draft.state = .queued ∨ (s.slot i).draft.state = .delivering
  delivering : ∀ i, (s.slot i).draft.state = .delivering ↔ (s.seg (s.slot i).seg).target = some i
  listed : ∀ i, (s.slot i).table ≠ .unlisted ∨ (s.slot i).draft.state = .clean
  placed : ∀ g i, (s.seg g).target = some i → (s.slot i).seg = g ∧ (s.slot i).inService = true
  aimed : ∀ g i a f, (s.seg g).line = some (i, a, f) →
    (s.slot i).seg = g ∧ (s.slot i).table ≠ .unlisted ∧ a ∈ f.sentFor
  owned : ∀ g i a f, (s.seg g).line = some (i, a, f) →
    (a = .delivery ∧ (s.seg g).target = some i) ∨ (a ≠ .delivery ∧ (s.seg g).target = none)

theorem hasEntry_iff (s : State) (i : SlotIx) : s.hasEntry i = true ↔ i ∈ s.entries := by
  simp [State.hasEntry, State.entries]

theorem delivers_iff (s : State) (i : SlotIx) : s.delivers i = true ↔ (s.seg (s.slot i).seg).target = some i := by
  unfold State.delivers Segment.target
  cases (s.seg (s.slot i).seg).delivery <;> simp

theorem deliveryPlaced_iff (s : State) (g : SegId) :
    s.deliveryPlaced g = true ↔
      ∀ i, (s.seg g).target = some i → (s.slot i).seg = g ∧ (s.slot i).inService = true := by
  unfold State.deliveryPlaced Segment.target
  cases (s.seg g).delivery <;> simp

theorem listed_iff (x : Slot) : x.listed = true ↔ x.table ≠ .unlisted := by simp [Slot.listed]

theorem exchangePlaced_iff (s : State) (g : SegId) :
    s.exchangePlaced g = true ↔
      ∀ i a f, (s.seg g).line = some (i, a, f) →
        (s.slot i).seg = g ∧ (s.slot i).table ≠ .unlisted ∧ a ∈ f.sentFor := by
  unfold State.exchangePlaced Segment.line
  cases (s.seg g).exchange with
  | none => simp
  | some e => simp [listed_iff, and_assoc]

theorem exchangeFits_iff (x : Segment) :
    x.exchangeFits = true ↔
      ∀ i a f, x.line = some (i, a, f) →
        (a = .delivery ∧ x.target = some i) ∨ (a ≠ .delivery ∧ x.target = none) := by
  unfold Segment.exchangeFits Segment.line Segment.target
  cases x.exchange with
  | none => simp
  | some e =>
    cases x.delivery with
    | none => simp
    | some d => simp [eq_comm (a := d.slot)]

theorem beq_bool_iff (a b : Bool) : (a == b) = true ↔ (a = true ↔ b = true) := by
  rw [beq_iff_eq, Bool.eq_iff_iff]

theorem queueCoherent_iff (s : State) : s.queueCoherent = true ↔ Agrees s := by
  have hslot (i : SlotIx) :
      (s.hasEntry i == (s.slot i).submitted && ((s.slot i).draft.state == .delivering) == s.delivers i
          && ((s.slot i).listed || (s.slot i).draft.state == .clean)) = true ↔
        (i ∈ s.entries ↔ (s.slot i).draft.state = .queued ∨ (s.slot i).draft.state = .delivering)
          ∧ ((s.slot i).draft.state = .delivering ↔ (s.seg (s.slot i).seg).target = some i)
          ∧ ((s.slot i).table ≠ .unlisted ∨ (s.slot i).draft.state = .clean) := by
    rw [Bool.and_eq_true, Bool.and_eq_true, beq_bool_iff, beq_bool_iff, hasEntry_iff, delivers_iff, and_assoc]
    simp [listed_iff, Slot.submitted]
  simp only [State.queueCoherent, Bool.and_eq_true, decide_eq_true_eq, List.all_eq_true, allSlots,
    List.mem_finRange, true_implies, hslot, deliveryPlaced_iff, exchangePlaced_iff, exchangeFits_iff]
  constructor
  · rintro ⟨⟨⟨⟨⟨⟨⟨hn, hs⟩, hpa⟩, hpb⟩, hxa⟩, hxb⟩, hfa⟩, hfb⟩
    exact ⟨hn, fun i => (hs i).1, fun i => (hs i).2.1, fun i => (hs i).2.2, fun g => g.casesOn hpa hpb,
      fun g => g.casesOn hxa hxb, fun g => g.casesOn hfa hfb⟩
  · rintro ⟨hn, he, hd, hl, hp, ha, ho⟩
    exact ⟨⟨⟨⟨⟨⟨⟨hn, fun i => ⟨he i, hd i, hl i⟩⟩, hp .a⟩, hp .b⟩, ha .a⟩, ha .b⟩, ho .a⟩, ho .b⟩

/-! ### What keeps the agreement -/

/-- The agreement reads of a slot its table state, its segment and its draft's state, and of a segment the target of its
delivery and the line. -/
theorem Agrees.congr {s t : State} (h : Agrees s) (hq : t.entries = s.entries)
    (htable : ∀ j, (t.slot j).table = (s.slot j).table) (hhome : ∀ j, (t.slot j).seg = (s.slot j).seg)
    (hdraft : ∀ j, (t.slot j).draft.state = (s.slot j).draft.state)
    (htarget : ∀ g, (t.seg g).target = (s.seg g).target) (hline : ∀ g, (t.seg g).line = (s.seg g).line) :
    Agrees t where
  nodup := hq ▸ h.nodup
  entry j := by rw [hq, hdraft, h.entry]
  delivering j := by rw [hdraft, hhome, htarget, h.delivering]
  listed j := by rw [htable, hdraft]; exact h.listed j
  placed g j hg := by
    rw [htarget] at hg
    rw [hhome, Slot.inService, htable]
    exact h.placed g j hg
  aimed g j a f hg := by
    rw [hline] at hg
    rw [hhome, htable]
    exact h.aimed g j a f hg
  owned g j a f hg := by
    rw [hline] at hg
    rw [htarget]
    exact h.owned g j a f hg

theorem bond_table {x y : Slot} (h : x.bond = y.bond) : x.table = y.table := congrArg Prod.fst h

theorem bond_seg {x y : Slot} (h : x.bond = y.bond) : x.seg = y.seg := congrArg (·.2.1) h

theorem bond_draft {x y : Slot} (h : x.bond = y.bond) : x.draft.state = y.draft.state := congrArg (·.2.2.1) h

theorem bond_game {x y : Slot} (h : x.bond = y.bond) : x.game = y.game := congrArg (·.2.2.2.1) h

theorem bond_localCheck {x y : Slot} (h : x.bond = y.bond) : x.localCheck = y.localCheck := congrArg (·.2.2.2.2) h

theorem bond_inService {x y : Slot} (h : x.bond = y.bond) : x.inService = y.inService := by
  simp [Slot.inService, bond_table h]

theorem Quiet.agrees {s t : State} (q : Quiet s t) (h : Agrees s) : Agrees t :=
  h.congr (congrArg (List.map DeliveryEntry.slot) q.queue) (fun j => bond_table (q.bond j)) (fun j => bond_seg (q.bond j))
    (fun j => bond_draft (q.bond j)) (fun g => by rw [q.seg g]) (fun g => by rw [q.seg g])

/-- One slot takes a draft state, a table state and its place in the queue; its segment, the other slots and the
targets and lines of the segments stay. -/
theorem Agrees.changeSlot {s t : State} (h : Agrees s) (i : SlotIx)
    (htarget : ∀ g, (t.seg g).target = (s.seg g).target) (hline : ∀ g, (t.seg g).line = (s.seg g).line)
    (hbond : ∀ j, j ≠ i → (t.slot j).bond = (s.slot j).bond) (hhome : (t.slot i).seg = (s.slot i).seg)
    (hlisted : (s.slot i).table ≠ .unlisted → (t.slot i).table ≠ .unlisted)
    (hnodup : t.entries.Nodup) (hother : ∀ j, j ≠ i → (j ∈ t.entries ↔ j ∈ s.entries))
    (hentry : i ∈ t.entries ↔ (t.slot i).draft.state = .queued ∨ (t.slot i).draft.state = .delivering)
    (hdelivering : (t.slot i).draft.state = .delivering ↔ (s.slot i).draft.state = .delivering)
    (hservice : (t.slot i).draft.state = .delivering → (t.slot i).inService = true)
    (hclean : (t.slot i).table ≠ .unlisted ∨ (t.slot i).draft.state = .clean) : Agrees t where
  nodup := hnodup
  entry j := by
    by_cases hj : j = i
    · exact hj ▸ hentry
    · rw [hother j hj, bond_draft (hbond j hj), h.entry j]
  delivering j := by
    by_cases hj : j = i
    · subst hj
      rw [hdelivering, hhome, htarget, h.delivering]
    · rw [bond_draft (hbond j hj), bond_seg (hbond j hj), htarget, h.delivering]
  listed j := by
    by_cases hj : j = i
    · exact hj ▸ hclean
    · rw [bond_draft (hbond j hj), bond_table (hbond j hj)]
      exact h.listed j
  placed g j hg := by
    rw [htarget] at hg
    obtain ⟨hs, hv⟩ := h.placed g j hg
    by_cases hj : j = i
    · subst hj
      exact ⟨hhome.trans hs, hservice (hdelivering.mpr ((h.delivering j).mpr (hs ▸ hg)))⟩
    · rw [bond_seg (hbond j hj), bond_inService (hbond j hj)]
      exact ⟨hs, hv⟩
  aimed g j a f hg := by
    rw [hline] at hg
    obtain ⟨hs, hl, hf⟩ := h.aimed g j a f hg
    by_cases hj : j = i
    · subst hj
      exact ⟨hhome.trans hs, hlisted hl, hf⟩
    · rw [bond_seg (hbond j hj), bond_table (hbond j hj)]
      exact ⟨hs, hl, hf⟩
  owned g j a f hg := by
    rw [hline] at hg
    rw [htarget]
    exact h.owned g j a f hg

/-- R127, R130: the delivery in flight on a segment without an exchange ends: its slot's draft leaves Delivering. -/
theorem Agrees.endDelivery {s t : State} (h : Agrees s) {g : SegId} {i : SlotIx}
    (htarget : (s.seg g).target = some i)
    (hother : ∀ k, k ≠ g → (t.seg k).target = (s.seg k).target ∧ (t.seg k).line = (s.seg k).line)
    (hnone : (t.seg g).target = none) (hline : (t.seg g).line = none)
    (hbond : ∀ j, j ≠ i → (t.slot j).bond = (s.slot j).bond) (hhome : (t.slot i).seg = (s.slot i).seg)
    (htable : (t.slot i).table ≠ .unlisted)
    (hnodup : t.entries.Nodup) (hothers : ∀ j, j ≠ i → (j ∈ t.entries ↔ j ∈ s.entries))
    (hentry : i ∈ t.entries ↔ (t.slot i).draft.state = .queued)
    (hdraft : (t.slot i).draft.state ≠ .delivering) : Agrees t where
  nodup := hnodup
  entry j := by
    by_cases hj : j = i
    · subst hj
      simp [hentry, hdraft]
    · rw [hothers j hj, bond_draft (hbond j hj), h.entry j]
  delivering j := by
    by_cases hj : j = i
    · subst hj
      simp [hdraft, hhome, (h.placed g j htarget).1, hnone]
    · rw [bond_draft (hbond j hj), bond_seg (hbond j hj), h.delivering]
      by_cases hg : (s.slot j).seg = g
      · rw [hg, hnone, htarget]
        simp [Ne.symm hj]
      · rw [(hother _ hg).1]
  listed j := by
    by_cases hj : j = i
    · exact .inl (hj ▸ htable)
    · rw [bond_draft (hbond j hj), bond_table (hbond j hj)]
      exact h.listed j
  placed k j hk := by
    by_cases hg : k = g
    · rw [hg, hnone] at hk
      cases hk
    · rw [(hother k hg).1] at hk
      obtain ⟨hs, hv⟩ := h.placed k j hk
      have hj : j ≠ i := fun hj => hg (hs.symm.trans (hj ▸ (h.placed g i htarget).1))
      rw [bond_seg (hbond j hj), bond_inService (hbond j hj)]
      exact ⟨hs, hv⟩
  aimed k j a f hk := by
    by_cases hg : k = g
    · rw [hg, hline] at hk
      cases hk
    · rw [(hother k hg).2] at hk
      obtain ⟨hs, hl, hf⟩ := h.aimed k j a f hk
      have hj : j ≠ i := fun hj => hg (hs.symm.trans (hj ▸ (h.placed g i htarget).1))
      rw [bond_seg (hbond j hj), bond_table (hbond j hj)]
      exact ⟨hs, hl, hf⟩
  owned k j a f hk := by
    by_cases hg : k = g
    · rw [hg, hline] at hk
      cases hk
    · rw [(hother k hg).2] at hk
      rw [(hother k hg).1]
      exact h.owned k j a f hk

end Sys2Proof.Machine

namespace Sys2Proof.Machine

/-! ## Operations on one slot -/

/-- What no operation of a block on an exchange's outcome changes: the line parameters, the slots' segments, the
reported game-states, and
(unless a check word was taken) the local-check marks that are set; the capacities are kept, and the store does not
move into or out of Loading. -/
structure Mild (word : Prop) (s t : State) : Prop where
  params : ∀ g, (t.seg g).params = (s.seg g).params
  home : ∀ j, (t.slot j).seg = (s.slot j).seg
  loading : t.store.state = .loading ↔ s.store.state = .loading
  game : ∀ j, (t.slot j).game = (s.slot j).game
  marks : ∀ j, word ∨ ((s.slot j).localCheck = true → (t.slot j).localCheck = true)
  fits : s.capacitiesKept = true → t.capacitiesKept = true

theorem Mild.refl (word : Prop) (s : State) : Mild word s s :=
  ⟨fun _ => rfl, fun _ => rfl, Iff.rfl, fun _ => rfl, fun _ => .inr id, id⟩

theorem Mild.trans {word : Prop} {s t u : State} (h : Mild word s t) (k : Mild word t u) : Mild word s u where
  params g := (k.params g).trans (h.params g)
  home j := (k.home j).trans (h.home j)
  loading := k.loading.trans h.loading
  game j := (k.game j).trans (h.game j)
  marks j := by
    rcases h.marks j, k.marks j with ⟨hw | hm, hw' | hm'⟩
    · exact .inl hw
    · exact .inl hw
    · exact .inl hw'
    · exact .inr (hm' ∘ hm)
  fits := k.fits ∘ h.fits

theorem Mild.ite {word : Prop} {s t u : State} {c : Prop} [Decidable c] (ht : Mild word s t) (hu : Mild word s u) :
    Mild word s (if c then t else u) := by
  split <;> assumption

theorem Mild.weaken {word : Prop} {s t : State} (h : Mild False s t) : Mild word s t :=
  ⟨h.params, h.home, h.loading, h.game, fun j => .inr ((h.marks j).resolve_left id), h.fits⟩

theorem Quiet.mild {s t : State} (q : Quiet s t) (word : Prop) : Mild word s t :=
  ⟨fun g => by rw [q.seg g], fun j => bond_seg (q.bond j), q.loading, fun j => bond_game (q.bond j),
    fun j => .inr (bond_localCheck (q.bond j)).trans, q.fits⟩

/-- The slot is listed and no delivery to it is in flight, in a state that agrees. -/
structure Undelivered (i : SlotIx) (s : State) : Prop where
  agrees : Agrees s
  listed : (s.slot i).table ≠ .unlisted
  free : (s.slot i).draft.state ≠ .delivering

/-- An operation on one slot, its draft and its place in the queue: the segments and the bonds of the other slots stay,
and the agreement is kept while no delivery to the slot is in flight. -/
structure Within (i : SlotIx) (s t : State) : Prop extends Mild False s t where
  seg : ∀ g, t.seg g = s.seg g
  bond : ∀ j, j ≠ i → (t.slot j).bond = (s.slot j).bond
  keeps : Undelivered i s → Undelivered i t

theorem Quiet.within {s t : State} (q : Quiet s t) (i : SlotIx) : Within i s t :=
  { q.mild False with
    seg := q.seg, bond := fun j _ => q.bond j
    keeps := fun h => ⟨q.agrees h.agrees, (bond_table (q.bond i)).symm ▸ h.listed,
      (bond_draft (q.bond i)).symm ▸ h.free⟩ }

theorem Within.refl (i : SlotIx) (s : State) : Within i s s := (Quiet.refl s).within i

theorem Within.trans {i : SlotIx} {s t u : State} (h : Within i s t) (k : Within i t u) : Within i s u :=
  { h.toMild.trans k.toMild with
    seg := fun g => (k.seg g).trans (h.seg g), bond := fun j hj => (k.bond j hj).trans (h.bond j hj)
    keeps := k.keeps ∘ h.keeps }

theorem Within.quiet {i : SlotIx} {s t u : State} (h : Within i s t) (q : Quiet t u) : Within i s u :=
  h.trans (q.within i)

theorem Within.ite {i : SlotIx} {s t u : State} {c : Prop} [Decidable c] (ht : Within i s t) (hu : Within i s u) :
    Within i s (if c then t else u) := by
  split <;> assumption

/-! ### One slot and its entry -/

/-- What a change of one slot keeps for the Mild relation. -/
structure Slot.Kept (x y : Slot) : Prop where
  seg : y.seg = x.seg
  game : y.game = x.game
  marks : x.localCheck = true → y.localCheck = true
  faults : y.faults = x.faults

/-- A change of one slot and of the queue, which keeps the rosters, the segments and everything else. -/
theorem Within.ofSlot {s t : State} (i : SlotIx) (y : Slot) (hslots : t.slots = (s.setSlot i y).slots)
    (hseg : ∀ g, t.seg g = s.seg g) (hstore : t.store = s.store) (hhub : t.hubFaults = s.hubFaults)
    (halerts : t.alerts = s.alerts) (hkept : (s.slot i).Kept y)
    (hkeeps : Undelivered i s → Undelivered i t) : Within i s t := by
  have hslot (j : SlotIx) : t.slot j = (s.setSlot i y).slot j := by simp [State.slot, hslots]
  have hother (j : SlotIx) (hj : j ≠ i) : t.slot j = s.slot j := by rw [hslot, slot_setSlot_other s y hj]
  have hsame : t.slot i = y := by rw [hslot, slot_setSlot_same]
  have hfaults (j : SlotIx) : (t.slot j).faults = (s.slot j).faults := by
    by_cases hj : j = i
    · rw [hj, hsame, hkept.faults]
    · rw [hother j hj]
  refine ⟨⟨fun g => by rw [hseg], fun j => ?_, by rw [hstore], fun j => ?_, fun j => .inr ?_,
    fits_of_same hhub hfaults halerts⟩, hseg, fun j hj => by rw [hother j hj], hkeeps⟩
  · by_cases hj : j = i
    · rw [hj, hsame, hkept.seg]
    · rw [hother j hj]
  · by_cases hj : j = i
    · rw [hj, hsame, hkept.game]
    · rw [hother j hj]
  · by_cases hj : j = i
    · rw [hj, hsame]
      exact hkept.marks
    · rw [hother j hj]
      exact id

@[simp] theorem entries_modSlot (i : SlotIx) (f : Slot → Slot) (s : State) : (s.modSlot i f).entries = s.entries := rfl

/-- A slot's draft takes a state out of the queue, its table a state that is listed. -/
theorem modSlot_within (i : SlotIx) (f : Slot → Slot) (s : State) (hkept : (s.slot i).Kept (f (s.slot i)))
    (htable : (s.slot i).table ≠ .unlisted → (f (s.slot i)).table ≠ .unlisted)
    (hdraft : (f (s.slot i)).draft.state = .queued ↔ (s.slot i).draft.state = .queued)
    (hfree : (f (s.slot i)).draft.state = .delivering → (s.slot i).draft.state = .delivering) :
    Within i s (s.modSlot i f) :=
  .ofSlot i (f (s.slot i)) rfl (by simp) rfl rfl rfl hkept fun h => by
    have hfree' : (f (s.slot i)).draft.state ≠ .delivering := fun hd => h.free (hfree hd)
    refine ⟨h.agrees.changeSlot i (by simp) (by simp) (fun j hj => by rw [slot_modSlot_other s f hj]) (by simpa using hkept.seg)
      (by simpa using htable) h.agrees.nodup (fun j _ => Iff.rfl) ?_ (by simp [h.free, hfree'])
      (by simp [hfree']) (.inl (by simpa using htable h.listed)), by simpa using htable h.listed, by simpa using hfree'⟩
    simp [h.agrees.entry, h.free, hfree', hdraft]

theorem entries_removeEntry (i : SlotIx) (s : State) : (removeEntry i s).entries = s.entries.filter (· != i) := by
  simp [State.entries, removeEntry, List.filter_map, Function.comp_def]

@[simp] theorem mem_entries_removeEntry (i j : SlotIx) (s : State) :
    j ∈ (removeEntry i s).entries ↔ j ∈ s.entries ∧ j ≠ i := by
  simp [entries_removeEntry]

theorem entries_joinQueue (i : SlotIx) (priority : Nat) (origin : EntryOrigin) (s : State) :
    (joinQueue i priority origin s).entries = s.entries ++ [i] := by
  simp [State.entries, joinQueue]

/-- A slot's entry leaves the queue and its draft becomes Clean or Edited. -/
theorem removeEntry_modSlot_within (i : SlotIx) (f : Slot → Slot) (s : State)
    (hkept : (s.slot i).Kept (f (s.slot i)))
    (htable : (s.slot i).table ≠ .unlisted → (f (s.slot i)).table ≠ .unlisted)
    (hdraft : (f (s.slot i)).draft.state = .clean ∨ (f (s.slot i)).draft.state = .edited) :
    Within i s (removeEntry i (s.modSlot i f)) :=
  .ofSlot i (f (s.slot i)) rfl (by simp) rfl rfl rfl hkept fun h => by
    have hout : (f (s.slot i)).draft.state ≠ .delivering ∧ (f (s.slot i)).draft.state ≠ .queued := by
      rcases hdraft with hd | hd <;> simp [hd]
    refine ⟨h.agrees.changeSlot i (by simp) (by simp) (fun j hj => by simp [slot_modSlot_other s f hj])
      (by simpa using hkept.seg) (by simpa using htable) (by simpa [entries_removeEntry] using h.agrees.nodup.filter _)
      (fun j hj => by simp [hj]) (by simp [hout]) (by simp [h.free, hout])
      (by simp [hout]) (.inl (by simpa using htable h.listed)), by simpa using htable h.listed, by simp [hout]⟩

/-- A slot's draft that has no entry becomes Queued, its entry joining the queue. -/
theorem joinQueue_modSlot_within (i : SlotIx) (f : Slot → Slot) (priority : Nat) (origin : EntryOrigin) (s : State)
    (hkept : (s.slot i).Kept (f (s.slot i))) (htable : (f (s.slot i)).table = (s.slot i).table)
    (hdraft : (f (s.slot i)).draft.state = .queued) (hout : (s.slot i).draft.state ≠ .queued) :
    Within i s (joinQueue i priority origin (s.modSlot i f)) :=
  .ofSlot i (f (s.slot i)) rfl (by simp) rfl rfl rfl hkept fun h => by
    have hnew : i ∉ s.entries := fun hm => ((h.agrees.entry i).mp hm).elim hout h.free
    refine ⟨h.agrees.changeSlot i (by simp) (by simp) (fun j hj => by simp [slot_modSlot_other s f hj])
      (by simpa using hkept.seg) (by simp [htable]) ?_ (fun j hj => by simp [entries_joinQueue, hj])
      (by simp [entries_joinQueue, hdraft]) (by simp [h.free, hdraft]) (by simp [hdraft])
      (.inl (by simpa [htable] using h.listed)), by simpa [htable] using h.listed, by simp [hdraft]⟩
    rw [entries_joinQueue]
    exact h.agrees.nodup.append (List.nodup_singleton i) (by simpa using hnew)

/-! ### Images, drafts and outcomes -/

theorem applyOutcome_within (i : SlotIx) (level : Nat) (s : State) (hclean : (s.slot i).draft.state = .clean) :
    Within i s (applyOutcome i level s) := by
  unfold applyOutcome
  exact (joinQueue_modSlot_within i _ _ _ s ⟨rfl, rfl, id, rfl⟩ rfl rfl (by simp [hclean])).quiet
    ((clearReservations_quiet i _).trans (enqueuePage_quiet _ _))

theorem offerOutcome_within (i : SlotIx) (s : State) : Within i s (offerOutcome i s) := by
  unfold offerOutcome
  dsimp only
  split
  · exact .refl i s
  · split
    · exact (dropOutcome_quiet i s).within i
    · split
      · next hclean => exact applyOutcome_within i _ s hclean
      · exact .refl i s

theorem takeOutcome_within (i : SlotIx) (base level : Nat) (s : State) : Within i s (takeOutcome i base level s) :=
  .ite (.refl i s) (.ite ((dropOutcome_quiet i s).within i)
    ((((modSlot_quiet i _ s).trans (enqueuePage_quiet _ _)).within i).trans (offerOutcome_within i _)))

theorem evaluate_within (i : SlotIx) (s : State) : Within i s (evaluate i s) :=
  ((resetWindow_quiet i s).within i).trans (takeOutcome_within i _ _ _)

theorem windowTest_within (i : SlotIx) (s : State) : Within i s (windowTest i s) :=
  .ite (evaluate_within i s) (.refl i s)

theorem takeReport_within (i : SlotIx) (role : FoldRole) (report : MeterReport) (s : State) :
    Within i s (takeReport i role report s) := by
  unfold takeReport
  dsimp only
  have hgaps (l : List (Fin 24)) := Quiet.foldl (fun u (m : Fin 24) =>
    eventFault_quiet (rosterOfSlot i) (keyDiscontinuity m.val) u) l s
  exact (((((hgaps _).trans (endFold_quiet i _ _)).trans (windowFeed_quiet i _ _)).within i).trans
    (windowTest_within i _)).quiet (modSlot_quiet i _ _)

theorem unreadImages_within (i : SlotIx) (s : State) : Within i s (unreadImages i s) := by
  unfold unreadImages
  exact (removeEntry_modSlot_within i _ s ⟨rfl, rfl, id, rfl⟩ id (.inl rfl)).quiet
    ((clearReservations_quiet i _).trans (enqueuePage_quiet _ _))

theorem followActive_within (i : SlotIx) (s : State) : Within i s (followActive i s) := by
  unfold followActive
  split
  · next h =>
    exact modSlot_within i _ s ⟨rfl, rfl, id, rfl⟩ id (by simp [h, Slot.withCleanDraft, Draft.cleanOver])
      (by simp [Slot.withCleanDraft, Draft.cleanOver])
  · exact modSlot_within i _ s ⟨rfl, rfl, id, rfl⟩ id Iff.rfl id
  · exact removeEntry_modSlot_within i _ s ⟨rfl, rfl, id, rfl⟩ id (.inr rfl)
  · exact .refl i s

/-! ### Joins -/

theorem startJoin_within (i : SlotIx) (s : State) : Within i s (startJoin i s) :=
  modSlot_within i _ s ⟨rfl, rfl, id, rfl⟩ (by simp) Iff.rfl id

theorem failJoin_within (i : SlotIx) (s : State) : Within i s (failJoin i s) :=
  modSlot_within i _ s ⟨rfl, rfl, id, rfl⟩ (by simp [Slot.nowAbsent]) Iff.rfl id

theorem takeJoinFailure_within (i : SlotIx) (o : ExOutcome) (s : State) : Within i s (takeJoinFailure i o s) := by
  cases o with
  | refused _ => exact .refl i s
  | silent => exact failJoin_within i s
  | garbled => exact failJoin_within i s
  | good _ _ => exact failJoin_within i s

theorem changeModel_within (i : SlotIx) (model : Nat) (s : State) : Within i s (changeModel i model s) := by
  unfold changeModel
  have hmodel := (modSlot_quiet i (fun x => { x with model := model }) s).trans
    ((enqueuePage_quiet (rosterPage i) _).trans (eventFault_quiet (rosterOfSlot i) keyModelChanged _))
  exact ((hmodel.within i).trans (unreadImages_within i _)).quiet
    (((dropOutcome_quiet i _).trans (resetWindow_quiet i _)).trans
      ((modSlot_quiet i _ _).trans (enqueuePage_quiet _ _)))

theorem checkModel_within (i : SlotIx) (model : Nat) (s : State) : Within i s (checkModel i model s) :=
  .ite (.refl i s) (.ite (((modSlot_quiet i _ s).trans (enqueuePage_quiet _ _)).within i)
    (changeModel_within i model s))

theorem checkDraft_within (i : SlotIx) (r : Identity) (s : State) : Within i s (checkDraft i r s) := by
  unfold checkDraft
  dsimp only
  split
  · exact .refl i s
  · split
    · exact removeEntry_modSlot_within i
        (fun x => { x with
          draft := { x.draft with
            values := clampValues r.ranges x.draft.values, state := .edited, baseMoved := true } })
        s ⟨rfl, rfl, id, rfl⟩ id (.inr rfl)
    · next h => exact modSlot_within i _ s ⟨rfl, rfl, id, rfl⟩ id (by simp [h]) (by simp)
    · exact .refl i s
    · exact .refl i s

theorem checkSettings_within (i : SlotIx) (r : Identity) (s : State) : Within i s (checkSettings i r s) := by
  have hunread := (unreadImages_within i s).quiet (dropOutcome_quiet i _)
  unfold checkSettings
  split
  · exact .refl i s
  · exact .ite hunread (.ite (checkDraft_within i r s) (hunread.quiet (enterOutOfRange_quiet i _ _)))

theorem takeIdentity_within (i : SlotIx) (r : Identity) (s : State) : Within i s (takeIdentity i r s) := by
  unfold takeIdentity
  refine (((checkModel_within i r.model s).quiet (storeIdentity_quiet i r _)).trans (checkSettings_within i r _)).quiet ?_
  exact modSlot_quiet i _ _

theorem endJoinReadback_within (i : SlotIx) (r : Identity) (values : List Nat) (s : State) :
    Within i s (endJoinReadback i r values s) := by
  unfold endJoinReadback
  exact ((((enterOutOfRange_quiet i _ s).trans ((modSlot_quiet i _ _).trans (enqueuePage_quiet _ _))).within
    i).trans (followActive_within i _)).quiet (modSlot_quiet i _ _)

theorem takeJoinReadback_within (i : SlotIx) (values : List Nat) (s : State) :
    Within i s (takeJoinReadback i values s) := by
  unfold takeJoinReadback
  split
  · exact .ite (failJoin_within i s)
      (.ite (endJoinReadback_within i _ _ s) ((modSlot_quiet i _ s).within i))
  · exact .refl i s

theorem completeJoin_within (i : SlotIx) (s : State) : Within i s (completeJoin i s) := by
  unfold completeJoin
  exact (modSlot_within i _ s ⟨rfl, rfl, id, rfl⟩ (by simp) Iff.rfl id).quiet
    ((endCondition_quiet _ _ _).trans (presenceAlert_quiet i 2 _))

theorem takeMeterReport_within (i : SlotIx) (asker : Asker) (r : MeterReport) (s : State) :
    Within i s (takeMeterReport i asker r s) := by
  unfold takeMeterReport
  split
  · exact (takeReport_within i _ r s).trans (completeJoin_within i _)
  · exact (takeReport_within i _ r s).quiet (endPolling_quiet i true _)
  · exact takeReport_within i _ r s

/-! ### The local-change readback -/

theorem endLocalReadback_within (i : SlotIx) (r : Identity) (values : List Nat) (s : State) :
    Within i s (endLocalReadback i r values s) := by
  unfold endLocalReadback
  dsimp only
  have hfollow {t : State} (h : Quiet s t) : Within i s (followActive i t) :=
    (h.within i).trans (followActive_within i t)
  have hbefore := hfollow (((enterOutOfRange_quiet i (itemsOutside r.ranges values) s).trans
    ((modSlot_quiet i (fun x => { x with
        active := some (clampValues r.ranges values), readback := none
        confirmed := x.confirmed && x.active == some (clampValues r.ranges values) }) _).trans
      (enqueuePage_quiet (settingsPage i) _))).trans (enterLocalChange_quiet i
      (itemsDiffering ((s.slot i).active.getD []) (clampValues r.ranges values)) _))
  exact .ite (hbefore.quiet ((dropOutcome_quiet i _).trans (resetWindow_quiet i _))) hbefore

theorem takeLocalReadback_within (i : SlotIx) (start : Nat) (values : List Nat) (s : State) :
    Within i s (takeLocalReadback i start values s) := by
  unfold takeLocalReadback
  split
  · exact .ite (.refl i s)
      (.ite (endLocalReadback_within i _ _ s) ((modSlot_quiet i _ s).within i))
  · exact .refl i s

end Sys2Proof.Machine

namespace Sys2Proof.Machine

/-! ## The ends of a delivery -/

/-- Two states differ on the segments by the delivery record of one of them alone, which is emptied or stays for its
slot. -/
def DeliveryOnly (g : SegId) (s t : State) : Prop :=
  (∀ k, k ≠ g → t.seg k = s.seg k) ∧
    ∃ d, (d = none ∨ d.map DeliveryRecord.slot = (s.seg g).target) ∧ t.seg g = { s.seg g with delivery := d }

theorem DeliveryOnly.ofSeg {g : SegId} {s t : State} (h : ∀ k, t.seg k = s.seg k) : DeliveryOnly g s t :=
  ⟨fun k _ => h k, (s.seg g).delivery, .inr rfl, h g⟩

theorem DeliveryOnly.trans {g : SegId} {s t u : State} (h : DeliveryOnly g s t) (k : DeliveryOnly g t u) :
    DeliveryOnly g s u := by
  obtain ⟨ho, d, hd, hs⟩ := h
  obtain ⟨ko, e, he, ks⟩ := k
  have htarget : (t.seg g).target = d.map DeliveryRecord.slot := by rw [hs]; rfl
  refine ⟨fun j hj => (ko j hj).trans (ho j hj), e, ?_, by rw [ks, hs]⟩
  rcases he with rfl | he
  · exact .inl rfl
  · rcases hd with rfl | hd
    · rw [htarget, Option.map_none, Option.map_eq_none_iff] at he
      exact .inl he
    · exact .inr (he.trans (htarget.trans hd))

theorem DeliveryOnly.exchange {g : SegId} {s t : State} (h : DeliveryOnly g s t) (k : SegId) :
    (t.seg k).exchange = (s.seg k).exchange := by
  obtain ⟨ho, d, -, hs⟩ := h
  by_cases hk : k = g
  · rw [hk, hs]
  · rw [ho k hk]

theorem DeliveryOnly.target {g : SegId} {s t : State} (h : DeliveryOnly g s t) :
    (t.seg g).target = none ∨ (t.seg g).target = (s.seg g).target := by
  obtain ⟨-, d, hd, hs⟩ := h
  have htarget : (t.seg g).target = d.map DeliveryRecord.slot := by rw [hs]; rfl
  rw [htarget]
  exact hd.imp (fun hn => by rw [hn]; rfl) id

theorem modSeg_mild (g : SegId) (f : Segment → Segment) (s : State)
    (hf : ∀ y, (f y).params = y.params := by intro; rfl) : Mild False s (s.modSeg g f) where
  params k := by
    by_cases hk : k = g
    · rw [hk, seg_modSeg_same, hf]
    · rw [seg_modSeg_other s f hk]
  home := by simp
  loading := by simp
  game := by simp
  marks := by simp
  fits := fits_of_same (modSeg_hubFaults s g f) (fun j => by rw [slot_modSeg]) (modSeg_alerts s g f)

theorem setDraftState_eq (i : SlotIx) (d : DraftState) (s : State) :
    setDraftState i d s = s.modSlot i fun x => { x with draft := { x.draft with state := d } } := rfl

theorem modSlot_mild (i : SlotIx) (f : Slot → Slot) (s : State)
    (hf : (s.slot i).Kept (f (s.slot i))) : Mild False s (s.modSlot i f) := by
  have hslot (j : SlotIx) : (s.slot j).Kept ((s.modSlot i f).slot j) := by
    by_cases hj : j = i
    · rw [hj, slot_modSlot_same]; exact hf
    · rw [slot_modSlot_other s f hj]; exact ⟨rfl, rfl, id, rfl⟩
  exact ⟨by simp, fun j => (hslot j).seg, Iff.rfl, fun j => (hslot j).game, fun j => .inr (hslot j).marks,
    fits_of_same rfl (fun j => (hslot j).faults) rfl⟩

theorem withdrawEntry_within (i : SlotIx) (port : Option PortId) (s : State) :
    Within i s (withdrawEntry i port s) := by
  unfold withdrawEntry
  split
  · exact .refl i s
  · exact (removeEntry_modSlot_within i _ s ⟨rfl, rfl, id, rfl⟩ id (.inr rfl)).quiet (answerTo_quiet _ _ _ _)

/-- R127, R130: a draft returned to Queued, the delivery record empty. -/
def returned (g : SegId) (i : SlotIx) (s : State) : State :=
  (setDraftState i .queued s).modSeg g fun x => { x with delivery := none }

theorem returnToQueue_eq (g : SegId) (i : SlotIx) (s : State) :
    returnToQueue g i s = match (returned g i s).entry i with
      | none => returned g i s
      | some e => if e.withdrawal then withdrawEntry i e.withdrawPort (returned g i s) else returned g i s := rfl

theorem returnToQueue_within (g : SegId) (i : SlotIx) (s : State) :
    Within i (returned g i s) (returnToQueue g i s) := by
  rw [returnToQueue_eq]
  split
  · exact .refl i _
  · exact .ite (withdrawEntry_within i _ _) (.refl i _)

theorem returned_mild (g : SegId) (i : SlotIx) (s : State) : Mild False s (returned g i s) :=
  (modSlot_mild i _ s ⟨rfl, rfl, id, rfl⟩).trans (modSeg_mild g _ _)

theorem returnToQueue_mild (g : SegId) (i : SlotIx) (s : State) : Mild False s (returnToQueue g i s) :=
  (returned_mild g i s).trans (returnToQueue_within g i s).toMild

theorem suspendDelivery_mild (g : SegId) (s : State) : Mild False s (suspendDelivery g s) := by
  unfold suspendDelivery
  split
  · exact .refl _ s
  · exact returnToQueue_mild g _ s

@[simp] theorem seg_returned_same (g : SegId) (i : SlotIx) (s : State) :
    (returned g i s).seg g = { s.seg g with delivery := none } := by
  simp [returned, setDraftState]

theorem seg_returned_other {g k : SegId} (i : SlotIx) (s : State) (h : k ≠ g) :
    (returned g i s).seg k = s.seg k := by
  simp [returned, setDraftState, seg_modSeg_other _ _ h]

@[simp] theorem slot_returned_same (g : SegId) (i : SlotIx) (s : State) :
    (returned g i s).slot i = { s.slot i with draft := { (s.slot i).draft with state := .queued } } := by
  simp [returned, setDraftState]

theorem slot_returned_other (g : SegId) {i j : SlotIx} (s : State) (h : j ≠ i) :
    (returned g i s).slot j = s.slot j := by
  simp [returned, setDraftState, slot_modSlot_other _ _ h]

@[simp] theorem returned_queue (g : SegId) (i : SlotIx) (s : State) : (returned g i s).queue = s.queue := by
  simp [returned, setDraftState]

theorem returned_deliveryOnly (g : SegId) (i : SlotIx) (s : State) : DeliveryOnly g s (returned g i s) :=
  ⟨fun _ hk => seg_returned_other i s hk, none, .inl rfl, seg_returned_same g i s⟩

theorem returnToQueue_deliveryOnly (g : SegId) (i : SlotIx) (s : State) : DeliveryOnly g s (returnToQueue g i s) :=
  (returned_deliveryOnly g i s).trans (.ofSeg (returnToQueue_within g i s).seg)

theorem suspendDelivery_deliveryOnly (g : SegId) (s : State) : DeliveryOnly g s (suspendDelivery g s) := by
  unfold suspendDelivery
  split
  · exact .ofSeg fun _ => rfl
  · exact returnToQueue_deliveryOnly g _ s

@[simp] theorem delivery_returnToQueue (g : SegId) (i : SlotIx) (s : State) :
    ((returnToQueue g i s).seg g).delivery = none := by
  rw [(returnToQueue_within g i s).seg g, seg_returned_same]

@[simp] theorem delivery_suspendDelivery (g : SegId) (s : State) : ((suspendDelivery g s).seg g).delivery = none := by
  unfold suspendDelivery
  split
  · assumption
  · exact delivery_returnToQueue g _ s

/-- One slot's table state (or another field that no delivery reads) may have changed between two states. -/
structure Retabled (i : SlotIx) (s t : State) : Prop where
  seg : ∀ g, t.seg g = s.seg g
  entries : t.entries = s.entries
  bond : ∀ j, j ≠ i → (t.slot j).bond = (s.slot j).bond
  home : (t.slot i).seg = (s.slot i).seg
  draft : (t.slot i).draft.state = (s.slot i).draft.state
  listed : (t.slot i).table ≠ .unlisted

theorem Retabled.quiet {i : SlotIx} {s t u : State} (h : Retabled i s t) (q : Quiet t u) : Retabled i s u where
  seg g := (q.seg g).trans (h.seg g)
  entries := (congrArg (List.map DeliveryEntry.slot) q.queue).trans h.entries
  bond j hj := (q.bond j).trans (h.bond j hj)
  home := (bond_seg (q.bond i)).trans h.home
  draft := (bond_draft (q.bond i)).trans h.draft
  listed := (bond_table (q.bond i)).symm ▸ h.listed

theorem Retabled.refl {i : SlotIx} {s : State} (h : (s.slot i).table ≠ .unlisted) : Retabled i s s :=
  ⟨fun _ => rfl, rfl, fun _ _ => rfl, rfl, rfl, h⟩

theorem modSlot_retabled (i : SlotIx) (f : Slot → Slot) (s : State) (hseg : (f (s.slot i)).seg = (s.slot i).seg)
    (hdraft : (f (s.slot i)).draft.state = (s.slot i).draft.state) (hlisted : (f (s.slot i)).table ≠ .unlisted) :
    Retabled i s (s.modSlot i f) :=
  ⟨by simp, rfl, fun j hj => by rw [slot_modSlot_other s f hj], by simpa using hseg, by simpa using hdraft,
    by simpa using hlisted⟩

/-- R57: while no delivery to it is in flight, a listed slot may take any table state that is listed. -/
theorem Retabled.agrees {i : SlotIx} {s t : State} (r : Retabled i s t) (h : Agrees s)
    (hfree : (s.slot i).draft.state ≠ .delivering) : Agrees t :=
  h.changeSlot i (fun g => by rw [r.seg]) (fun g => by rw [r.seg]) r.bond r.home (fun _ => r.listed)
    (r.entries ▸ h.nodup) (fun j _ => by rw [r.entries]) (by rw [r.entries, r.draft]; exact h.entry i) (by rw [r.draft])
    (fun hd => absurd (r.draft ▸ hd) hfree) (.inl r.listed)

/-- The delivery in flight to a slot, on a segment without an exchange, returned to the queue: the agreement holds
although the slot's table state may have changed just before. -/
theorem Agrees.returned {s t : State} {g : SegId} {i : SlotIx} (h : Agrees s) (r : Retabled i s t)
    (hidle : (s.seg g).exchange = none) (htarget : (s.seg g).target = some i) : Undelivered i (returned g i t) := by
  have hin : i ∈ s.entries :=
    (h.entry i).mpr (.inr ((h.delivering i).mpr ((h.placed g i htarget).1.symm ▸ htarget)))
  have hentries : (Machine.returned g i t).entries = s.entries := by
    rw [State.entries, returned_queue]
    exact r.entries
  refine ⟨h.endDelivery htarget (fun k hk => ?_) (by simp [Segment.target])
    (by simp [Segment.line, r.seg, hidle]) (fun j hj => ?_) (by simpa using r.home) (by simpa using r.listed)
    (hentries ▸ h.nodup) (fun j _ => by rw [hentries]) (by simp [hentries, hin]) (by simp), by simpa using r.listed,
    by simp⟩
  · rw [seg_returned_other i t hk, r.seg]
    exact ⟨rfl, rfl⟩
  · rw [slot_returned_other g t hj, r.bond j hj]

/-- R127, R130, R134: the delivery in flight to a slot ends with its draft Queued, or Edited by a withdrawal. -/
theorem Agrees.returnToQueue {s t : State} {g : SegId} {i : SlotIx} (h : Agrees s) (r : Retabled i s t)
    (hidle : (s.seg g).exchange = none) (htarget : (s.seg g).target = some i) :
    Undelivered i (returnToQueue g i t) :=
  (returnToQueue_within g i t).keeps (h.returned r hidle htarget)

theorem suspendDelivery_of_target {g : SegId} {i : SlotIx} {s : State} (h : (s.seg g).target = some i) :
    suspendDelivery g s = returnToQueue g i s := by
  unfold suspendDelivery
  unfold Segment.target at h
  split
  · next hd => simp [hd] at h
  · next d hd =>
    simp only [hd, Option.map_some, Option.some.injEq] at h
    rw [h]

theorem suspendDelivery_of_none {g : SegId} {s : State} (h : (s.seg g).target = none) : suspendDelivery g s = s := by
  unfold suspendDelivery
  unfold Segment.target at h
  rw [Option.map_eq_none_iff.mp h]

/-- R130: on a segment without an exchange the delivery in flight may be suspended. -/
theorem Agrees.suspendDelivery {s : State} {g : SegId} (h : Agrees s) (hidle : (s.seg g).exchange = none) :
    Agrees (suspendDelivery g s) := by
  cases htarget : (s.seg g).target with
  | none => rwa [suspendDelivery_of_none htarget]
  | some i =>
    have hlisted : (s.slot i).table ≠ .unlisted := fun hu => by
      have := (h.placed g i htarget).2
      simp [Slot.inService, hu] at this
    rw [suspendDelivery_of_target htarget]
    exact (h.returnToQueue (.refl hlisted) hidle htarget).agrees

/-! ### Leaving Active and Caution (R57) -/

/-- R57: the delivery in flight to a slot, if any, suspended. -/
def suspendOwn (i : SlotIx) (s : State) : State :=
  if s.delivers i then suspendDelivery (s.slot i).seg s else s

theorem leaveService_eq (i : SlotIx) (s : State) :
    leaveService i s = endPolling i false ((suspendOwn i s).modSlot i Slot.withReadbackReset) := rfl

theorem suspendOwn_of_target {i : SlotIx} {s : State} (h : (s.seg (s.slot i).seg).target = some i) :
    suspendOwn i s = returnToQueue (s.slot i).seg i s := by
  rw [suspendOwn, if_pos ((delivers_iff s i).mpr h), suspendDelivery_of_target h]

theorem suspendOwn_of_other {i : SlotIx} {s : State} (h : (s.seg (s.slot i).seg).target ≠ some i) :
    suspendOwn i s = s := by
  rw [suspendOwn, if_neg (mt (delivers_iff s i).mp h)]

theorem leaveService_quiet (i : SlotIx) (s : State) : Quiet (suspendOwn i s) (leaveService i s) :=
  (modSlot_quiet i _ _).trans (endPolling_quiet i false _)

theorem suspendOwn_mild (i : SlotIx) (s : State) : Mild False s (suspendOwn i s) :=
  .ite (suspendDelivery_mild _ s) (.refl _ s)

theorem leaveService_mild (i : SlotIx) (s : State) : Mild False s (leaveService i s) :=
  (suspendOwn_mild i s).trans ((leaveService_quiet i s).mild False)

theorem suspendOwn_deliveryOnly (i : SlotIx) (s : State) : DeliveryOnly (s.slot i).seg s (suspendOwn i s) := by
  unfold suspendOwn
  split
  · exact suspendDelivery_deliveryOnly _ s
  · exact .ofSeg fun _ => rfl

theorem leaveService_deliveryOnly (i : SlotIx) (s : State) : DeliveryOnly (s.slot i).seg s (leaveService i s) :=
  (suspendOwn_deliveryOnly i s).trans (.ofSeg (leaveService_quiet i s).seg)

/-- R57: a table leaves Active and Caution on a segment without an exchange. -/
theorem Agrees.leaveService {s t : State} {i : SlotIx} (h : Agrees s) (r : Retabled i s t)
    (hidle : (s.seg (s.slot i).seg).exchange = none) : Undelivered i (leaveService i t) := by
  have hown : Undelivered i (suspendOwn i t) := by
    have htarget : (t.seg (t.slot i).seg).target = (s.seg (s.slot i).seg).target := by rw [r.home, r.seg]
    by_cases hd : (s.slot i).draft.state = .delivering
    · have hs := (h.delivering i).mp hd
      rw [suspendOwn_of_target (htarget.trans hs), r.home]
      exact h.returnToQueue r hidle hs
    · rw [suspendOwn_of_other (htarget.symm ▸ fun hs => hd ((h.delivering i).mpr hs))]
      exact ⟨r.agrees h hd, r.listed, r.draft.symm ▸ hd⟩
  exact ((leaveService_quiet i t).within i).keeps hown

theorem absentBySilence_mild (i : SlotIx) (s : State) : Mild False s (absentBySilence i s) := by
  unfold absentBySilence
  dsimp only
  have ht := modSlot_mild i (fun x => { x.nowAbsent with due := { x.due with probe := 0 } }) s ⟨rfl, rfl, id, rfl⟩
  have hu : Mild False s (presenceAlert i 1 (if (s.slot i).table = .caution then
      endCondition (rosterOfSlot i) keyCaution _ else _)) :=
    (Mild.ite (ht.trans ((endCondition_quiet _ _ _).mild _)) ht).trans ((presenceAlert_quiet i 1 _).mild _)
  exact .ite (hu.trans (leaveService_mild i _)) hu

theorem isolate_mild (i : SlotIx) (score : Nat) (s : State) : Mild False s (isolate i score s) := by
  unfold isolate
  exact (modSlot_mild i _ s ⟨rfl, rfl, id, rfl⟩).trans ((((endCondition_quiet _ _ _).trans
    (openCondition_quiet _ _ _)).mild _).trans (leaveService_mild i _))

theorem absentByRequest_mild (i : SlotIx) (s : State) : Mild False s (absentByRequest i s) := by
  unfold absentByRequest
  dsimp only
  have ht := modSlot_mild i (fun x => { x.nowAbsent with
    due := { x.due with probe := Config.timerCeiling, more := false } }) s ⟨rfl, rfl, id, rfl⟩
  exact (Mild.ite (ht.trans ((endCondition_quiet _ _ _).mild _)) ht).trans (leaveService_mild i _)

theorem linkScore_mild (i : SlotIx) (o : ExOutcome) (s : State) : Mild False s (linkScore i o s) := by
  unfold linkScore
  dsimp only
  have ht := modSlot_mild i (fun x => { x with
    score := nextScore (s.slot i).score o, silent := nextSilent (s.slot i).silent o }) s ⟨rfl, rfl, id, rfl⟩
  refine .ite (absentBySilence_mild i s) (.ite (isolate_mild i _ s) (.ite ?_ (.ite ?_ ht)))
  · exact (ht.trans (modSlot_mild i _ _ ⟨rfl, rfl, id, rfl⟩)).trans ((openCondition_quiet _ _ _).mild _)
  · exact (ht.trans (modSlot_mild i _ _ ⟨rfl, rfl, id, rfl⟩)).trans ((endCondition_quiet _ _ _).mild _)

end Sys2Proof.Machine

namespace Sys2Proof.Machine

/-! ## The taking of an outcome (R8) -/

/-- An exchange of a slot for a block has just ended on a segment: the state agrees, no exchange is in flight on the
segment, the slot is a listed one of it, and a delivery in flight on it is that of the slot, whose exchange it was. -/
structure Served (g : SegId) (i : SlotIx) (a : Asker) (s : State) : Prop where
  agrees : Agrees s
  idle : (s.seg g).exchange = none
  home : (s.slot i).seg = g
  listed : (s.slot i).table ≠ .unlisted
  owned : ∀ k, (s.seg g).target = some k → k = i ∧ a = .delivery

/-- Between two states the exchange's outcome was taken: what `Served` says is kept, and of the segments nothing but the
delivery record of this one. -/
def Takes (g : SegId) (i : SlotIx) (a : Asker) (s t : State) : Prop :=
  Served g i a s → Served g i a t ∧ DeliveryOnly g s t

theorem Takes.refl (g : SegId) (i : SlotIx) (a : Asker) (s : State) : Takes g i a s s :=
  fun h => ⟨h, .ofSeg fun _ => rfl⟩

theorem Takes.trans {g : SegId} {i : SlotIx} {a : Asker} {s t u : State} (h : Takes g i a s t)
    (k : Takes g i a t u) : Takes g i a s u := fun hs =>
  have ⟨ht, hd⟩ := h hs
  have ⟨hu, kd⟩ := k ht
  ⟨hu, hd.trans kd⟩

theorem Takes.ite {g : SegId} {i : SlotIx} {a : Asker} {s t u : State} {c : Prop} [Decidable c]
    (ht : Takes g i a s t) (hu : Takes g i a s u) : Takes g i a s (if c then t else u) := by
  split <;> assumption

/-- The taking from what it leaves: the agreement, the slot's segment and listing, and the segments. -/
theorem Served.next {g : SegId} {i : SlotIx} {a : Asker} {s t : State} (h : Served g i a s) (hd : DeliveryOnly g s t)
    (ha : Agrees t) (hhome : (t.slot i).seg = (s.slot i).seg) (hl : (t.slot i).table ≠ .unlisted) :
    Served g i a t ∧ DeliveryOnly g s t :=
  ⟨⟨ha, (hd.exchange g).trans h.idle, hhome.trans h.home, hl, fun k hk => by
    rcases hd.target with hn | hs
    · rw [hn] at hk
      cases hk
    · exact h.owned k (hs ▸ hk)⟩, hd⟩

theorem Served.free {g : SegId} {i : SlotIx} {a : Asker} {s : State} (h : Served g i a s) (ha : a ≠ .delivery) :
    Undelivered i s :=
  ⟨h.agrees, h.listed, fun hd => ha (h.owned i (h.home ▸ (h.agrees.delivering i).mp hd)).2⟩

/-- An operation on the slot alone is a taking while the exchange was none of a delivery. -/
theorem Within.takes {i : SlotIx} {s t : State} (w : Within i s t) (g : SegId) {a : Asker} (ha : a ≠ .delivery) :
    Takes g i a s t := fun h =>
  have ht := w.keeps (h.free ha)
  h.next (.ofSeg w.seg) ht.agrees (w.home i) ht.listed

theorem Quiet.takes {s t : State} (q : Quiet s t) (g : SegId) (i : SlotIx) (a : Asker) : Takes g i a s t := fun h =>
  h.next (.ofSeg q.seg) (q.agrees h.agrees) (bond_seg (q.bond i)) ((bond_table (q.bond i)).symm ▸ h.listed)

/-- A change of the slot that keeps its table state, its segment and its draft's state is a taking. -/
theorem modSlot_takes (g : SegId) (i : SlotIx) (a : Asker) (f : Slot → Slot) (s : State)
    (htable : ∀ x, (f x).table = x.table := by intro; rfl) (hseg : ∀ x, (f x).seg = x.seg := by intro; rfl)
    (hdraft : ∀ x, (f x).draft.state = x.draft.state := by intro; rfl) : Takes g i a s (s.modSlot i f) := fun h => by
  have hslot (j : SlotIx) : ((s.modSlot i f).slot j).table = (s.slot j).table
      ∧ ((s.modSlot i f).slot j).seg = (s.slot j).seg
      ∧ ((s.modSlot i f).slot j).draft.state = (s.slot j).draft.state := by
    by_cases hj : j = i
    · subst hj
      simp [htable, hseg, hdraft]
    · simp [slot_modSlot_other s f hj]
  exact h.next (.ofSeg (by simp)) (h.agrees.congr rfl (fun j => (hslot j).1) (fun j => (hslot j).2.1)
    (fun j => (hslot j).2.2) (by simp) (by simp)) (hslot i).2.1 ((hslot i).1.symm ▸ h.listed)

/-! ### The roster's part (R29, R45 to R48) -/

theorem Served.leaveService {g : SegId} {i : SlotIx} {a : Asker} {s t : State} (h : Served g i a s)
    (r : Retabled i s t) : Served g i a (leaveService i t) ∧ DeliveryOnly g s (leaveService i t) := by
  have hhome : (t.slot i).seg = g := r.home.trans h.home
  have hu := h.agrees.leaveService r (h.home.symm ▸ h.idle)
  have hd : DeliveryOnly g t (Machine.leaveService i t) := hhome ▸ leaveService_deliveryOnly i t
  exact h.next ((DeliveryOnly.ofSeg r.seg).trans hd) hu.agrees
    (((leaveService_mild i t).home i).trans r.home) hu.listed

theorem Served.retabled {g : SegId} {i : SlotIx} {a : Asker} {s t : State} (h : Served g i a s)
    (r : Retabled i s t) (hfree : (s.slot i).draft.state ≠ .delivering) :
    Served g i a t ∧ DeliveryOnly g s t :=
  h.next (.ofSeg r.seg) (r.agrees h.agrees hfree) r.home r.listed

/-- A table in a delivery is Active or Caution (R122). -/
theorem Agrees.notDelivering {s : State} (h : Agrees s) {i : SlotIx} (hs : (s.slot i).inService = false) :
    (s.slot i).draft.state ≠ .delivering := fun hd => by
  have := (h.placed _ i ((h.delivering i).mp hd)).2
  simp [hs] at this

theorem absentBySilence_takes (g : SegId) (i : SlotIx) (a : Asker) (s : State) :
    Takes g i a s (absentBySilence i s) := fun h => by
  have hbase := modSlot_retabled i (fun x => { x.nowAbsent with due := { x.due with probe := 0 } }) s rfl rfl
    (by simp [Slot.nowAbsent])
  have hr : Retabled i s (presenceAlert i 1 (if (s.slot i).table = .caution then
      endCondition (rosterOfSlot i) keyCaution _ else _)) :=
    hbase.quiet ((Quiet.ite (endCondition_quiet _ _ _) (.refl _)).trans (presenceAlert_quiet i 1 _))
  unfold absentBySilence
  dsimp only
  split
  · exact h.leaveService hr
  · next hs => exact h.retabled hr (h.agrees.notDelivering (by simpa using hs))

theorem isolate_takes (g : SegId) (i : SlotIx) (a : Asker) (score : Nat) (s : State) :
    Takes g i a s (isolate i score s) := fun h => by
  unfold isolate
  exact h.leaveService ((modSlot_retabled i _ s rfl rfl (by simp)).quiet
    ((endCondition_quiet _ _ _).trans (openCondition_quiet _ _ _)))

/-- R47: between Active and Caution a delivery to the table goes on. -/
theorem setTable_takes (g : SegId) (i : SlotIx) (a : Asker) (d : TableState) (hd : d = .active ∨ d = .caution) (s : State) :
    Takes g i a s (s.modSlot i fun x => { x with table := d }) := fun h => by
  have hin : ((s.modSlot i fun x => { x with table := d }).slot i).inService = true := by
    rcases hd with rfl | rfl <;> simp [Slot.inService]
  have hl : ((s.modSlot i fun x => { x with table := d }).slot i).table ≠ .unlisted := by
    rcases hd with rfl | rfl <;> simp
  exact h.next (.ofSeg (by simp)) (h.agrees.changeSlot i (by simp) (by simp)
    (fun j hj => by rw [slot_modSlot_other s _ hj]) (by simp) (fun _ => hl) h.agrees.nodup (fun _ _ => Iff.rfl)
    (by simpa using h.agrees.entry i) (by simp) (fun _ => hin) (.inl hl)) (by simp) hl

theorem linkScore_takes (g : SegId) (i : SlotIx) (a : Asker) (o : ExOutcome) (s : State) :
    Takes g i a s (linkScore i o s) := fun h => by
  have hscore := modSlot_takes g i a (fun x => { x with
    score := nextScore (s.slot i).score o, silent := nextSilent (s.slot i).silent o }) s
  unfold linkScore
  dsimp only
  split
  · exact absentBySilence_takes g i a s h
  · split
    · exact isolate_takes g i a _ s h
    · split
      · exact ((hscore.trans (setTable_takes g i a .caution (.inr rfl) _)).trans
          ((openCondition_quiet _ _ _).takes g i a)) h
      · split
        · exact ((hscore.trans (setTable_takes g i a .active (.inl rfl) _)).trans
            ((endCondition_quiet _ _ _).takes g i a)) h
        · exact hscore h

/-- R29: the roster takes the game-state of an outcome, if it carries one. -/
def gameTaken (i : SlotIx) (o : ExOutcome) (s : State) : State :=
  match o.gameState with
  | none => s
  | some gs => takeGameState i gs s

theorem rosterTakes_eq (i : SlotIx) (o : ExOutcome) (s : State) :
    rosterTakes i o s
      = if ((gameTaken i o s).slot i).inService then linkScore i o (gameTaken i o s) else gameTaken i o s := rfl

theorem gameTaken_slots (i : SlotIx) (o : ExOutcome) (s : State) : ∃ y, gameTaken i o s = s.setSlot i y := by
  unfold gameTaken
  split
  · exact ⟨s.slot i, (setSlot_slot s i).symm⟩
  · exact ⟨_, rfl⟩

@[simp] theorem gameTaken_store (i : SlotIx) (o : ExOutcome) (s : State) : (gameTaken i o s).store = s.store := by
  obtain ⟨y, h⟩ := gameTaken_slots i o s
  rw [h, setSlot_store]

theorem gameTaken_takes (g : SegId) (i : SlotIx) (a : Asker) (o : ExOutcome) (s : State) :
    Takes g i a s (gameTaken i o s) := by
  unfold gameTaken
  split
  · exact .refl g i a s
  · exact modSlot_takes g i a _ s

theorem rosterTakes_takes (g : SegId) (i : SlotIx) (a : Asker) (o : ExOutcome) (s : State) :
    Takes g i a s (rosterTakes i o s) :=
  have hgame := gameTaken_takes g i a o s
  .ite (hgame.trans (linkScore_takes g i a o _)) hgame

/-- R45 to R48: after the game-state the roster changes the score and the table state alone. -/
theorem rosterTakes_mild (i : SlotIx) (o : ExOutcome) (s : State) :
    Mild False (gameTaken i o s) (rosterTakes i o s) :=
  .ite (linkScore_mild i o _) (.refl False _)

/-! ### Probes (R49, R50) -/

theorem takeProbe_mild (i : SlotIx) (o : ExOutcome) (usable : Bool) (s : State) :
    Mild False s (takeProbe i o usable s) := by
  have hprobe := (modSlot_quiet i (fun x => { x with due := { x.due with probe := 0 } }) s).mild False
  have hquiet (f : Slot → Slot) (hb : ∀ x, (f x).bond = x.bond) (hf : ∀ x, (f x).faults = x.faults) :=
    hprobe.trans ((modSlot_quiet i f _ hb hf).mild False)
  unfold takeProbe
  dsimp only
  split
  · exact .ite (hprobe.trans (startJoin_within i _).toMild) hprobe
  · exact .ite (.ite (hquiet _ (fun _ => rfl) fun _ => rfl) (hprobe.trans (startJoin_within i _).toMild))
      (hquiet _ (fun _ => rfl) fun _ => rfl)
  · exact hquiet _ (fun _ => rfl) fun _ => rfl
  · exact hquiet _ (fun _ => rfl) fun _ => rfl
  · exact .ite (hquiet _ (fun _ => rfl) fun _ => rfl) (hprobe.trans (absentBySilence_mild i _))
  · exact hprobe

theorem takeProbe_takes (g : SegId) (i : SlotIx) {a : Asker} (ha : a ≠ .delivery) (o : ExOutcome) (usable : Bool)
    (s : State) : Takes g i a s (takeProbe i o usable s) := by
  have hprobe := (modSlot_quiet i (fun x => { x with due := { x.due with probe := 0 } }) s).takes g i a
  have hquiet (f : Slot → Slot) (hb : ∀ x, (f x).bond = x.bond) (hf : ∀ x, (f x).faults = x.faults) :=
    hprobe.trans ((modSlot_quiet i f _ hb hf).takes g i a)
  unfold takeProbe
  dsimp only
  split
  · exact .ite (hprobe.trans ((startJoin_within i _).takes g ha)) hprobe
  · exact .ite (.ite (hquiet _ (fun _ => rfl) fun _ => rfl) (hprobe.trans ((startJoin_within i _).takes g ha)))
      (hquiet _ (fun _ => rfl) fun _ => rfl)
  · exact hquiet _ (fun _ => rfl) fun _ => rfl
  · exact hquiet _ (fun _ => rfl) fun _ => rfl
  · exact .ite (hquiet _ (fun _ => rfl) fun _ => rfl) (hprobe.trans (absentBySilence_takes g i a _))
  · exact hprobe

/-! ### The Delivery Engine's part (R123 to R128) -/

/-- R126, R128: a delivery has ended, its entry gone and its draft Clean or Edited. -/
theorem Served.ended {g : SegId} {i : SlotIx} {a : Asker} {s t : State} (h : Served g i a s)
    (hother : ∀ k, k ≠ g → t.seg k = s.seg k) (hhere : t.seg g = { s.seg g with delivery := none })
    (hentries : t.entries = s.entries.filter (· != i)) (hbond : ∀ j, j ≠ i → (t.slot j).bond = (s.slot j).bond)
    (hhome : (t.slot i).seg = (s.slot i).seg) (htable : (t.slot i).table = (s.slot i).table)
    (hdraft : (t.slot i).draft.state = .clean ∨ (t.slot i).draft.state = .edited) :
    Served g i a t ∧ DeliveryOnly g s t := by
  have hout : (t.slot i).draft.state ≠ .delivering ∧ (t.slot i).draft.state ≠ .queued := by
    rcases hdraft with hd | hd <;> simp [hd]
  have hnodup : t.entries.Nodup := hentries ▸ h.agrees.nodup.filter _
  have hmem (j : SlotIx) (hj : j ≠ i) : j ∈ t.entries ↔ j ∈ s.entries := by simp [hentries, hj]
  have hentry : i ∉ t.entries := by simp [hentries]
  have hlisted : (t.slot i).table ≠ .unlisted := htable ▸ h.listed
  refine h.next ⟨hother, none, .inl rfl, hhere⟩ ?_ hhome hlisted
  cases htarget : (s.seg g).target with
  | some k =>
    obtain ⟨rfl, -⟩ := h.owned k htarget
    exact h.agrees.endDelivery htarget (fun k hk => by rw [hother k hk]; exact ⟨rfl, rfl⟩)
      (by rw [hhere]; rfl) (by rw [hhere]; exact line_of_none h.idle) hbond hhome hlisted hnodup hmem
      (by simp [hentry, hout]) hout.1
  | none =>
    have hsame (k : SegId) : (t.seg k).target = (s.seg k).target ∧ (t.seg k).line = (s.seg k).line := by
      by_cases hk : k = g
      · rw [hk, hhere, htarget]
        exact ⟨rfl, rfl⟩
      · rw [hother k hk]
        exact ⟨rfl, rfl⟩
    have hfree : (s.slot i).draft.state ≠ .delivering := fun hd => by
      have := (h.agrees.delivering i).mp hd
      rw [h.home, htarget] at this
      cases this
    exact h.agrees.changeSlot i (fun k => (hsame k).1) (fun k => (hsame k).2) hbond hhome (fun _ => hlisted) hnodup
      hmem (by simp [hentry, hout]) (by simp [hout, hfree]) (fun hd => absurd hd hout.1) (.inl hlisted)

/-- R126: the confirmed delivery, before a pending outcome is offered. -/
def delivered (g : SegId) (i : SlotIx) (s : State) : State :=
  let t := s.modSlot i fun x =>
    { x with
      active := some x.draft.values, draft := Draft.cleanOver (some x.draft.values)
      readback := none, localCheck := false, confirmed := true }
  let u := removeEntry i (enqueuePage (settingsPage i) t)
  let v := match s.entry i with
    | none => u
    | some e => if e.withdrawal then answerTo e.withdrawPort .tooLate (slotField i) u else u
  v.modSeg g fun y => { y with delivery := none }

theorem confirmDelivery_eq (g : SegId) (i : SlotIx) (s : State) :
    confirmDelivery g i s = offerOutcome i (delivered g i s) := rfl

/-- R126, R133: the answer of Too Late is the one thing in which a confirmed delivery's entry shows. -/
theorem delivered_cases (g : SegId) (i : SlotIx) (s : State) :
    ∃ u, Quiet (removeEntry i (enqueuePage (settingsPage i) (s.modSlot i fun x =>
        { x with
          active := some x.draft.values, draft := Draft.cleanOver (some x.draft.values)
          readback := none, localCheck := false, confirmed := true }))) u
      ∧ delivered g i s = u.modSeg g fun y => { y with delivery := none } := by
  unfold delivered
  dsimp only
  split
  · exact ⟨_, .refl _, rfl⟩
  · split
    · exact ⟨_, answerTo_quiet _ _ _ _, rfl⟩
    · exact ⟨_, .refl _, rfl⟩

end Sys2Proof.Machine

namespace Sys2Proof.Machine

theorem removeEntry_mild (i : SlotIx) (s : State) : Mild False s (removeEntry i s) :=
  ⟨by simp, by simp, by simp, by simp, by simp, fits_of_same (by simp) (by simp) (by simp)⟩

theorem modEntry_mild (i : SlotIx) (f : DeliveryEntry → DeliveryEntry) (s : State) : Mild False s (modEntry i f s) :=
  ⟨by simp, by simp, by simp, by simp, by simp, fits_of_same (by simp) (by simp) (by simp)⟩

/-- A change of one slot that takes a check word's verdict on its local-check mark. -/
theorem modSlot_mild_word (i : SlotIx) (f : Slot → Slot) (s : State) (hseg : ∀ x, (f x).seg = x.seg := by intro; rfl)
    (hgame : ∀ x, (f x).game = x.game := by intro; rfl) (hfaults : ∀ x, (f x).faults = x.faults := by intro; rfl) :
    Mild True s (s.modSlot i f) := by
  have hslot (j : SlotIx) : ((s.modSlot i f).slot j).seg = (s.slot j).seg
      ∧ ((s.modSlot i f).slot j).game = (s.slot j).game ∧ ((s.modSlot i f).slot j).faults = (s.slot j).faults := by
    by_cases hj : j = i
    · subst hj
      simp [hseg, hgame, hfaults]
    · simp [slot_modSlot_other s f hj]
  exact ⟨by simp, fun j => (hslot j).1, Iff.rfl, fun j => (hslot j).2.1, fun _ => .inl trivial,
    fits_of_same rfl (fun j => (hslot j).2.2) rfl⟩

theorem bond_eq {x : Slot} {d : TableState} {g : SegId} {st : DraftState}
    {gs : Option GameState} {m : Bool}
    (h : x.bond = (d, g, st, gs, m)) :
    x.table = d ∧ x.seg = g ∧ x.draft.state = st ∧ x.game = gs ∧ x.localCheck = m := by
  simpa [Slot.bond] using h

theorem delivered_mild (g : SegId) (i : SlotIx) (s : State) : Mild True s (delivered g i s) := by
  obtain ⟨u, hu, he⟩ := delivered_cases g i s
  rw [he]
  exact ((modSlot_mild_word i _ s).trans (((enqueuePage_quiet _ _).mild True).trans
    ((removeEntry_mild i _).weaken.trans (hu.mild True)))).trans (modSeg_mild g _ u).weaken

theorem delivered_takes (g : SegId) (i : SlotIx) (a : Asker) (s : State) : Takes g i a s (delivered g i s) := fun h => by
  obtain ⟨u, hu, he⟩ := delivered_cases g i s
  have hseg (k : SegId) : u.seg k = s.seg k := by rw [hu.seg]; simp
  have hsame : (u.slot i).bond = ((s.slot i).table, (s.slot i).seg, .clean, (s.slot i).game, false) := by
    rw [hu.bond]
    simp [Slot.bond, Draft.cleanOver]
  obtain ⟨htable, hhome, hdraft, -⟩ := bond_eq hsame
  rw [he]
  refine h.ended (fun k hk => by rw [seg_modSeg_other u _ hk, hseg]) (by rw [seg_modSeg_same, hseg]) ?_
    (fun j hj => ?_) ?_ ?_ (.inl ?_)
  · simp only [State.entries, modSeg_queue, hu.queue]
    exact entries_removeEntry i _
  · rw [slot_modSeg, hu.bond]
    simp [slot_modSlot_other s _ hj]
  · rw [slot_modSeg, hhome]
  · rw [slot_modSeg, htable]
  · rw [slot_modSeg, hdraft]

theorem confirmDelivery_mild (g : SegId) (i : SlotIx) (s : State) : Mild True s (confirmDelivery g i s) :=
  (delivered_mild g i s).trans (offerOutcome_within i _).toMild.weaken

/-- R145: an outcome offered to a draft that is not Delivering is part of a taking. -/
theorem confirmDelivery_takes (g : SegId) (i : SlotIx) (a : Asker) (s : State) :
    Takes g i a s (confirmDelivery g i s) := fun h => by
  obtain ⟨ht, hd⟩ := delivered_takes g i a s h
  have hclean : ((delivered g i s).slot i).draft.state = .clean := by
    obtain ⟨u, hu, he⟩ := delivered_cases g i s
    rw [he, slot_modSeg, bond_draft (hu.bond i)]
    simp [Draft.cleanOver]
  have hw := offerOutcome_within i (delivered g i s)
  have hu := hw.keeps ⟨ht.agrees, ht.listed, by simp [hclean]⟩
  obtain ⟨hs, hd'⟩ := ht.next (.ofSeg hw.seg) hu.agrees (hw.home i) hu.listed
  exact ⟨hs, hd.trans hd'⟩

/-- R128: the third mismatch, before the delivery record is emptied. -/
def divergence (i : SlotIx) (e : DeliveryEntry) (s : State) : State :=
  let t := eventFault (rosterOfSlot i) keyNotTaken (setDraftState i .edited (removeEntry i s))
  let u := queueAlert
    { kind := .diverged, slot := slotNumber i, cls := some keyNotTaken.cls, code := keyNotTaken.code
      subject := none, hit := 0, stamp := t.now } t
  if e.withdrawal then answerTo e.withdrawPort .withdrawn (withdrawnBody e) u else u

theorem diverge_eq (g : SegId) (i : SlotIx) (e : DeliveryEntry) (s : State) :
    diverge g i e s = (divergence i e s).modSeg g fun y => { y with delivery := none } := rfl

theorem divergence_quiet (i : SlotIx) (e : DeliveryEntry) (s : State) :
    Quiet (setDraftState i .edited (removeEntry i s)) (divergence i e s) :=
  have hu := (eventFault_quiet (rosterOfSlot i) keyNotTaken (setDraftState i .edited (removeEntry i s))).trans
    (queueAlert_quiet _ _)
  .ite (hu.trans (answerTo_quiet _ _ _ _)) hu

theorem diverge_mild (g : SegId) (i : SlotIx) (e : DeliveryEntry) (s : State) : Mild False s (diverge g i e s) :=
  ((removeEntry_mild i s).trans (modSlot_mild i _ _ ⟨rfl, rfl, id, rfl⟩)).trans
    (((divergence_quiet i e s).mild False).trans (modSeg_mild g (fun y => { y with delivery := none }) _))

theorem diverge_takes (g : SegId) (i : SlotIx) (a : Asker) (e : DeliveryEntry) (s : State) :
    Takes g i a s (diverge g i e s) := fun h => by
  have hu := divergence_quiet i e s
  have hseg (k : SegId) : (divergence i e s).seg k = s.seg k := by rw [hu.seg]; simp [setDraftState]
  have hsame : ((divergence i e s).slot i).bond
      = ((s.slot i).table, (s.slot i).seg, .edited, (s.slot i).game, (s.slot i).localCheck) := by
    rw [hu.bond]
    simp [Slot.bond, setDraftState]
  obtain ⟨htable, hhome, hdraft, -⟩ := bond_eq hsame
  rw [diverge_eq]
  refine h.ended (fun k hk => by rw [seg_modSeg_other _ _ hk, hseg]) (by rw [seg_modSeg_same, hseg]) ?_
    (fun j hj => ?_) ?_ ?_ (.inr ?_)
  · simp only [State.entries, modSeg_queue, hu.queue]
    exact entries_removeEntry i s
  · rw [slot_modSeg, hu.bond]
    simp [setDraftState, slot_modSlot_other _ _ hj]
  · rw [slot_modSeg, hhome]
  · rw [slot_modSeg, htable]
  · rw [slot_modSeg, hdraft]

/-- R127, R130: a draft that has an entry returns to Queued with the delivery record emptied. -/
theorem Served.returnToQueue {g : SegId} {i : SlotIx} {a : Asker} {s t : State} (h : Served g i a s)
    (r : Retabled i s t) (hin : i ∈ s.entries) :
    Served g i a (returnToQueue g i t) ∧ DeliveryOnly g s (returnToQueue g i t) := by
  have hu : Undelivered i (Machine.returnToQueue g i t) := by
    cases htarget : (s.seg g).target with
    | some k =>
      obtain ⟨rfl, -⟩ := h.owned k htarget
      exact h.agrees.returnToQueue r h.idle htarget
    | none =>
      have hfree : (s.slot i).draft.state ≠ .delivering := fun hd => by
        have := (h.agrees.delivering i).mp hd
        rw [h.home, htarget] at this
        cases this
      have hqueued : (s.slot i).draft.state = .queued := ((h.agrees.entry i).mp hin).resolve_right hfree
      have hslot (j : SlotIx) : ((returned g i t).slot j).table = (t.slot j).table
          ∧ ((returned g i t).slot j).seg = (t.slot j).seg
          ∧ ((returned g i t).slot j).draft.state = (t.slot j).draft.state := by
        by_cases hj : j = i
        · subst hj
          simp [r.draft, hqueued]
        · simp [slot_returned_other g t hj]
      have hsame (k : SegId) : ((returned g i t).seg k).target = (t.seg k).target
          ∧ ((returned g i t).seg k).line = (t.seg k).line := by
        by_cases hk : k = g
        · subst hk
          simp only [seg_returned_same, r.seg, htarget]
          exact ⟨rfl, rfl⟩
        · simp [seg_returned_other i t hk]
      refine (returnToQueue_within g i t).keeps ⟨(r.agrees h.agrees hfree).congr (by simp [State.entries])
        (fun j => (hslot j).1) (fun j => (hslot j).2.1) (fun j => (hslot j).2.2) (fun k => (hsame k).1)
        fun k => (hsame k).2, by simpa using r.listed, by simp⟩
  exact h.next ((DeliveryOnly.ofSeg r.seg).trans (returnToQueue_deliveryOnly g i t)) hu.agrees
    (((returnToQueue_mild g i t).home i).trans r.home) hu.listed

theorem entry_mem {s : State} {i : SlotIx} {e : DeliveryEntry} (h : s.entry i = some e) : i ∈ s.entries := by
  have hs : e.slot = i := by simpa using List.find?_some h
  exact hs ▸ List.mem_map_of_mem (List.mem_of_find?_eq_some h)

theorem entries_modEntry (i : SlotIx) (f : DeliveryEntry → DeliveryEntry) (hf : ∀ e, (f e).slot = e.slot) (s : State) :
    (modEntry i f s).entries = s.entries := by
  simp only [State.entries, modEntry, List.map_map]
  refine List.map_congr_left fun e _ => ?_
  simp only [Function.comp]
  split
  · exact hf e
  · rfl

theorem mismatch_mild (g : SegId) (i : SlotIx) (s : State) : Mild False s (mismatch g i s) := by
  unfold mismatch
  split
  · exact .refl _ s
  · exact .ite ((modEntry_mild i _ s).trans (returnToQueue_mild g i _)) (diverge_mild g i _ s)

theorem mismatch_takes (g : SegId) (i : SlotIx) (a : Asker) (s : State) : Takes g i a s (mismatch g i s) := fun h => by
  unfold mismatch
  split
  · exact Takes.refl g i a s h
  · next e he =>
    split
    · refine h.returnToQueue ⟨by simp, ?_, by simp, by simp, by simp, by simpa using h.listed⟩ (entry_mem he)
      exact entries_modEntry i (fun e => { e with attempts := e.attempts + 1 }) (fun _ => rfl) s
    · exact diverge_takes g i a e s h

theorem takeDeliveryWord_mild (g : SegId) (i : SlotIx) (q : BitVec 4) (reply : Nat) (s : State) :
    Mild True s (takeDeliveryWord g i q reply s) := by
  have hcheck := (modSlot_quiet i (fun x => { x with due := { x.due with check := 0 } }) s).mild True
  exact .ite (hcheck.trans (confirmDelivery_mild g i _)) (hcheck.trans (mismatch_mild g i _).weaken)

theorem takeDeliveryWord_takes (g : SegId) (i : SlotIx) (a : Asker) (q : BitVec 4) (reply : Nat) (s : State) :
    Takes g i a s (takeDeliveryWord g i q reply s) := by
  have hcheck := (modSlot_quiet i (fun x => { x with due := { x.due with check := 0 } }) s).takes g i a
  exact .ite (hcheck.trans (confirmDelivery_takes g i a _)) (hcheck.trans (mismatch_takes g i a _))

theorem takeRoutineWord_mild (i : SlotIx) (q : BitVec 4) (reply : Nat) (s : State) :
    Mild True s (takeRoutineWord i q reply s) := modSlot_mild_word i _ s

theorem suspendDelivery_takes (g : SegId) (i : SlotIx) (a : Asker) (s : State) :
    Takes g i a s (suspendDelivery g s) := fun h => by
  cases htarget : (s.seg g).target with
  | none =>
    rw [suspendDelivery_of_none htarget]
    exact Takes.refl g i a s h
  | some k =>
    obtain ⟨rfl, -⟩ := h.owned k htarget
    rw [suspendDelivery_of_target htarget]
    exact h.returnToQueue (.refl h.listed) ((h.agrees.entry _).mpr (.inr ((h.agrees.delivering _).mpr
      (h.home.symm ▸ htarget))))

/-- R122, R123: the delivery record after an Item Ack is still that of its slot. -/
theorem modDelivery_takes (g : SegId) (i : SlotIx) (a : Asker) (f : DeliveryRecord → DeliveryRecord) (s : State)
    (hf : ∀ d, (f d).slot = d.slot) :
    Takes g i a s (s.modSeg g fun y => { y with delivery := y.delivery.map f }) := fun h => by
  have hmap : ((s.seg g).delivery.map f).map DeliveryRecord.slot = (s.seg g).target := by
    simp [Segment.target, Function.comp_def, hf]
  have hsame (k : SegId) : ((s.modSeg g fun y => { y with delivery := y.delivery.map f }).seg k).target
      = (s.seg k).target ∧ ((s.modSeg g fun y => { y with delivery := y.delivery.map f }).seg k).line
        = (s.seg k).line := by
    by_cases hk : k = g
    · subst hk
      rw [seg_modSeg_same]
      exact ⟨hmap, rfl⟩
    · rw [seg_modSeg_other s _ hk]
      exact ⟨rfl, rfl⟩
  exact h.next ⟨fun k hk => seg_modSeg_other s _ hk, _, .inr hmap, seg_modSeg_same s g _⟩
    (h.agrees.congr (by simp [State.entries]) (by simp) (by simp) (by simp) (fun k => (hsame k).1)
      fun k => (hsame k).2) (by simp) (by simpa using h.listed)

theorem takeItemAck_takes (g : SegId) (i : SlotIx) (a : Asker) (k n : Nat) (gs : GameState) (s : State) :
    Takes g i a s (takeItemAck g i k n gs s) := by
  have hmark := Takes.ite (c := 1 ≤ n) (modSlot_takes g i a (fun x => { x with localCheck := true }) s)
    (.refl g i a s)
  unfold takeItemAck
  dsimp only
  have hack := hmark.trans (modDelivery_takes g i a (fun d =>
    if n = k then
      { d with
        acked := d.acked + 1
        phase := if d.changes.length ≤ 8 * (d.acked + 1) then .check else .items }
    else { d with phase := .check }) _ fun d => by split <;> rfl)
  exact .ite hack (hack.trans (suspendDelivery_takes g i a _))

theorem takeItemAck_mild (g : SegId) (i : SlotIx) (k n : Nat) (gs : GameState) (s : State) :
    Mild False s (takeItemAck g i k n gs s) := by
  have hmark := Mild.ite (c := 1 ≤ n)
    (modSlot_mild i (fun x => { x with localCheck := true }) s ⟨rfl, rfl, fun _ => rfl, rfl⟩) (.refl False s)
  unfold takeItemAck
  dsimp only
  have hack := hmark.trans (modSeg_mild g (fun y => { y with
    delivery := y.delivery.map fun d =>
      if n = k then
        { d with
          acked := d.acked + 1
          phase := if d.changes.length ≤ 8 * (d.acked + 1) then .check else .items }
      else { d with phase := .check } }) _)
  exact .ite hack (hack.trans (suspendDelivery_mild g _))

theorem takeItemFrame_takes (g : SegId) (i : SlotIx) (a : Asker) (k : Nat) (o : ExOutcome) (s : State) :
    Takes g i a s (takeItemFrame g i k o s) := by
  unfold takeItemFrame
  split
  · exact takeItemAck_takes g i a k _ _ s
  · exact suspendDelivery_takes g i a s

theorem takeItemFrame_mild (g : SegId) (i : SlotIx) (k : Nat) (o : ExOutcome) (s : State) :
    Mild False s (takeItemFrame g i k o s) := by
  unfold takeItemFrame
  split
  · exact takeItemAck_mild g i k _ _ s
  · exact suspendDelivery_mild g s

/-! ### The asking block and the garble counter (R8, R9) -/

/-- The outcome of an exchange as its asking block takes it: only a Check Query's answer may clear a local-check mark. -/
theorem askerTakes_mild (g : SegId) (x : Exchange) (o : ExOutcome) (s : State) :
    Mild (∃ q, x.frame = .checkQuery q) s (askerTakes g x o s) := by
  unfold askerTakes
  dsimp only
  split
  · exact (takeProbe_mild _ o _ s).weaken
  · split
    · exact (takeIdentity_within _ _ s).toMild.weaken
    · exact (takeJoinFailure_within _ o s).toMild.weaken
  · split
    · exact (takeMeterReport_within _ _ _ s).toMild.weaken
    · exact .ite (takeJoinFailure_within _ o s).toMild.weaken (.refl _ s)
  · split
    · exact (takeFaultReport_quiet _ _ s).mild _
    · exact (takeFaultPollFailure_quiet _ o s).mild _
  · exact (takeItemFrame_mild g _ _ o s).weaken
  · next q hq =>
    have hword : (∃ q, x.frame = .checkQuery q) = True := eq_true ⟨q, hq⟩
    rw [hword]
    split
    · exact .ite (takeDeliveryWord_mild g _ q _ s) (takeRoutineWord_mild _ q _ s)
    · exact .ite (suspendDelivery_mild g s).weaken (.refl _ s)
  · split
    · exact .ite (takeJoinReadback_within _ _ s).toMild.weaken (takeLocalReadback_within _ _ _ s).toMild.weaken
    · exact .ite (takeJoinFailure_within _ o s).toMild.weaken (.refl _ s)

/-- R19: a frame of a delivery is an Item Frame or a Check Query. -/
theorem asker_ne_delivery {f : HubFrame} {a : Asker} (h : a ∈ f.sentFor) (hi : ∀ items, f ≠ .itemFrame items)
    (hc : ∀ q, f ≠ .checkQuery q) : a ≠ .delivery := by
  rintro rfl
  cases f <;> simp [HubFrame.sentFor] at h hi hc

theorem askerTakes_takes (g : SegId) (x : Exchange) (o : ExOutcome) (s : State) (hsent : x.asker ∈ x.frame.sentFor) :
    Takes g x.slot x.asker s (askerTakes g x o s) := by
  have hne := asker_ne_delivery hsent
  unfold askerTakes
  dsimp only
  split
  · next hf => exact takeProbe_takes g _ (hne (by simp [hf]) (by simp [hf])) o _ s
  · next hf =>
    have ha := hne (by simp [hf]) (by simp [hf])
    split
    · exact (takeIdentity_within _ _ s).takes g ha
    · exact (takeJoinFailure_within _ o s).takes g ha
  · next hf =>
    have ha := hne (by simp [hf]) (by simp [hf])
    split
    · exact (takeMeterReport_within _ _ _ s).takes g ha
    · exact .ite ((takeJoinFailure_within _ o s).takes g ha) (.refl g _ _ s)
  · split
    · exact (takeFaultReport_quiet _ _ s).takes g _ _
    · exact (takeFaultPollFailure_quiet _ o s).takes g _ _
  · exact takeItemFrame_takes g _ _ _ o s
  · split
    · exact .ite (takeDeliveryWord_takes g _ _ _ _ s) (modSlot_takes g _ _ _ s)
    · exact .ite (suspendDelivery_takes g _ _ s) (.refl g _ _ s)
  · next hf =>
    have ha := hne (by simp [hf]) (by simp [hf])
    split
    · exact .ite ((takeJoinReadback_within _ _ s).takes g ha) ((takeLocalReadback_within _ _ _ s).takes g ha)
    · exact .ite ((takeJoinFailure_within _ o s).takes g ha) (.refl g _ _ s)

end Sys2Proof.Machine

namespace Sys2Proof.Machine

/-! ## Coherence between the commands -/

/-- R13, R15, R31, R118, R122, R132, R175: `State.coherent` as propositions. -/
structure Coherent (s : State) : Prop where
  agrees : Agrees s
  sound : ∀ g, (s.seg g).sound = true
  quiet : s.store.state = .loading → (∀ g, (s.seg g).state = .halted) ∧ s.queue = []

theorem coherent_iff (s : State) : s.coherent = true ↔ Coherent s := by
  have hquiet : s.loadingQuiet = true ↔
      (s.store.state = .loading → (s.segA.state = .halted ∧ s.segB.state = .halted) ∧ s.queue = []) := by
    by_cases h : s.store.state = .loading <;> simp [State.loadingQuiet, h]
  rw [State.coherent, Bool.and_eq_true, Bool.and_eq_true, queueCoherent_iff, hquiet, State.segmentsSound,
    Bool.and_eq_true]
  constructor
  · rintro ⟨⟨⟨ha, hb⟩, hq⟩, hl⟩
    exact ⟨hq, fun g => g.casesOn ha hb, fun h => ⟨fun g => g.casesOn (hl h).1.1 (hl h).1.2, (hl h).2⟩⟩
  · rintro ⟨hq, hs, hl⟩
    exact ⟨⟨⟨hs .a, hs .b⟩, hq⟩, fun h => ⟨⟨(hl h).1 .a, (hl h).1 .b⟩, (hl h).2⟩⟩

/-- R13, R15, R132: `Segment.sound` as propositions. -/
theorem sound_iff (x : Segment) :
    x.sound = true ↔
      (x.state = .running ∨ (x.exchange = none ∧ x.delivery = none ∧ x.haltPending = false))
        ∧ (x.driverOn = true → x.exchange ≠ none) ∧ (x.haltPending = true → x.exchange ≠ none)
        ∧ (x.haltPending = true ∨ x.haltWaiters = []) := by
  have hd : (!x.driverOn || x.exchange.isSome) = true ↔ (x.driverOn = true → x.exchange ≠ none) := by
    cases x.driverOn <;> simp [Option.isSome_iff_ne_none]
  have hp : (!x.haltPending || x.exchange.isSome) = true ↔ (x.haltPending = true → x.exchange ≠ none) := by
    cases x.haltPending <;> simp [Option.isSome_iff_ne_none]
  simp only [Segment.sound, Bool.and_eq_true, hd, hp]
  simp [and_assoc]

/-- R13: a segment without an exchange and a delivery, the driver off and no halt pending, is sound. -/
theorem sound_of_still {x : Segment} (he : x.exchange = none) (hd : x.delivery = none) (hp : x.haltPending = false)
    (hw : x.haltWaiters = []) (ho : x.driverOn = false) : x.sound = true := by
  simp [sound_iff, he, hd, hp, hw, ho]

/-- The end of a delivery leaves a segment sound. -/
theorem sound_setDelivery {x : Segment} (h : x.sound = true) {d : Option DeliveryRecord}
    (hd : d = none ∨ d.map DeliveryRecord.slot = x.target) : Segment.sound { x with delivery := d } = true := by
  rw [sound_iff] at h ⊢
  refine ⟨h.1.imp_right fun ⟨he, hn, hp⟩ => ⟨he, ?_, hp⟩, h.2⟩
  rcases hd with rfl | hd
  · rfl
  · rwa [target_of_none hn, Option.map_eq_none_iff] at hd

theorem Quiet.coherent {s t : State} (q : Quiet s t) (h : Coherent s) : Coherent t :=
  ⟨q.agrees h.agrees, fun g => by rw [q.seg]; exact h.sound g, fun hl => by
    obtain ⟨hs, hq⟩ := h.quiet (q.loading.mp hl)
    exact ⟨fun g => by rw [q.seg]; exact hs g, q.queue.trans hq⟩⟩

theorem DeliveryOnly.sound {g : SegId} {s t : State} (h : DeliveryOnly g s t) (hs : ∀ k, (s.seg k).sound = true)
    (k : SegId) : (t.seg k).sound = true := by
  obtain ⟨ho, d, hd, he⟩ := h
  by_cases hk : k = g
  · rw [hk, he]
    exact sound_setDelivery (hs g) hd
  · rw [ho k hk]
    exact hs k

theorem Within.coherent {i : SlotIx} {s t : State} (w : Within i s t) (h : Coherent s) (hu : Undelivered i s)
    (hlive : s.store.state ≠ .loading) : Coherent t :=
  ⟨(w.keeps hu).agrees, fun g => by rw [w.seg]; exact h.sound g, fun hl => absurd (w.loading.mp hl) hlive⟩

/-- A change of a segment that keeps the target of its delivery and its line. -/
theorem Agrees.modSeg {s : State} (h : Agrees s) (g : SegId) (f : Segment → Segment)
    (ht : (f (s.seg g)).target = (s.seg g).target) (hl : (f (s.seg g)).line = (s.seg g).line) :
    Agrees (s.modSeg g f) := by
  have hsame (k : SegId) : ((s.modSeg g f).seg k).target = (s.seg k).target
      ∧ ((s.modSeg g f).seg k).line = (s.seg k).line := by
    by_cases hk : k = g
    · rw [hk, seg_modSeg_same]
      exact ⟨ht, hl⟩
    · rw [seg_modSeg_other s f hk]
      exact ⟨rfl, rfl⟩
  exact h.congr (by simp [State.entries]) (by simp) (by simp) (by simp) (fun k => (hsame k).1) fun k => (hsame k).2

theorem Coherent.modSeg {s : State} (h : Coherent s) (g : SegId) (f : Segment → Segment)
    (ht : (f (s.seg g)).target = (s.seg g).target) (hl : (f (s.seg g)).line = (s.seg g).line)
    (hstate : (f (s.seg g)).state = (s.seg g).state) (hsound : (f (s.seg g)).sound = true) :
    Coherent (s.modSeg g f) := by
  have hseg (k : SegId) : ((s.modSeg g f).seg k).sound = true ∧ ((s.modSeg g f).seg k).state = (s.seg k).state := by
    by_cases hk : k = g
    · rw [hk, seg_modSeg_same]
      exact ⟨hsound, hstate⟩
    · rw [seg_modSeg_other s f hk]
      exact ⟨h.sound k, rfl⟩
  refine ⟨h.agrees.modSeg g f ht hl, fun k => (hseg k).1, fun hload => ?_⟩
  obtain ⟨hs, hq⟩ := h.quiet (by simpa using hload)
  exact ⟨fun k => (hseg k).2.trans (hs k), by simpa using hq⟩

/-- R8, R14: the exchange in flight on a segment goes. -/
theorem Agrees.clearLine {s : State} (h : Agrees s) (g : SegId) (f : Segment → Segment)
    (ht : (f (s.seg g)).target = (s.seg g).target) (hl : (f (s.seg g)).line = none) : Agrees (s.modSeg g f) := by
  have htarget (k : SegId) : ((s.modSeg g f).seg k).target = (s.seg k).target := by
    by_cases hk : k = g
    · rw [hk, seg_modSeg_same, ht]
    · rw [seg_modSeg_other s f hk]
  have hline (k : SegId) {x} (hx : ((s.modSeg g f).seg k).line = some x) : (s.seg k).line = some x := by
    by_cases hk : k = g
    · rw [hk, seg_modSeg_same, hl] at hx
      cases hx
    · rwa [seg_modSeg_other s f hk] at hx
  exact
    { nodup := by simpa [State.entries] using h.nodup
      entry := by simpa [State.entries] using h.entry
      delivering := fun i => by rw [slot_modSeg, htarget]; exact h.delivering i
      listed := by simpa using h.listed
      placed := fun k i hk => by rw [slot_modSeg]; exact h.placed k i (htarget k ▸ hk)
      aimed := fun k i a f' hk => by rw [slot_modSeg]; exact h.aimed k i a f' (hline k hk)
      owned := fun k i a f' hk => by rw [htarget]; exact h.owned k i a f' (hline k hk) }

/-- R4: a frame is handed over on a segment without an exchange. -/
theorem Agrees.setLine {s : State} (h : Agrees s) (g : SegId) (f : Segment → Segment) {i : SlotIx} {a : Asker}
    {fr : HubFrame} (ht : (f (s.seg g)).target = (s.seg g).target) (hl : (f (s.seg g)).line = some (i, a, fr))
    (hhome : (s.slot i).seg = g) (hlisted : (s.slot i).table ≠ .unlisted) (hsent : a ∈ fr.sentFor)
    (howned : (a = .delivery ∧ (s.seg g).target = some i) ∨ (a ≠ .delivery ∧ (s.seg g).target = none)) :
    Agrees (s.modSeg g f) := by
  have htarget (k : SegId) : ((s.modSeg g f).seg k).target = (s.seg k).target := by
    by_cases hk : k = g
    · rw [hk, seg_modSeg_same, ht]
    · rw [seg_modSeg_other s f hk]
  have hline (k : SegId) {x} (hx : ((s.modSeg g f).seg k).line = some x) :
      (k = g ∧ x = (i, a, fr)) ∨ (s.seg k).line = some x := by
    by_cases hk : k = g
    · rw [hk, seg_modSeg_same, hl, Option.some.injEq] at hx
      exact .inl ⟨hk, hx.symm⟩
    · rw [seg_modSeg_other s f hk] at hx
      exact .inr hx
  exact
    { nodup := by simpa [State.entries] using h.nodup
      entry := by simpa [State.entries] using h.entry
      delivering := fun i => by rw [slot_modSeg, htarget]; exact h.delivering i
      listed := by simpa using h.listed
      placed := fun k i hk => by rw [slot_modSeg]; exact h.placed k i (htarget k ▸ hk)
      aimed := fun k j b f' hk => by
        rw [slot_modSeg]
        rcases hline k hk with ⟨rfl, hx⟩ | hx
        · cases hx
          exact ⟨hhome, hlisted, hsent⟩
        · exact h.aimed k j b f' hx
      owned := fun k j b f' hk => by
        rw [htarget]
        rcases hline k hk with ⟨rfl, hx⟩ | hx
        · cases hx
          exact howned
        · exact h.owned k j b f' hx }

/-- R122: the delivery of a Queued draft starts on a segment with no exchange and no delivery. -/
theorem agrees_startDelivery {s : State} (h : Agrees s) {g : SegId} {i : SlotIx} (hline : (s.seg g).line = none)
    (hnone : (s.seg g).target = none) (hhome : (s.slot i).seg = g) (hservice : (s.slot i).inService = true)
    (hqueued : (s.slot i).draft.state = .queued) : Agrees (startDelivery g i s) := by
  have hsame : (startDelivery g i s).slot i
      = Slot.withReadbackReset { s.slot i with draft := { (s.slot i).draft with state := .delivering } } := by
    simp [startDelivery, setDraftState]
  have hother (j : SlotIx) (hj : j ≠ i) : (startDelivery g i s).slot j = s.slot j := by
    simp [startDelivery, setDraftState, slot_modSlot_other _ _ hj]
  have hseg : ((startDelivery g i s).seg g).target = some i ∧ ((startDelivery g i s).seg g).line = none := by
    simp only [startDelivery, setDraftState, seg_modSeg_same, seg_modSlot]
    exact ⟨rfl, hline⟩
  have hsegs (k : SegId) (hk : k ≠ g) : (startDelivery g i s).seg k = s.seg k := by
    simp [startDelivery, setDraftState, seg_modSeg_other _ _ hk]
  have hentries : (startDelivery g i s).entries = s.entries := by
    simp [State.entries, startDelivery, setDraftState]
  have hin : i ∈ s.entries := (h.entry i).mpr (.inl hqueued)
  have haway (k : SegId) (j : SlotIx) (hk : k ≠ g) (hj : (s.slot j).seg = k) : j ≠ i := fun he =>
    hk (hj.symm.trans (he ▸ hhome))
  exact
    { nodup := hentries ▸ h.nodup
      entry := fun j => by
        rw [hentries]
        by_cases hj : j = i
        · subst hj
          simp [hsame, hin, Slot.withReadbackReset]
        · rw [hother j hj, h.entry j]
      delivering := fun j => by
        by_cases hj : j = i
        · subst hj
          simp [hsame, hhome, hseg.1, Slot.withReadbackReset]
        · rw [hother j hj, h.delivering j]
          by_cases hg : (s.slot j).seg = g
          · rw [hg, hseg.1, hnone]
            simp [Ne.symm hj]
          · rw [hsegs _ hg]
      listed := fun j => by
        by_cases hj : j = i
        · subst hj
          rcases h.listed j with hl | hc
          · exact .inl (by simpa [hsame, Slot.withReadbackReset] using hl)
          · rw [hqueued] at hc
            cases hc
        · rw [hother j hj]
          exact h.listed j
      placed := fun k j hk => by
        by_cases hg : k = g
        · rw [hg, hseg.1, Option.some.injEq] at hk
          subst hk
          simp only [hsame, hg]
          exact ⟨hhome, hservice⟩
        · rw [hsegs k hg] at hk
          rw [hother j (haway k j hg (h.placed k j hk).1)]
          exact h.placed k j hk
      aimed := fun k j a f hk => by
        by_cases hg : k = g
        · rw [hg, hseg.2] at hk
          cases hk
        · rw [hsegs k hg] at hk
          rw [hother j (haway k j hg (h.aimed k j a f hk).1)]
          exact h.aimed k j a f hk
      owned := fun k j a f hk => by
        by_cases hg : k = g
        · rw [hg, hseg.2] at hk
          cases hk
        · rw [hsegs k hg] at hk ⊢
          exact h.owned k j a f hk }

/-! ### The scheduler's choice (R30 to R34) -/

/-- The segment after a frame has been handed over. -/
theorem sendFrame_quiet (g : SegId) (i : SlotIx) (f : HubFrame) (a : Asker) (s : State) :
    Quiet (s.modSeg g fun y =>
      { y with
        exchange := some
          { slot := i, address := (s.slot i).addr, frame := f, asker := a, phase := .waiting, received := [] } })
      (sendFrame g i f a s) := by
  unfold sendFrame
  dsimp only
  split
  · exact modSlot_quiet i _ _
  · exact .refl _

/-- R4, R13: a frame handed over on a Running segment with no exchange leaves the state coherent. -/
theorem Coherent.sendFrame {s : State} (h : Coherent s) {g : SegId} {i : SlotIx} {f : HubFrame} {a : Asker}
    (hrun : (s.seg g).state = .running) (hhome : (s.slot i).seg = g) (hlisted : (s.slot i).table ≠ .unlisted)
    (hsent : a ∈ f.sentFor)
    (howned : (a = .delivery ∧ (s.seg g).target = some i) ∨ (a ≠ .delivery ∧ (s.seg g).target = none)) :
    Coherent (sendFrame g i f a s) := by
  refine (sendFrame_quiet g i f a s).coherent
    ⟨h.agrees.setLine g _ rfl rfl hhome hlisted hsent howned, fun k => ?_, fun hl => ?_⟩
  · by_cases hk : k = g
    · subst hk
      rw [seg_modSeg_same, sound_iff]
      exact ⟨.inl hrun, by simp, by simp, ((sound_iff _).mp (h.sound k)).2.2.2⟩
    · rw [seg_modSeg_other s _ hk]
      exact h.sound k
  · have := (h.quiet (by simpa using hl)).1 g
    rw [hrun] at this
    cases this

theorem inService_listed {x : Slot} (h : x.inService = true) : x.table ≠ .unlisted := fun hu => by
  simp [Slot.inService, hu] at h

/-- R31: the next frame of the delivery in flight. -/
theorem Coherent.sendDelivery {s : State} (h : Coherent s) {g : SegId} {d : DeliveryRecord}
    (hrun : (s.seg g).state = .running) (hd : (s.seg g).delivery = some d) : Coherent (sendDelivery g d s) := by
  obtain ⟨hhome, hservice⟩ := h.agrees.placed g d.slot (target_of_some hd)
  unfold Machine.sendDelivery
  split
  · exact h.sendFrame hrun hhome (inService_listed hservice) (by simp [HubFrame.sentFor])
      (.inl ⟨rfl, target_of_some hd⟩)
  · dsimp only
    have hq : Coherent (s.modSeg g fun y =>
        { y with delivery := some { d with question := some (s.slot d.slot).question } }) :=
      h.modSeg g _ (target_of_some hd).symm rfl rfl (sound_setDelivery (h.sound g) (.inr (target_of_some hd).symm))
    refine hq.sendFrame (by simpa using hrun) (by simpa using hhome) (by simpa using inService_listed hservice)
      (by simp [HubFrame.sentFor]) (.inl ⟨rfl, ?_⟩)
    rw [seg_modSeg_same]
    rfl

/-- R35, R36: what is due is for a listed table, and asked for by one of its frame's blocks. -/
theorem dueExchange_sent {p : LineParams} {x : Slot} {f : HubFrame} {a : Asker} (h : dueExchange p x = some (f, a)) :
    x.table ≠ .unlisted ∧ a ∈ f.sentFor ∧ a ≠ .delivery := by
  unfold dueExchange at h
  split at h
  · cases h
  all_goals
    next ht =>
      repeat' split at h
      all_goals cases h
      all_goals simp [ht, HubFrame.sentFor]

theorem mem_slotsOf {s : State} {g : SegId} {i : SlotIx} :
    i ∈ s.slotsOf g ↔ (s.slot i).table ≠ .unlisted ∧ (s.slot i).seg = g := by
  simp [State.slotsOf, allSlots, listed_iff]

theorem mem_visitOrder {p : Option SlotIx} {l : List SlotIx} {i : SlotIx} (h : i ∈ visitOrder p l) : i ∈ l := by
  unfold visitOrder at h
  split at h
  · exact h
  · simp only [List.mem_append, List.mem_filter] at h
    exact h.elim And.left And.left

theorem Coherent.routineVisit {s : State} (h : Coherent s) {g : SegId} (hrun : (s.seg g).state = .running)
    (hnone : (s.seg g).target = none) : Coherent (routineVisit g s) := by
  unfold Machine.routineVisit
  split
  · exact h
  · next i hi =>
    have hmem := mem_slotsOf.mp (mem_visitOrder (List.mem_of_find?_eq_some hi))
    split
    · exact h
    · next f a hdue =>
      obtain ⟨-, hsent, hne⟩ := dueExchange_sent hdue
      have hp : Coherent (s.modSeg g fun y => { y with pointer := some i }) := h.modSeg g _ rfl rfl rfl (h.sound g)
      refine hp.sendFrame (by simpa using hrun) (by simpa using hmem.2) (by simpa using hmem.1) hsent (.inr ⟨hne, ?_⟩)
      rw [seg_modSeg_same]
      exact hnone

theorem foldl_sooner_mem (es : List DeliveryEntry) (e : DeliveryEntry) :
    es.foldl sooner e = e ∨ es.foldl sooner e ∈ es := by
  induction es generalizing e with
  | nil => exact .inl rfl
  | cons b bs ih =>
    rw [List.foldl_cons]
    rcases ih (sooner e b) with h | h
    · rw [h]
      unfold sooner
      split
      · exact .inr (by simp)
      · exact .inl rfl
    · exact .inr (by simp [h])

/-- R33: the entry picked is an eligible one of the queue. -/
theorem pickEntry_mem {g : SegId} {s : State} {e : DeliveryEntry} (h : pickEntry g s = some e) :
    e ∈ s.queue ∧ eligible g s e = true := by
  unfold pickEntry at h
  rw [← List.mem_filter]
  cases hl : s.queue.filter (eligible g s) with
  | nil => simp [hl, pickOf] at h
  | cons b bs =>
    simp only [hl, pickOf, Option.some.injEq] at h
    rcases foldl_sooner_mem bs b with hb | hb
    · simp [← h, hb]
    · exact List.mem_cons_of_mem _ (h ▸ hb)

theorem Coherent.startDelivery {s : State} (h : Coherent s) {g : SegId} {i : SlotIx}
    (hrun : (s.seg g).state = .running) (hidle : (s.seg g).exchange = none) (hnone : (s.seg g).delivery = none)
    (hhome : (s.slot i).seg = g) (hservice : (s.slot i).inService = true)
    (hqueued : (s.slot i).draft.state = .queued) : Coherent (startDelivery g i s) := by
  refine ⟨agrees_startDelivery h.agrees (line_of_none hidle) (target_of_none hnone) hhome hservice hqueued, fun k => ?_,
    fun hl => ?_⟩
  · by_cases hk : k = g
    · subst hk
      obtain ⟨-, hdriver, hpending, hwaiters⟩ := (sound_iff _).mp (h.sound k)
      simp only [Machine.startDelivery, setDraftState, seg_modSeg_same, seg_modSlot, sound_iff]
      exact ⟨.inl hrun, hdriver, hpending, hwaiters⟩
    · simp only [Machine.startDelivery, setDraftState, seg_modSeg_other _ _ hk, seg_modSlot]
      exact h.sound k
  · have := (h.quiet (by simpa [Machine.startDelivery, setDraftState] using hl)).1 g
    rw [hrun] at this
    cases this

/-- R30 to R34: the choice at an opportunity leaves the state coherent. -/
theorem Coherent.choose {s : State} (h : Coherent s) (g : SegId) : Coherent (choose g s) := by
  unfold Machine.choose
  split
  · exact h
  · next hop =>
    simp only [Segment.opportunity, Bool.not_eq_true, Bool.not_eq_false', Bool.and_eq_true, beq_iff_eq,
      Option.isNone_iff_eq_none] at hop
    obtain ⟨⟨hrun, hidle⟩, -⟩ := hop
    split
    · next d hd => exact h.sendDelivery hrun hd
    · next hnone =>
      split
      · next i hi =>
        have hmem := mem_slotsOf.mp (List.mem_of_find?_eq_some hi)
        exact h.sendFrame hrun hmem.2 hmem.1 (by simp [HubFrame.sentFor]) (.inr ⟨by simp, target_of_none hnone⟩)
      · split
        · next e he =>
          have hel := (pickEntry_mem he).2
          simp only [eligible, Bool.and_eq_true, beq_iff_eq] at hel
          obtain ⟨⟨⟨hhome, hqueued⟩, hservice⟩, -⟩ := hel
          have hstart := h.startDelivery hrun hidle hnone hhome hservice hqueued
          dsimp only
          split
          · next d hd =>
            exact hstart.sendDelivery (by simpa [Machine.startDelivery, setDraftState] using hrun) hd
          · exact hstart
        · exact h.routineVisit hrun (target_of_none hnone)

end Sys2Proof.Machine

namespace Sys2Proof.Machine

/-! ### The garble counter and the end of an exchange -/

/-- R9, R10: what a rise, a fall or a reset of the garble counter changes of the segments: the counter and the Noisy
mark. -/
def GarbleOnly (g : SegId) (s t : State) : Prop :=
  ∃ n b, Quiet (s.modSeg g fun y => { y with garble := n, noisy := b }) t

theorem garbleOnly_refl (g : SegId) (s : State) : GarbleOnly g s s :=
  ⟨(s.seg g).garble, (s.seg g).noisy, by
    have : (s.modSeg g fun y => { y with garble := (s.seg g).garble, noisy := (s.seg g).noisy }) = s :=
      setSeg_seg s g
    rw [this]
    exact .refl s⟩

theorem garbleRise_garbleOnly (g : SegId) (s : State) : GarbleOnly g s (garbleRise g s) := by
  unfold garbleRise
  dsimp only
  split
  · exact ⟨(s.seg g).garble + 1, (s.seg g).noisy, .refl _⟩
  · split
    · exact garbleOnly_refl g s
    · exact ⟨(s.seg g).garble, true, openCondition_quiet 0 _ _⟩

theorem garbleFall_garbleOnly (g : SegId) (s : State) : GarbleOnly g s (garbleFall g s) := by
  unfold garbleFall
  dsimp only
  split
  · refine ⟨(s.seg g).garble - 1, false, ?_⟩
    simp only [modSeg_def, seg_setSeg_same, setSeg_setSeg]
    exact endCondition_quiet 0 _ _
  · exact ⟨(s.seg g).garble - 1, (s.seg g).noisy, .refl _⟩

theorem garbleReset_garbleOnly (g : SegId) (s : State) : GarbleOnly g s (garbleReset g s) :=
  ⟨0, false, endCondition_quiet 0 _ _⟩

theorem garbleTakes_garbleOnly (g : SegId) (o : ExOutcome) (s : State) : GarbleOnly g s (garbleTakes g o s) := by
  cases o with
  | silent => exact garbleOnly_refl g s
  | garbled => exact garbleRise_garbleOnly g s
  | refused _ => exact garbleFall_garbleOnly g s
  | good _ _ => exact garbleFall_garbleOnly g s

theorem GarbleOnly.mild {g : SegId} {s t : State} (h : GarbleOnly g s t) (word : Prop) : Mild word s t := by
  obtain ⟨n, b, q⟩ := h
  exact (modSeg_mild g _ s).weaken.trans (q.mild word)

theorem GarbleOnly.agrees {g : SegId} {s t : State} (h : GarbleOnly g s t) (ha : Agrees s) : Agrees t := by
  obtain ⟨n, b, q⟩ := h
  exact q.agrees (ha.modSeg g _ rfl rfl)

theorem GarbleOnly.coherent {g : SegId} {s t : State} (h : GarbleOnly g s t) (hc : Coherent s) : Coherent t := by
  obtain ⟨n, b, q⟩ := h
  exact q.coherent (hc.modSeg g _ rfl rfl rfl (hc.sound g))

theorem GarbleOnly.seg {g : SegId} {s t : State} (h : GarbleOnly g s t) :
    (∀ k, k ≠ g → t.seg k = s.seg k) ∧ ∃ n b, t.seg g = { s.seg g with garble := n, noisy := b } := by
  obtain ⟨n, b, q⟩ := h
  exact ⟨fun k hk => (q.seg k).trans (seg_modSeg_other s _ hk), n, b, (q.seg g).trans (seg_modSeg_same s g _)⟩

/-- R4: an exchange has left the line of a segment. -/
def cleared (g : SegId) (s : State) : State := s.modSeg g fun y => { y with exchange := none, driverOn := false }

theorem cleared_mild (g : SegId) (s : State) : Mild False s (cleared g s) := modSeg_mild g _ s

theorem Coherent.served {s : State} (h : Coherent s) {g : SegId} {x : Exchange} (hx : (s.seg g).exchange = some x) :
    Served g x.slot x.asker (cleared g s) ∧ x.asker ∈ x.frame.sentFor := by
  have hline := line_of_some hx
  obtain ⟨hhome, hlisted, hsent⟩ := h.agrees.aimed g _ _ _ hline
  refine ⟨⟨h.agrees.clearLine g _ rfl rfl, by simp [cleared], by simpa [cleared] using hhome,
    by simpa [cleared] using hlisted, fun k hk => ?_⟩, hsent⟩
  have htarget : (s.seg g).target = some k := by
    rw [cleared, seg_modSeg_same] at hk
    exact hk
  rcases h.agrees.owned g _ _ _ hline with ⟨ha, ht⟩ | ⟨-, ht⟩
  · rw [ht, Option.some.injEq] at htarget
    exact ⟨htarget.symm, ha⟩
  · rw [ht] at htarget
    cases htarget

/-- R15, R132: a segment without an exchange becomes Halted. -/
theorem haltNow_coherent {s : State} {g : SegId} (ha : Agrees s) (ho : ∀ k, k ≠ g → (s.seg k).sound = true)
    (hidle : (s.seg g).exchange = none) (hlive : s.store.state ≠ .loading) : Coherent (haltNow g s) := by
  have hsus := (ha.modSeg g (fun y =>
    { y with state := .halted, haltPending := false, haltWaiters := [], driverOn := false }) rfl rfl).suspendDelivery
      (g := g) (by simpa using hidle)
  have hdel := suspendDelivery_deliveryOnly g (s.modSeg g fun y =>
    { y with state := .halted, haltPending := false, haltWaiters := [], driverOn := false })
  have hload := (suspendDelivery_mild g (s.modSeg g fun y =>
    { y with state := .halted, haltPending := false, haltWaiters := [], driverOn := false })).loading
  refine (answerAll_quiet _ _).coherent ⟨hsus, fun k => ?_, fun hl => absurd (by simpa using hload.mp hl) hlive⟩
  obtain ⟨hother, d, -, hhere⟩ := hdel
  by_cases hk : k = g
  · have hd := delivery_suspendDelivery g (s.modSeg g fun y =>
      { y with state := .halted, haltPending := false, haltWaiters := [], driverOn := false })
    subst hk
    rw [hhere] at hd ⊢
    simp only [seg_modSeg_same] at hd ⊢
    exact sound_of_still hidle hd rfl rfl rfl
  · rw [hother k hk, seg_modSeg_other s _ hk]
    exact ho k hk

theorem haltNow_mild (g : SegId) (s : State) : Mild False s (haltNow g s) := by
  unfold haltNow
  exact (modSeg_mild g (fun y =>
    { y with state := .halted, haltPending := false, haltWaiters := [], driverOn := false }) s).trans
    ((suspendDelivery_mild g _).trans ((answerAll_quiet _ _).mild False))

theorem sendFrame_mild (g : SegId) (i : SlotIx) (f : HubFrame) (a : Asker) (s : State) :
    Mild False s (sendFrame g i f a s) :=
  (modSeg_mild g _ s).trans ((sendFrame_quiet g i f a s).mild False)

theorem sendDelivery_mild (g : SegId) (d : DeliveryRecord) (s : State) : Mild False s (sendDelivery g d s) := by
  unfold sendDelivery
  split
  · exact sendFrame_mild g _ _ _ s
  · exact (modSeg_mild g (fun y => { y with
      delivery := some { d with question := some (s.slot d.slot).question } }) s).trans (sendFrame_mild g _ _ _ _)

theorem startDelivery_mild (g : SegId) (i : SlotIx) (s : State) : Mild False s (startDelivery g i s) := by
  unfold startDelivery
  dsimp only
  exact ((modSlot_mild i _ s ⟨rfl, rfl, id, rfl⟩).trans ((modSlot_quiet i Slot.withReadbackReset _).mild False)).trans
    (modSeg_mild g (fun y => { y with delivery := some _ }) _)

theorem choose_mild (g : SegId) (s : State) : Mild False s (choose g s) := by
  unfold choose
  split
  · exact .refl _ s
  · split
    · exact sendDelivery_mild g _ s
    · split
      · exact sendFrame_mild g _ _ _ s
      · split
        · next e _ =>
          have hstart := startDelivery_mild g e.slot s
          dsimp only
          split
          · exact hstart.trans (sendDelivery_mild g _ _)
          · exact hstart
        · unfold routineVisit
          split
          · exact .refl _ s
          · next i _ =>
            split
            · exact .refl _ s
            · exact (modSeg_mild g (fun y => { y with pointer := some i }) s).trans (sendFrame_mild g _ _ _ _)

/-- R8: the outcome of an exchange is handed on: all but the roster's taking of the game-state. -/
theorem handOn_eq (g : SegId) (x : Exchange) (o : ExOutcome) (s : State) :
    handOn g x o s = garbleTakes g o (askerTakes g x o (rosterTakes x.slot o s)) := rfl

theorem endExchange_eq (g : SegId) (o : ExOutcome) (s : State) :
    endExchange g o s = match (s.seg g).exchange with
      | none => s
      | some x => if ((handOn g x o (cleared g s)).seg g).haltPending then haltNow g (handOn g x o (cleared g s))
        else choose g (handOn g x o (cleared g s)) := rfl

theorem handOn_mild (g : SegId) (x : Exchange) (o : ExOutcome) (s : State) :
    Mild (∃ q, x.frame = .checkQuery q) (gameTaken x.slot o s) (handOn g x o s) :=
  (rosterTakes_mild x.slot o s).weaken.trans
    ((askerTakes_mild g x o _).trans ((garbleTakes_garbleOnly g o _).mild _))

/-- R8, R9: an outcome handed on keeps the agreement, and of the segments it changes only the delivery record, the
garble counter and the Noisy mark of this one. -/
theorem Served.handOn {g : SegId} {x : Exchange} {s : State} (h : Served g x.slot x.asker s)
    (hsent : x.asker ∈ x.frame.sentFor) (o : ExOutcome) :
    Agrees (handOn g x o s) ∧ (∀ k, k ≠ g → (handOn g x o s).seg k = s.seg k)
      ∧ ∃ d n b, (handOn g x o s).seg g = { s.seg g with delivery := d, garble := n, noisy := b } := by
  obtain ⟨ht, hother, d, -, hhere⟩ :=
    ((rosterTakes_takes g x.slot x.asker o s).trans (askerTakes_takes g x o _ hsent)) h
  have hgarble := garbleTakes_garbleOnly g o (askerTakes g x o (rosterTakes x.slot o s))
  obtain ⟨gother, n, b, ghere⟩ := hgarble.seg
  exact ⟨hgarble.agrees ht.agrees, fun k hk => (gother k hk).trans (hother k hk), d, n, b, by
    rw [handOn_eq, ghere, hhere]⟩

/-- R13: an exchange is in flight on a Running segment alone, and never while the store is Loading. -/
theorem Coherent.running {s : State} (h : Coherent s) {g : SegId} {x : Exchange}
    (hx : (s.seg g).exchange = some x) : (s.seg g).state = .running ∧ s.store.state ≠ .loading := by
  have hrun : (s.seg g).state = .running := by
    rcases ((sound_iff _).mp (h.sound g)).1 with hr | ⟨hn, -⟩
    · exact hr
    · rw [hn] at hx
      cases hx
  refine ⟨hrun, fun hl => ?_⟩
  have := (h.quiet hl).1 g
  rw [hrun] at this
  cases this

/-- R8, R9, R15, R30: the end of an exchange leaves the state coherent. -/
theorem Coherent.endExchange {s : State} (h : Coherent s) (g : SegId) (o : ExOutcome) :
    Coherent (endExchange g o s) := by
  rw [endExchange_eq]
  split
  · exact h
  · next x hx =>
    obtain ⟨hserved, hsent⟩ := h.served hx
    obtain ⟨hagrees, hother, d, n, b, hhere⟩ := hserved.handOn hsent o
    obtain ⟨hrun, hlive⟩ := h.running hx
    have hlive' : (handOn g x o (cleared g s)).store.state ≠ .loading := by
      rw [Ne, (handOn_mild g x o _).loading]
      simpa [cleared] using hlive
    have hsound (k : SegId) (hk : k ≠ g) : ((handOn g x o (cleared g s)).seg k).sound = true := by
      rw [hother k hk, cleared, seg_modSeg_other s _ hk]
      exact h.sound k
    rw [cleared, seg_modSeg_same, ← cleared] at hhere
    split
    · exact haltNow_coherent hagrees hsound (by rw [hhere]) hlive'
    · next hp =>
      refine Coherent.choose ⟨hagrees, fun k => ?_, fun hl => absurd hl hlive'⟩ g
      by_cases hk : k = g
      · subst hk
        rw [hhere] at hp ⊢
        simp only [Bool.not_eq_true] at hp
        rw [sound_iff]
        exact ⟨.inl hrun, by simp, by simp [hp], ((sound_iff _).mp (h.sound k)).2.2.2⟩
      · exact hsound k hk

/-! ### Faults, halts and the entry into Starting -/

/-- R14, R130: the exchange in flight is abandoned and the delivery in flight suspended. -/
theorem abandonExchange_mild (g : SegId) (s : State) : Mild False s (abandonExchange g s) := by
  unfold abandonExchange
  split
  · exact .refl _ s
  · next x _ =>
    refine (cleared_mild g s).trans ?_
    unfold askerAbandons
    split
    · exact (modSlot_quiet _ _ _).mild _
    · exact (modSlot_quiet _ _ _).mild _
    · exact suspendDelivery_mild g _
    · exact .ite (suspendDelivery_mild g _) (.refl _ _)
    · exact .refl _ _
    · exact .refl _ _
    · exact .refl _ _

/-- R14: an abandoned exchange leaves an agreement, no exchange, and of the segments nothing else but the driver
and the delivery. -/
theorem abandonExchange_agrees {s : State} (h : Agrees s) (g : SegId) :
    Agrees (abandonExchange g s) ∧ ((abandonExchange g s).seg g).exchange = none
      ∧ (∀ k, k ≠ g → (abandonExchange g s).seg k = s.seg k)
      ∧ ∃ d b, (abandonExchange g s).seg g = { s.seg g with exchange := none, driverOn := b, delivery := d }
        ∧ (b = true → (s.seg g).exchange = none ∧ (s.seg g).driverOn = true) := by
  unfold abandonExchange
  split
  · next hn =>
    refine ⟨h, hn, fun _ _ => rfl, (s.seg g).delivery, (s.seg g).driverOn, ?_, fun hb => ⟨hn, hb⟩⟩
    rw [← hn]
  · next x hx =>
    have hclear : Agrees (cleared g s) := h.clearLine g _ rfl rfl
    have hidle : ((cleared g s).seg g).exchange = none := by simp [cleared]
    have hrest : Agrees (askerAbandons g x (cleared g s))
        ∧ DeliveryOnly g (cleared g s) (askerAbandons g x (cleared g s)) := by
      have hquiet (f : Slot → Slot) (hb : ∀ x, (f x).bond = x.bond) (hf : ∀ x, (f x).faults = x.faults) :=
        modSlot_quiet x.slot f (cleared g s) hb hf
      have hstay : Agrees (cleared g s) ∧ DeliveryOnly g (cleared g s) (cleared g s) := ⟨hclear, .ofSeg fun _ => rfl⟩
      have hsuspend := And.intro (hclear.suspendDelivery hidle) (suspendDelivery_deliveryOnly g (cleared g s))
      unfold askerAbandons
      split
      · have q := hquiet (fun y => { y with due := { y.due with probe := 0 } }) (fun _ => rfl) fun _ => rfl
        exact ⟨q.agrees hclear, .ofSeg q.seg⟩
      · have q := hquiet (fun y => { y with due := { y.due with resend := true } }) (fun _ => rfl) fun _ => rfl
        exact ⟨q.agrees hclear, .ofSeg q.seg⟩
      · exact hsuspend
      · split
        · exact hsuspend
        · exact hstay
      · exact hstay
      · exact hstay
      · exact hstay
    obtain ⟨hagrees, hdel⟩ := hrest
    refine ⟨hagrees, (hdel.exchange g).trans hidle, fun k hk => ?_, ?_⟩
    · rw [← seg_modSeg_other s (fun y => { y with exchange := none, driverOn := false }) hk]
      exact hdel.1 k hk
    · obtain ⟨-, d, -, hhere⟩ := hdel
      exact ⟨d, false, by rw [← cleared, hhere, cleared, seg_modSeg_same], by simp⟩

/-- R14, R130: after the abandonment and the suspension the segment is still, and the state agrees. -/
theorem suspend_abandon_agrees {s : State} (h : Agrees s) (g : SegId) :
    Agrees (suspendDelivery g (abandonExchange g s))
      ∧ (∀ k, k ≠ g → (suspendDelivery g (abandonExchange g s)).seg k = s.seg k)
      ∧ ∃ b, (suspendDelivery g (abandonExchange g s)).seg g
          = { s.seg g with exchange := none, driverOn := b, delivery := none }
        ∧ (b = true → (s.seg g).exchange = none ∧ (s.seg g).driverOn = true) := by
  obtain ⟨ha, hidle, hother, d, b, hhere, hb⟩ := abandonExchange_agrees h g
  obtain ⟨sother, e, -, shere⟩ := suspendDelivery_deliveryOnly g (abandonExchange g s)
  have hnone := delivery_suspendDelivery g (abandonExchange g s)
  rw [shere] at hnone
  simp only at hnone
  exact ⟨ha.suspendDelivery hidle, fun k hk => (sother k hk).trans (hother k hk), b,
    by rw [shere, hhere, hnone], hb⟩

/-- R11, R12, R15: the segment becomes Faulted, before a pending halt takes effect. -/
def faulted (g : SegId) (s : State) : State :=
  suspendDelivery g (abandonExchange g (s.modSeg g fun y => { y with state := .faulted, driverOn := false }))

theorem faultNow_eq (g : SegId) (s : State) :
    faultNow g s = if (s.seg g).haltPending then haltNow g (faulted g s) else faulted g s := rfl

theorem faulted_mild (g : SegId) (s : State) : Mild False s (faulted g s) :=
  (modSeg_mild g (fun y => { y with state := .faulted, driverOn := false }) s).trans
    ((abandonExchange_mild g _).trans (suspendDelivery_mild g _))

theorem faultNow_mild (g : SegId) (s : State) : Mild False s (faultNow g s) :=
  .ite ((faulted_mild g s).trans (haltNow_mild g _)) (faulted_mild g s)

theorem seg_faulted {s : State} (g : SegId) (ha : Agrees s) :
    Agrees (faulted g s) ∧ (∀ k, k ≠ g → (faulted g s).seg k = s.seg k)
      ∧ (faulted g s).seg g
        = { s.seg g with state := .faulted, exchange := none, driverOn := false, delivery := none } := by
  obtain ⟨hagrees, hother, b, hhere, hb⟩ := suspend_abandon_agrees
    (ha.modSeg g (fun y => { y with state := .faulted, driverOn := false }) rfl rfl) g
  have hoff : b = false := by
    cases b with
    | false => rfl
    | true => simpa using (hb rfl).2
  rw [hoff, seg_modSeg_same] at hhere
  exact ⟨hagrees, fun k hk => (hother k hk).trans (seg_modSeg_other s _ hk), hhere⟩

/-- R11, R12, R15: a segment that stops leaves the state coherent. -/
theorem Coherent.faultNow {s : State} (h : Coherent s) (g : SegId) (hstate : (s.seg g).state ≠ .halted) :
    Coherent (faultNow g s) := by
  have hlive : s.store.state ≠ .loading := fun hl => hstate ((h.quiet hl).1 g)
  have hlive' : (faulted g s).store.state ≠ .loading := mt (faulted_mild g s).loading.mp hlive
  obtain ⟨hagrees, hother, hhere⟩ := seg_faulted g h.agrees
  have hsound (k : SegId) (hk : k ≠ g) : ((faulted g s).seg k).sound = true := by
    rw [hother k hk]
    exact h.sound k
  rw [faultNow_eq]
  split
  · exact haltNow_coherent hagrees hsound (by rw [hhere]) hlive'
  · next hp =>
    refine ⟨hagrees, fun k => ?_, fun hl => absurd hl hlive'⟩
    by_cases hk : k = g
    · subst hk
      have hp' : (s.seg k).haltPending = false := by simpa using hp
      have hw := ((sound_iff _).mp (h.sound k)).2.2.2.resolve_left hp
      rw [hhere]
      exact sound_of_still rfl rfl hp' hw rfl
    · exact hsound k hk

theorem enterStarting_quiet (g : SegId) (s : State) :
    Quiet (s.modSeg g fun y =>
      { y with state := if y.inputs.asserted then .faulted else .starting, lineSpeed := y.params.speed })
      (enterStarting g s) :=
  (openIfAsserted_quiet g _ _).trans ((openIfAsserted_quiet g _ _).trans (openIfAsserted_quiet g _ _))

theorem enterStarting_mild (g : SegId) (s : State) : Mild False s (enterStarting g s) :=
  (modSeg_mild g (fun y =>
    { y with state := if y.inputs.asserted then .faulted else .starting, lineSpeed := y.params.speed }) s).trans
    ((enterStarting_quiet g s).mild False)

/-- R11, R13: a still segment enters Starting. -/
theorem Coherent.enterStarting {s : State} (h : Coherent s) (g : SegId) (hidle : (s.seg g).exchange = none)
    (hnone : (s.seg g).delivery = none) (hlive : s.store.state ≠ .loading) : Coherent (enterStarting g s) := by
  obtain ⟨-, hdriver, hpending, hwaiters⟩ := (sound_iff _).mp (h.sound g)
  have hp : (s.seg g).haltPending = false := by
    simpa using fun hp => hpending hp hidle
  refine (enterStarting_quiet g s).coherent ⟨h.agrees.modSeg g _ rfl rfl, fun k => ?_, fun hl => absurd
    (by simpa using hl) hlive⟩
  by_cases hk : k = g
  · subst hk
    rw [seg_modSeg_same]
    exact sound_of_still hidle hnone hp (hwaiters.resolve_left (by simp [hp]))
      (by simpa using fun hd => hdriver hd hidle)
  · rw [seg_modSeg_other s _ hk]
    exact h.sound k

end Sys2Proof.Machine

namespace Sys2Proof.Machine

/-! ### Requests that change slots, segments and drafts -/

theorem forSlots_induction {P : State → Prop} {f : SlotIx → State → State} (is : List SlotIx) {s : State} (h0 : P s)
    (hstep : ∀ i ∈ is, ∀ u, P u → P (f i u)) : P (s.forSlots is f) := by
  unfold State.forSlots
  induction is generalizing s with
  | nil => exact h0
  | cons i is ih =>
    rw [List.foldl_cons]
    exact ih (hstep i (by simp) s h0) fun j hj => hstep j (by simp [hj])

/-- A change of a slot that keeps its table state, its segment and its draft's state. -/
theorem Coherent.modSlot {s : State} (h : Coherent s) (i : SlotIx) (f : Slot → Slot)
    (htable : ∀ x, (f x).table = x.table := by intro; rfl) (hseg : ∀ x, (f x).seg = x.seg := by intro; rfl)
    (hdraft : ∀ x, (f x).draft.state = x.draft.state := by intro; rfl) : Coherent (s.modSlot i f) := by
  have hslot (j : SlotIx) : ((s.modSlot i f).slot j).table = (s.slot j).table
      ∧ ((s.modSlot i f).slot j).seg = (s.slot j).seg
      ∧ ((s.modSlot i f).slot j).draft.state = (s.slot j).draft.state := by
    by_cases hj : j = i
    · subst hj
      simp [htable, hseg, hdraft]
    · simp [slot_modSlot_other s f hj]
  exact ⟨h.agrees.congr rfl (fun j => (hslot j).1) (fun j => (hslot j).2.1) (fun j => (hslot j).2.2) (by simp)
    (by simp), fun g => by rw [seg_modSlot]; exact h.sound g, fun hl => by
      obtain ⟨hs, hq⟩ := h.quiet hl
      exact ⟨fun g => by rw [seg_modSlot]; exact hs g, hq⟩⟩

/-- R58: a table becomes Absent by a request or a restart, on a segment without an exchange. -/
theorem absentByRequest_coherent {s : State} (h : Coherent s) {i : SlotIx}
    (hidle : (s.seg (s.slot i).seg).exchange = none) (hlive : s.store.state ≠ .loading) :
    Coherent (absentByRequest i s) ∧ DeliveryOnly (s.slot i).seg s (absentByRequest i s) := by
  have hr : Retabled i s (if (s.slot i).table = .caution then
      endCondition (rosterOfSlot i) keyCaution (s.modSlot i fun x => { x.nowAbsent with
        due := { x.due with probe := Config.timerCeiling, more := false } }) else
      s.modSlot i fun x => { x.nowAbsent with due := { x.due with probe := Config.timerCeiling, more := false } }) :=
    (modSlot_retabled i _ s rfl rfl (by simp [Slot.nowAbsent])).quiet
      (Quiet.ite (endCondition_quiet _ _ _) (.refl _))
  have hdel : DeliveryOnly (s.slot i).seg s (absentByRequest i s) :=
    (DeliveryOnly.ofSeg hr.seg).trans (hr.home ▸ leaveService_deliveryOnly i _)
  exact ⟨⟨(h.agrees.leaveService hr hidle).agrees, hdel.sound h.sound,
    fun hl => absurd ((absentByRequest_mild i s).loading.mp hl) hlive⟩, hdel⟩

/-- An exchange or a delivery is nowhere on a segment. -/
def Still (g : SegId) (s : State) : Prop := (s.seg g).exchange = none ∧ (s.seg g).delivery = none

theorem DeliveryOnly.still {g k : SegId} {s t : State} (h : DeliveryOnly g s t) (hs : Still k s) : Still k t := by
  refine ⟨(h.exchange k).trans hs.1, ?_⟩
  obtain ⟨ho, d, hd, he⟩ := h
  by_cases hk : k = g
  · subst hk
    rw [he]
    rcases hd with rfl | hd
    · rfl
    · rwa [target_of_none hs.2, Option.map_eq_none_iff] at hd
  · rw [ho k hk]
    exact hs.2

theorem Quiet.still {s t : State} (q : Quiet s t) {g : SegId} (h : Still g s) : Still g t := by
  unfold Still
  rw [q.seg]
  exact h

theorem garbleOnly_still {g k : SegId} {s t : State} (h : GarbleOnly g s t) (hs : Still k s) : Still k t := by
  obtain ⟨ho, n, b, he⟩ := h.seg
  unfold Still
  by_cases hk : k = g
  · rw [hk] at hs ⊢
    rw [he]
    exact hs
  · rw [ho k hk]
    exact hs

/-- R13: a segment that is not Running is still. -/
theorem Coherent.still {s : State} (h : Coherent s) {g : SegId} (hg : (s.seg g).state ≠ .running) : Still g s := by
  rcases ((sound_iff _).mp (h.sound g)).1 with hr | ⟨he, hd, -⟩
  · exact absurd hr hg
  · exact ⟨he, hd⟩

/-- R16: a segment that is resumed. -/
theorem resumeNow_coherent {s : State} (h : Coherent s) {g : SegId} (hg : (s.seg g).state ≠ .running)
    (hlive : s.store.state ≠ .loading) : Coherent (resumeNow g s) := by
  have hgarble := garbleReset_garbleOnly g s
  have hloop : Coherent ((garbleReset g s).forSlots ((garbleReset g s).slotsOf g) absentByRequest)
      ∧ Still g ((garbleReset g s).forSlots ((garbleReset g s).slotsOf g) absentByRequest)
      ∧ ((garbleReset g s).forSlots ((garbleReset g s).slotsOf g) absentByRequest).store.state ≠ .loading
      ∧ ∀ j, (((garbleReset g s).forSlots ((garbleReset g s).slotsOf g) absentByRequest).slot j).seg
        = ((garbleReset g s).slot j).seg := by
    refine forSlots_induction (P := fun u => Coherent u ∧ Still g u ∧ u.store.state ≠ .loading
      ∧ ∀ j, (u.slot j).seg = ((garbleReset g s).slot j).seg) _
      ⟨hgarble.coherent h, garbleOnly_still hgarble (h.still hg), mt (hgarble.mild False).loading.mp hlive,
        fun _ => rfl⟩ ?_
    rintro i hi u ⟨hu, hstill, hl, hhome⟩
    have hseg : (u.slot i).seg = g := (hhome i).trans (mem_slotsOf.mp hi).2
    obtain ⟨hc, hdel⟩ := absentByRequest_coherent hu (hseg.symm ▸ hstill.1) hl
    exact ⟨hc, hdel.still hstill, mt (absentByRequest_mild i u).loading.mp hl,
      fun j => ((absentByRequest_mild i u).home j).trans (hhome j)⟩
  obtain ⟨hc, hstill, hl, -⟩ := hloop
  unfold resumeNow
  dsimp only
  exact (hc.modSeg g (fun y => { y with pointer := none }) rfl rfl rfl (hc.sound g)).enterStarting g
    (by rw [seg_modSeg_same]; exact hstill.1) (by rw [seg_modSeg_same]; exact hstill.2) (by simpa using hl)

/-- A slot for which nothing is in flight takes any values, its entry of the queue gone or kept. -/
theorem Agrees.replaceSlot {s t : State} (h : Agrees s) (i : SlotIx)
    (htarget : ∀ g, (t.seg g).target = (s.seg g).target) (hline : ∀ g, (t.seg g).line = (s.seg g).line)
    (hbond : ∀ j, j ≠ i → (t.slot j).bond = (s.slot j).bond)
    (hnone : ∀ g, (s.seg g).target ≠ some i) (haway : ∀ g a f, (s.seg g).line ≠ some (i, a, f))
    (hnodup : t.entries.Nodup) (hother : ∀ j, j ≠ i → (j ∈ t.entries ↔ j ∈ s.entries))
    (hentry : i ∈ t.entries ↔ (t.slot i).draft.state = .queued)
    (hfree : (t.slot i).draft.state ≠ .delivering)
    (hclean : (t.slot i).table ≠ .unlisted ∨ (t.slot i).draft.state = .clean) : Agrees t where
  nodup := hnodup
  entry j := by
    by_cases hj : j = i
    · subst hj
      simp [hentry, hfree]
    · rw [hother j hj, bond_draft (hbond j hj), h.entry j]
  delivering j := by
    by_cases hj : j = i
    · subst hj
      simp [hfree, htarget, hnone]
    · rw [bond_draft (hbond j hj), bond_seg (hbond j hj), htarget, h.delivering]
  listed j := by
    by_cases hj : j = i
    · exact hj ▸ hclean
    · rw [bond_draft (hbond j hj), bond_table (hbond j hj)]
      exact h.listed j
  placed g j hg := by
    rw [htarget] at hg
    have hj : j ≠ i := fun hj => hnone g (hj ▸ hg)
    rw [bond_seg (hbond j hj), bond_inService (hbond j hj)]
    exact h.placed g j hg
  aimed g j a f hg := by
    rw [hline] at hg
    have hj : j ≠ i := fun hj => haway g a f (hj ▸ hg)
    rw [bond_seg (hbond j hj), bond_table (hbond j hj)]
    exact h.aimed g j a f hg
  owned g j a f hg := by
    rw [hline] at hg
    rw [htarget]
    exact h.owned g j a f hg

/-- R122, R4: nothing is in flight for a slot that is Unlisted, or whose segment is still. -/
theorem Agrees.nothingFor {s : State} (h : Agrees s) {i : SlotIx}
    (hi : (s.slot i).table = .unlisted ∨ Still (s.slot i).seg s) :
    (∀ g, (s.seg g).target ≠ some i) ∧ ∀ g a f, (s.seg g).line ≠ some (i, a, f) := by
  constructor
  · intro g hg
    obtain ⟨hs, hv⟩ := h.placed g i hg
    rcases hi with hu | ⟨-, hd⟩
    · exact inService_listed hv hu
    · rw [hs] at hd
      rw [target_of_none hd] at hg
      cases hg
  · intro g a f hg
    obtain ⟨hs, hl, -⟩ := h.aimed g i a f hg
    rcases hi with hu | ⟨he, -⟩
    · exact hl hu
    · rw [hs] at he
      rw [line_of_none he] at hg
      cases hg

theorem Coherent.ofAgrees {s t : State} (h : Coherent s) (ha : Agrees t) (hseg : ∀ g, t.seg g = s.seg g)
    (hload : t.store.state = .loading ↔ s.store.state = .loading) (hlive : s.store.state ≠ .loading) : Coherent t :=
  ⟨ha, fun g => by rw [hseg]; exact h.sound g, fun hl => absurd (hload.mp hl) hlive⟩

/-- A slot takes other values in place, its draft's state among them. -/
theorem Coherent.setFields {s : State} (h : Coherent s) (i : SlotIx) (f : Slot → Slot)
    (hlive : s.store.state ≠ .loading) (hi : (s.slot i).table = .unlisted ∨ Still (s.slot i).seg s)
    (hdraft : (f (s.slot i)).draft.state = (s.slot i).draft.state)
    (hclean : (f (s.slot i)).table ≠ .unlisted ∨ (f (s.slot i)).draft.state = .clean) :
    Coherent (s.modSlot i f) := by
  obtain ⟨hnone, haway⟩ := h.agrees.nothingFor hi
  have hfree : (s.slot i).draft.state ≠ .delivering := fun hd => hnone _ ((h.agrees.delivering i).mp hd)
  refine h.ofAgrees (h.agrees.replaceSlot i (by simp) (by simp) (fun j hj => by rw [slot_modSlot_other s f hj]) hnone
    haway h.agrees.nodup (fun _ _ => Iff.rfl) ?_ (by simpa [hdraft] using hfree) (by simpa using hclean)) (by simp)
    Iff.rfl hlive
  simp [hdraft, h.agrees.entry, hfree]

theorem listSlot_coherent {s : State} (h : Coherent s) {i : SlotIx} (e : RosterArg) (hu : (s.slot i).table = .unlisted)
    (hlive : s.store.state ≠ .loading) : Coherent (listSlot i e s) := by
  have hclean : (s.slot i).draft.state = .clean := (h.agrees.listed i).resolve_left (by simp [hu])
  exact (enqueuePages_quiet _ _).coherent
    (h.setFields i _ hlive (.inl hu) (by simp [hclean, Slot.withEntry, Slot.unlisted, Draft.cleanOver])
      (.inl (by simp)))

/-- R41: a table moved between Halted segments. -/
theorem editSlot_coherent {s : State} (h : Coherent s) {i : SlotIx} (e : RosterArg)
    (hlisted : (s.slot i).table ≠ .unlisted) (hlive : s.store.state ≠ .loading) (hold : Still (s.slot i).seg s)
    (hnew : Still e.seg s) : Coherent (editSlot i e s) := by
  have hmoved : Coherent (s.modSlot i fun y => y.withEntry e) :=
    h.setFields i _ hlive (.inr hold) rfl (.inl hlisted)
  have hseg : ((s.modSlot i fun y => y.withEntry e).slot i).seg = e.seg := by simp [Slot.withEntry]
  have habsent := (absentByRequest_coherent hmoved (i := i) (by rw [hseg, seg_modSlot]; exact hnew.1) hlive).1.modSlot i
    fun y => { y with game := none, due := DueRecord.listed }
  have hu : Coherent (if (s.slot i).seg = e.seg ∧ (s.slot i).addr = e.addr.toNat then
      s.modSlot i fun y => y.withEntry e else
      (absentByRequest i (s.modSlot i fun y => y.withEntry e)).modSlot i fun y =>
        { y with game := none, due := DueRecord.listed }) := by
    split <;> assumption
  unfold editSlot
  dsimp only
  refine (enqueuePage_quiet _ _).coherent ?_
  split
  · exact hu
  · exact ((dropOutcome_quiet i _).trans (resetWindow_quiet i _)).coherent hu

theorem serveWriteRosterEntry_coherent {s : State} (h : Coherent s) (p : PortId) (slot : Byte) (e : RosterArg)
    (hlive : s.store.state ≠ .loading) : Coherent (serveWriteRosterEntry p slot e s) := by
  unfold serveWriteRosterEntry
  split
  · exact (answer_quiet p _ _ s).coherent h
  · next i _ =>
    split
    · exact (answer_quiet p _ _ s).coherent h
    · split
      · exact (answer_quiet p _ _ s).coherent h
      · next hruns =>
        simp only [rosterSegmentRuns, Bool.or_eq_true, bne_iff_ne, Bool.and_eq_true, not_or, not_and, not_not] at hruns
        have hnew : Still e.seg s := h.still (by simp [hruns.1])
        dsimp only
        refine (answer_quiet p _ _ _).coherent ?_
        split
        · next hl => exact editSlot_coherent h e ((listed_iff _).mp hl) hlive (h.still (by simp [hruns.2 hl])) hnew
        · next hl => exact listSlot_coherent h e (by simpa [listed_iff] using hl) hlive

theorem removeSlot_coherent {s : State} (h : Coherent s) {i : SlotIx} (hlive : s.store.state ≠ .loading)
    (hstill : Still (s.slot i).seg s) : Coherent (removeSlot i s) := by
  have hpoll := endPolling_quiet i false s
  have hc := hpoll.coherent h
  obtain ⟨hnone, haway⟩ := hc.agrees.nothingFor (i := i) (.inr (by
    rw [bond_seg (hpoll.bond i)]
    exact hpoll.still hstill))
  unfold removeSlot
  refine (enqueuePages_quiet _ _).coherent (hc.ofAgrees (hc.agrees.replaceSlot i (by simp) (by simp)
    (fun j hj => ?_) hnone haway ?_ (fun j hj => ?_) ?_ ?_ ?_) (by simp) (by simp)
    (mt hpoll.loading.mp hlive))
  · rw [slot_modSlot_other _ _ hj]
    simp
  · rw [entries_modSlot, State.entries, clearReservations_queue, ← State.entries, entries_removeEntry]
    exact hc.agrees.nodup.filter _
  · rw [entries_modSlot, State.entries, clearReservations_queue, ← State.entries]
    simp [hj]
  · rw [entries_modSlot, State.entries, clearReservations_queue, ← State.entries]
    simp [Slot.unlisted, Draft.cleanOver]
  · simp [Slot.unlisted, Draft.cleanOver]
  · simp [Slot.unlisted, Draft.cleanOver]

/-- R15: Halt Segment. -/
theorem serveHaltSegment_coherent {s : State} (h : Coherent s) (p : PortId) (g : SegId)
    (hlive : s.store.state ≠ .loading) : Coherent (serveHaltSegment p g s) := by
  have hhalt (hidle : (s.seg g).exchange = none) : Coherent (answer p .done [] (haltNow g s)) :=
    (answer_quiet p _ _ _).coherent (haltNow_coherent h.agrees (fun k _ => h.sound k) hidle hlive)
  unfold serveHaltSegment
  split
  · exact (answer_quiet p _ _ s).coherent h
  · next hg => exact hhalt (h.still (by simp [hg])).1
  · next hg => exact hhalt (h.still (by simp [hg])).1
  · next hg =>
    split
    · next hidle => exact hhalt (Option.isNone_iff_eq_none.mp hidle)
    · next hx =>
      obtain ⟨-, hdriver, -, -⟩ := (sound_iff _).mp (h.sound g)
      refine h.modSeg g _ rfl rfl rfl ?_
      rw [sound_iff]
      exact ⟨.inl hg, hdriver, fun _ he => hx (Option.isNone_iff_eq_none.mpr he), .inl rfl⟩

theorem serveResumeSegment_coherent {s : State} (h : Coherent s) (p : PortId) (g : SegId)
    (hlive : s.store.state ≠ .loading) : Coherent (serveResumeSegment p g s) := by
  unfold serveResumeSegment
  split
  · next hg => exact (answer_quiet p _ _ _).coherent (resumeNow_coherent h (by simp [hg]) hlive)
  · next hg => exact (answer_quiet p _ _ _).coherent (resumeNow_coherent h (by simp [hg]) hlive)
  · exact (answer_quiet p _ _ s).coherent h
  · exact (answer_quiet p _ _ s).coherent h

theorem serveSetLineParameters_coherent {s : State} (h : Coherent s) (p : PortId) (g : SegId) (a : LineParamsArg) :
    Coherent (serveSetLineParameters p g a s) := by
  unfold serveSetLineParameters
  split
  · exact (answer_quiet p _ _ s).coherent h
  · split
    · exact (answer_quiet p _ _ s).coherent h
    · have hw := h.modSeg g (fun y => { y with params := ((s.seg g).params.write a).1 }) rfl rfl rfl (h.sound g)
      dsimp only
      refine (answer_quiet p _ _ _).coherent ?_
      split
      · exact (garbleReset_garbleOnly g _).coherent hw
      · exact hw

/-! ### Drafts -/

/-- A draft that is neither Queued nor Delivering, of a listed slot. -/
theorem Agrees.undelivered {s : State} (h : Agrees s) {i : SlotIx} (hl : (s.slot i).table ≠ .unlisted)
    (hd : (s.slot i).draft.state ≠ .delivering) : Undelivered i s := ⟨h, hl, hd⟩

theorem setItems_within (p : PortId) (i : SlotIx) (r : Identity) (pairs : List (Byte × Half)) (s : State)
    (hqueued : (s.slot i).draft.state ≠ .queued) : Within i s (setItems p i r pairs s) := by
  unfold setItems
  dsimp only
  have hdraft := modSlot_within i (fun y => { y with
    draft := { pairs.foldl (fun d e => d.setItem r e) (s.slot i).draft with state := .edited }
    confirmed := false }) s ⟨rfl, rfl, id, rfl⟩ id (by simp [hqueued]) (by simp)
  have hport := Within.ite (c := ((s.port (otherPort p)).reservation == some i) = true)
    (hdraft.quiet (modPort_quiet (otherPort p) (fun y => { y with reservation := none }) _)) hdraft
  exact (Within.ite (hport.quiet ((dropOutcome_quiet i _).trans (resetWindow_quiet i _))) hport).quiet
    (answer_quiet p _ _ _)

theorem serveSetItems_coherent {s : State} (h : Coherent s) (p : PortId) (slot : Byte) (pairs : List (Byte × Half))
    (hlive : s.store.state ≠ .loading) : Coherent (serveSetItems p slot pairs s) := by
  unfold serveSetItems
  split
  · exact (answer_quiet p _ _ s).coherent h
  · exact (answer_quiet p _ _ s).coherent h
  · next i hr hi =>
    split
    · exact (answer_quiet p _ _ s).coherent h
    · next r hid =>
      have hok : (s.slot i).listed = true ∧ (s.slot i).draft.state ≠ .queued
          ∧ (s.slot i).draft.state ≠ .delivering := by
        simp only [setItemsRefusal, hi, hid] at hr
        repeat' split at hr
        all_goals first | cases hr; done | simp_all
      exact (setItems_within p i r pairs s hok.2.1).coherent h
        (h.agrees.undelivered ((listed_iff _).mp hok.1) hok.2.2) hlive

/-- The draft of an Edited or Clean slot becomes Clean, and a pending outcome is offered to it. -/
theorem cleanDraft_within (i : SlotIx) (s : State) (hq : (s.slot i).draft.state ≠ .queued) :
    Within i s (offerOutcome i (clearReservations i (s.modSlot i Slot.withCleanDraft))) :=
  ((modSlot_within i Slot.withCleanDraft s ⟨rfl, rfl, id, rfl⟩ id
    (by simp [Slot.withCleanDraft, Draft.cleanOver, hq]) (by simp [Slot.withCleanDraft, Draft.cleanOver])).quiet
    (clearReservations_quiet i _)).trans (offerOutcome_within i _)

theorem submitDraft_coherent {s : State} (h : Coherent s) (p : PortId) (i : SlotIx) (priority : Byte)
    (hlive : s.store.state ≠ .loading) (hl : (s.slot i).table ≠ .unlisted) (hd : (s.slot i).draft.state = .edited) :
    Coherent (submitDraft p i priority s) := by
  have hu := h.agrees.undelivered hl (by simp [hd])
  unfold submitDraft
  dsimp only
  split
  · exact (((cleanDraft_within i s (by simp [hd])).quiet (answer_quiet p _ _ _)).coherent h hu hlive).choose _
  · have hjoin := joinQueue_modSlot_within i
      (fun x => { x with draft := { x.draft with state := .queued } }) priority.toNat (originOf p) s
      ⟨rfl, rfl, id, rfl⟩ rfl rfl (by simp [hd])
    exact ((hjoin.quiet ((modSlot_quiet i (fun y => { y with confirmed := false }) _).trans
      ((clearReservations_quiet i _).trans (answer_quiet p _ _ _)))).coherent h hu hlive).choose _

theorem serveSubmitDraft_coherent {s : State} (h : Coherent s) (p : PortId) (slot priority : Byte)
    (hlive : s.store.state ≠ .loading) : Coherent (serveSubmitDraft p slot priority s) := by
  unfold serveSubmitDraft
  split
  · exact (answer_quiet p _ _ s).coherent h
  · next i _ =>
    split
    · exact (answer_quiet p _ _ s).coherent h
    · next hr =>
      have hok : (s.slot i).listed = true ∧ (s.slot i).draft.state = .edited := by
        simp only [submitRefusal] at hr
        repeat' split at hr
        all_goals first | cases hr; done | simp_all
      exact submitDraft_coherent h p i priority hlive ((listed_iff _).mp hok.1) hok.2

theorem serveDiscardDraft_coherent {s : State} (h : Coherent s) (p : PortId) (slot : Byte)
    (hlive : s.store.state ≠ .loading) : Coherent (serveDiscardDraft p slot s) := by
  unfold serveDiscardDraft
  split
  · exact (answer_quiet p _ _ s).coherent h
  · next i _ =>
    split
    · exact (answer_quiet p _ _ s).coherent h
    · next hl =>
      have hlisted : (s.slot i).table ≠ .unlisted := (listed_iff _).mp (by simpa using hl)
      have hdiscard (hq : (s.slot i).draft.state ≠ .queued) (hd : (s.slot i).draft.state ≠ .delivering) :
          Coherent (discardDraft p i s) :=
        (((cleanDraft_within i s hq).quiet (answer_quiet p _ _ _)).coherent h
          (h.agrees.undelivered hlisted hd) hlive).choose _
      split
      · exact (answer_quiet p _ _ s).coherent h
      · exact (answer_quiet p _ _ s).coherent h
      · next hd => exact hdiscard (by simp [hd]) (by simp [hd])
      · next hd => exact hdiscard (by simp [hd]) (by simp [hd])

theorem modEntry_coherent {s : State} (h : Coherent s) (i : SlotIx) (f : DeliveryEntry → DeliveryEntry)
    (hf : ∀ e, (f e).slot = e.slot) : Coherent (modEntry i f s) :=
  ⟨h.agrees.congr (entries_modEntry i f hf s) (by simp) (by simp) (by simp) (by simp) (by simp),
    fun g => by rw [seg_modEntry]; exact h.sound g, fun hl => by
      obtain ⟨hs, hq⟩ := h.quiet (by simpa using hl)
      exact ⟨fun g => by rw [seg_modEntry]; exact hs g, by simp [modEntry, hq]⟩⟩

theorem serveWithdrawDelivery_coherent {s : State} (h : Coherent s) (p : PortId) (slot : Byte)
    (hlive : s.store.state ≠ .loading) : Coherent (serveWithdrawDelivery p slot s) := by
  unfold serveWithdrawDelivery
  split
  · exact (answer_quiet p _ _ s).coherent h
  · next i _ =>
    split
    · exact (answer_quiet p _ _ s).coherent h
    · next hl =>
      split
      · next hd =>
        exact (withdrawEntry_within i (some p) s).coherent h
          (h.agrees.undelivered ((listed_iff _).mp (by simpa using hl)) (by simp [hd])) hlive
      · split
        · exact (answer_quiet p _ _ s).coherent h
        · exact modEntry_coherent h i _ fun _ => rfl
      · split
        · exact (answer_quiet p _ _ s).coherent h
        · exact (answer_quiet p _ _ s).coherent h
      · exact (answer_quiet p _ _ s).coherent h

end Sys2Proof.Machine

namespace Sys2Proof.Machine

/-! ### Restart Hub -/

theorem slot_mapSlots (s t : State) (f : Slot → Slot) (h : t.slots = s.slots.map f) (j : SlotIx) :
    t.slot j = f (s.slot j) := by
  simp [State.slot, h]

/-- What Restart Hub drops before it touches the segments: the requests in progress, the closes, the answers of
withdrawals and the groups. -/
def restartDropped (p : PortId) (s : State) : State :=
  let own (q : PortId) : Option Byte := if q = p then some 3 else none
  let t := (s.modPort .collector fun x => x.restarted (own .collector)).modPort .office
    fun x => x.restarted (own .office)
  { t with
    slots := t.slots.map Slot.closeAbandoned
    queue := t.queue.map fun e => { e with withdrawPort := none }
    store := { t.store with groups := t.store.groups.map fun g => { g with abandoned := true } } }

theorem serveRestartHub_eq (p : PortId) (s : State) :
    serveRestartHub p s =
      let t := restartSegment .b (restartSegment .a (restartDropped p s))
      answer p .done [] (enterStarting .b (enterStarting .a
        (restartLine .b (restartLine .a (t.forSlots t.listedSlots restartTable))))) := rfl

theorem seg_restartDropped (p : PortId) (s : State) (g : SegId) : (restartDropped p s).seg g = s.seg g := by
  cases g <;> rfl

theorem slot_restartDropped (p : PortId) (s : State) (j : SlotIx) :
    (restartDropped p s).slot j = (s.slot j).closeAbandoned := slot_mapSlots s _ _ rfl j

theorem restartDropped_coherent {s : State} (h : Coherent s) (p : PortId) (hlive : s.store.state ≠ .loading) :
    Coherent (restartDropped p s) := by
  refine h.ofAgrees (h.agrees.congr ?_ (fun j => ?_) (fun j => ?_) (fun j => ?_) (fun g => ?_) fun g => ?_)
    (seg_restartDropped p s) Iff.rfl hlive
  · simp [State.entries, restartDropped, State.modPort, State.setPort, Function.comp_def]
  · rw [slot_restartDropped]; rfl
  · rw [slot_restartDropped]; rfl
  · rw [slot_restartDropped]; rfl
  · rw [seg_restartDropped]
  · rw [seg_restartDropped]

/-- R18, R137: a segment at a restart has neither an exchange nor a delivery. -/
theorem restartSegment_coherent {s : State} (h : Coherent s) (g : SegId) (hlive : s.store.state ≠ .loading) :
    Coherent (restartSegment g s) ∧ Still g (restartSegment g s)
      ∧ (∀ k, k ≠ g → (restartSegment g s).seg k = s.seg k) ∧ (restartSegment g s).store.state ≠ .loading := by
  have hl : (restartSegment g s).store.state ≠ .loading :=
    mt ((modSeg_mild g _ s).trans ((abandonExchange_mild g _).trans (suspendDelivery_mild g _))).loading.mp hlive
  obtain ⟨hagrees, hother, b, hhere, hb⟩ := suspend_abandon_agrees
    (h.agrees.modSeg g (fun y => { y with haltPending := false, haltWaiters := [] }) rfl rfl) g
  have hother' (k : SegId) (hk : k ≠ g) : (restartSegment g s).seg k = s.seg k :=
    (hother k hk).trans (seg_modSeg_other s _ hk)
  rw [seg_modSeg_same] at hhere hb
  have hdriver : b = false := by
    simpa using fun ht => ((sound_iff _).mp (h.sound g)).2.1 (hb ht).2 (hb ht).1
  refine ⟨⟨hagrees, fun k => ?_, fun hload => absurd hload hl⟩, ?_, hother', hl⟩
  · by_cases hk : k = g
    · subst hk
      unfold restartSegment
      rw [hhere]
      exact sound_of_still rfl rfl rfl rfl hdriver
    · rw [hother' k hk]
      exact h.sound k
  · unfold Still restartSegment
    rw [hhere]
    exact ⟨rfl, rfl⟩

/-- Both segments have neither an exchange nor a delivery, and the store is not Loading. -/
structure Parted (s : State) : Prop where
  coherent : Coherent s
  still : ∀ g, Still g s
  live : s.store.state ≠ .loading

theorem restartSegments_parted {s : State} (h : Coherent s) (hlive : s.store.state ≠ .loading) :
    Parted (restartSegment .b (restartSegment .a s)) := by
  obtain ⟨ha, sa, -, la⟩ := restartSegment_coherent h .a hlive
  obtain ⟨hb, sb, ob, lb⟩ := restartSegment_coherent ha .b la
  refine ⟨hb, fun g => ?_, lb⟩
  cases g with
  | a =>
    unfold Still
    rw [ob .a (by decide)]
    exact sa
  | b => exact sb

theorem Parted.restartTable {s : State} (h : Parted s) (i : SlotIx) : Parted (restartTable i s) := by
  obtain ⟨hc, hdel⟩ := absentByRequest_coherent h.coherent (h.still (s.slot i).seg).1 h.live
  refine ⟨hc.modSlot i _, fun g => ?_, mt (absentByRequest_mild i s).loading.mp h.live⟩
  unfold Still Machine.restartTable
  rw [seg_modSlot]
  exact hdel.still (h.still g)

theorem Parted.restartLine {s : State} (h : Parted s) (g : SegId) : Parted (restartLine g s) := by
  have hgarble := garbleReset_garbleOnly g s
  have hc := hgarble.coherent h.coherent
  refine ⟨hc.modSeg g _ rfl rfl rfl (hc.sound g), fun k => ?_,
    mt ((hgarble.mild False).trans (modSeg_mild g (fun y => { y with collisions := 0, pointer := none }) _)).loading.mp
      h.live⟩
  have hk := garbleOnly_still hgarble (h.still k)
  unfold Still Machine.restartLine
  by_cases hkg : k = g
  · subst hkg
    rw [seg_modSeg_same]
    exact hk
  · rw [seg_modSeg_other _ _ hkg]
    exact hk

theorem Parted.enterStarting {s : State} (h : Parted s) (g : SegId) : Parted (enterStarting g s) := by
  refine ⟨h.coherent.enterStarting g (h.still g).1 (h.still g).2 h.live, fun k => ?_,
    mt (enterStarting_mild g s).loading.mp h.live⟩
  refine (enterStarting_quiet g s).still ?_
  unfold Still
  by_cases hkg : k = g
  · subst hkg
    rw [seg_modSeg_same]
    exact h.still k
  · rw [seg_modSeg_other _ _ hkg]
    exact h.still k

theorem serveRestartHub_coherent {s : State} (h : Coherent s) (p : PortId) (hlive : s.store.state ≠ .loading) :
    Coherent (serveRestartHub p s) := by
  rw [serveRestartHub_eq]
  have hparted := restartSegments_parted (restartDropped_coherent h p hlive) hlive
  have htables : Parted _ := forSlots_induction (P := Parted) (f := restartTable)
    (restartSegment .b (restartSegment .a (restartDropped p s))).listedSlots hparted fun i _ u hu => hu.restartTable i
  exact (answer_quiet p _ _ _).coherent
    ((((htables.restartLine .a).restartLine .b).enterStarting .a).enterStarting .b).coherent

/-! ### Requests that leave segments, deliveries and drafts alone -/

theorem refuseRequest_quiet (p : PortId) (status : Status) (s : State) : Quiet s (refuseRequest p status s) :=
  answer_quiet p status [] s

theorem serveReadStatus_quiet (p : PortId) (s : State) : Quiet s (serveReadStatus p s) := answer_quiet p _ _ s

theorem serveSetClock_quiet (p : PortId) (v : BitVec 32) (s : State) : Quiet s (serveSetClock p v s) :=
  Quiet.trans (t := { s with clock := v, clockUnset := false })
    (.ofSlots (fun g => g.casesOn rfl rfl) rfl Iff.rfl (fun _ => rfl) rfl (fun _ => rfl) rfl) (answer_quiet p _ _ _)

theorem serveReadRoster_quiet (p : PortId) (slot : Byte) (s : State) : Quiet s (serveReadRoster p slot s) := by
  unfold serveReadRoster
  split
  · exact answer_quiet p _ _ s
  · split
    · exact refuseRequest_quiet p _ s
    · exact answer_quiet p _ _ s

theorem serveSetRegulation_quiet (p : PortId) (slot : Byte) (a : RegulationArg) (s : State) :
    Quiet s (serveSetRegulation p slot a s) := by
  unfold serveSetRegulation
  split
  · exact refuseRequest_quiet p _ s
  · next i _ =>
    split
    · exact refuseRequest_quiet p _ s
    · exact (modSlot_quiet i (fun x => { x with reg := ((s.slot i).reg.write a).1 }) s).trans
        ((enqueuePage_quiet _ _).trans ((settleOutcome_quiet i _).trans (answer_quiet p _ _ _)))

theorem serveReadAudits_quiet (p : PortId) (slot : Byte) (view : AuditView) (s : State) :
    Quiet s (serveReadAudits p slot view s) := by
  unfold serveReadAudits
  split
  · exact refuseRequest_quiet p _ s
  · exact .ite (refuseRequest_quiet p _ s) (answer_quiet p _ _ s)

theorem serveReadSettings_quiet (p : PortId) (slot : Byte) (s : State) : Quiet s (serveReadSettings p slot s) := by
  unfold serveReadSettings
  split
  · exact refuseRequest_quiet p _ s
  · exact .ite (refuseRequest_quiet p _ s) (answer_quiet p _ _ s)

theorem serveReadDraft_quiet (p : PortId) (slot : Byte) (reserve : Bool) (s : State) :
    Quiet s (serveReadDraft p slot reserve s) := by
  unfold serveReadDraft
  split
  · exact refuseRequest_quiet p _ s
  · exact .ite (refuseRequest_quiet p _ s) ((Quiet.ite (modPort_quiet p _ s) (.refl s)).trans (answer_quiet p _ _ _))

theorem serveReadFaults_quiet (p : PortId) (roster : Byte) (s : State) : Quiet s (serveReadFaults p roster s) := by
  unfold serveReadFaults
  split
  · exact refuseRequest_quiet p _ s
  · exact .ite (answer_quiet p _ _ s) (refuseRequest_quiet p _ s)

theorem acknowledge_length (r : FaultRoster) (key : Option FaultKey) :
    (r.acknowledge key).records.length ≤ r.records.length := by
  simp only [FaultRoster.acknowledge, List.length_map]
  exact List.length_filter_le _ _

theorem serveAcknowledgeFaults_quiet (p : PortId) (roster : Byte) (key : Option FaultKey) (s : State) :
    Quiet s (serveAcknowledgeFaults p roster key s) := by
  unfold serveAcknowledgeFaults
  split
  · exact refuseRequest_quiet p _ s
  · next n _ =>
    split
    · exact (putRoster_quiet n _ s fun h => (acknowledge_length _ key).trans h).trans (answer_quiet p _ _ _)
    · exact refuseRequest_quiet p _ s

theorem serveSetWatchRules_quiet (p : PortId) (a : WatchArg) (s : State) : Quiet s (serveSetWatchRules p a s) := by
  unfold serveSetWatchRules
  split
  · exact Quiet.trans (t := { s with watch := s.watch.write a })
      (.ofSlots (fun g => g.casesOn rfl rfl) rfl Iff.rfl (fun _ => rfl) rfl (fun _ => rfl) rfl)
      ((enqueuePage_quiet _ _).trans (answer_quiet p _ _ _))
  · exact refuseRequest_quiet p _ s

theorem serveTakeAlerts_quiet (p : PortId) (count : Byte) (s : State) : Quiet s (serveTakeAlerts p count s) := by
  have hdrop : Quiet s { s with alerts := s.alerts.drop count.toNat, overrun := false } := by
    refine ⟨fun g => g.casesOn rfl rfl, rfl, Iff.rfl, fun _ => rfl, fun h => ?_⟩
    obtain ⟨hr, ha⟩ := (capacitiesKept_iff _).mp h
    exact (capacitiesKept_iff _).mpr ⟨hr, (by simp; omega)⟩
  unfold serveTakeAlerts
  dsimp only
  split
  · exact hdrop.trans (answer_quiet p _ _ _)
  · exact refuseRequest_quiet p _ s

theorem serveAcknowledgeStoreFault_quiet (p : PortId) (s : State) (hlive : s.store.state ≠ .loading) :
    Quiet s (serveAcknowledgeStoreFault p s) := by
  unfold serveAcknowledgeStoreFault
  split
  · exact answer_quiet p _ _ s
  · exact (modStore_quiet (fun t => { t with state := .ready }) s (by simp [hlive])).trans (answer_quiet p _ _ _)
  · exact refuseRequest_quiet p _ s
  · exact refuseRequest_quiet p _ s

/-! ### Closing periods and removing tables -/

theorem Coherent.chooseBoth {s : State} (h : Coherent s) : Coherent (chooseBoth s) := (h.choose .a).choose .b

theorem serveClosePeriod_coherent {s : State} (h : Coherent s) (p : PortId) (slot : Byte) :
    Coherent (serveClosePeriod p slot s) := by
  unfold serveClosePeriod
  split
  · exact ((closeAll_quiet p s).coherent h).chooseBoth
  · split
    · exact (refuseRequest_quiet p _ s).coherent h
    · next i _ =>
      split
      · exact (refuseRequest_quiet p _ s).coherent h
      · split
        · exact (refuseRequest_quiet p _ s).coherent h
        · exact ((startClose_quiet i p false s).coherent h).choose _

theorem serveRemoveTable_coherent {s : State} (h : Coherent s) (p : PortId) (slot : Byte)
    (hlive : s.store.state ≠ .loading) : Coherent (serveRemoveTable p slot s) := by
  unfold serveRemoveTable
  split
  · exact (refuseRequest_quiet p _ s).coherent h
  · next i _ =>
    split
    · exact (refuseRequest_quiet p _ s).coherent h
    · split
      · exact (refuseRequest_quiet p _ s).coherent h
      · next hg =>
        have hhalted : (s.seg (s.slot i).seg).state = .halted := by simpa using hg
        exact (answer_quiet p _ _ _).coherent (removeSlot_coherent h hlive (h.still (by simp [hhalted])))

/-- R186: every request keeps the coherence once the store is no longer Loading. -/
theorem serve_coherent {s : State} (h : Coherent s) (p : PortId) (r : Request) (hlive : s.store.state ≠ .loading) :
    Coherent (serve p r s) := by
  cases r with
  | readStatus => exact (serveReadStatus_quiet p s).coherent h
  | setClock v => exact (serveSetClock_quiet p v s).coherent h
  | restartHub => exact serveRestartHub_coherent h p hlive
  | readRoster slot => exact (serveReadRoster_quiet p slot s).coherent h
  | writeRosterEntry slot e => exact serveWriteRosterEntry_coherent h p slot e hlive
  | removeTable slot => exact serveRemoveTable_coherent h p slot hlive
  | setRegulation slot a => exact (serveSetRegulation_quiet p slot a s).coherent h
  | setLineParameters g a => exact serveSetLineParameters_coherent h p g a
  | haltSegment g => exact serveHaltSegment_coherent h p g hlive
  | resumeSegment g => exact serveResumeSegment_coherent h p g hlive
  | readAudits slot view => exact (serveReadAudits_quiet p slot view s).coherent h
  | closePeriod slot => exact serveClosePeriod_coherent h p slot
  | readSettings slot => exact (serveReadSettings_quiet p slot s).coherent h
  | readDraft slot reserve => exact (serveReadDraft_quiet p slot reserve s).coherent h
  | setItems slot pairs => exact serveSetItems_coherent h p slot pairs hlive
  | submitDraft slot priority => exact serveSubmitDraft_coherent h p slot priority hlive
  | discardDraft slot => exact serveDiscardDraft_coherent h p slot hlive
  | withdrawDelivery slot => exact serveWithdrawDelivery_coherent h p slot hlive
  | readFaults roster => exact (serveReadFaults_quiet p roster s).coherent h
  | acknowledgeFaults roster key => exact (serveAcknowledgeFaults_quiet p roster key s).coherent h
  | setWatchRules a => exact (serveSetWatchRules_quiet p a s).coherent h
  | takeAlerts count => exact (serveTakeAlerts_quiet p count s).coherent h
  | acknowledgeStoreFault => exact (serveAcknowledgeStoreFault_quiet p s hlive).coherent h

/-! ### Requests and bytes at the ports -/

theorem refuseFrame_quiet (p : PortId) (kind : Byte) (status : Status) (s : State) :
    Quiet s (refuseFrame p kind status s) := modPort_quiet p _ s

theorem setReceiver_quiet (p : PortId) (r : Receiver) (s : State) : Quiet s (setReceiver p r s) := modPort_quiet p _ s

/-- R182: a request that meets no refusal reaches its block with the store no longer Loading. -/
theorem live_of_frameRefusal {p : PortId} {s : State} (h : frameRefusal p s = none) : s.store.state ≠ .loading := by
  intro hl
  simp [frameRefusal, hl] at h

theorem serve_hold_coherent {s : State} (h : Coherent s) {p : PortId} (kind : Byte) (r : Request)
    (hfree : frameRefusal p s = none) : Coherent (serve p r (holdRequest p kind s)) :=
  serve_coherent ((modPort_quiet p _ s).coherent h) p r
    (mt (modPort_quiet p _ s).loading.mp (live_of_frameRefusal hfree))

theorem takeRequest_coherent {s : State} (h : Coherent s) (p : PortId) (r : Request) : Coherent (takeRequest p r s) := by
  unfold takeRequest
  split
  · exact h
  · split
    · exact (refuseFrame_quiet p _ _ s).coherent h
    · next hfree => exact serve_hold_coherent h _ r hfree

theorem takeFrame_coherent {s : State} (h : Coherent s) (p : PortId) (frame : List Byte) :
    Coherent (takeFrame p frame s) := by
  unfold takeFrame
  dsimp only
  split
  · exact (refuseFrame_quiet p _ _ s).coherent h
  · split
    · exact (refuseFrame_quiet p _ _ s).coherent h
    · next hfree =>
      split
      · exact (refuseFrame_quiet p _ _ s).coherent h
      · split
        · exact ((modPort_quiet p _ s).trans (refuseRequest_quiet p _ _)).coherent h
        · next r _ => exact serve_hold_coherent h _ r hfree

theorem storeByte_coherent {s : State} (h : Coherent s) (p : PortId) (buffer : List Byte) :
    Coherent (storeByte p buffer s) := by
  unfold storeByte
  dsimp only
  split
  · exact (setReceiver_quiet p _ s).coherent h
  · split
    · exact takeFrame_coherent ((setReceiver_quiet p _ s).coherent h) p buffer
    · exact (setReceiver_quiet p _ s).coherent h

theorem portByte_coherent {s : State} (h : Coherent s) (p : PortId) (b : Byte) (framingError : Bool) :
    Coherent (portByte p b framingError s) := by
  unfold portByte
  split
  · exact h
  · split
    · exact (setReceiver_quiet p _ s).coherent h
    · split
      · split
        · exact (setReceiver_quiet p _ s).coherent h
        · exact h
      · exact storeByte_coherent h p _

theorem requestFrame_coherent {s : State} (h : Coherent s) (p : PortId) (frame : List Byte) :
    Coherent (requestFrame p frame s) := by
  unfold requestFrame
  split
  · exact h
  · split
    · exact takeFrame_coherent ((setReceiver_quiet p _ s).coherent h) p frame
    · exact (setReceiver_quiet p _ s).coherent h

end Sys2Proof.Machine

namespace Sys2Proof.Machine

/-! ### The events of a segment -/

/-- An exchange in flight whose slot, asking block and frame stay. -/
theorem modExchange_coherent {s : State} (h : Coherent s) (g : SegId) (f : Exchange → Exchange)
    (hf : ∀ x, ((f x).slot, (f x).asker, (f x).frame) = (x.slot, x.asker, x.frame) := by intro; rfl) :
    Coherent (modExchange g f s) := by
  refine h.modSeg g _ rfl ?_ rfl ?_
  · simp [Segment.line, Function.comp_def, hf]
  · have hs := h.sound g
    rw [sound_iff] at hs ⊢
    simpa using hs

theorem setPhase_coherent {s : State} (h : Coherent s) (g : SegId) (ph : Phase) : Coherent (setPhase g ph s) :=
  modExchange_coherent h g _

theorem setDriver_coherent {s : State} (h : Coherent s) (g : SegId) (on : Bool)
    (hon : on = true → (s.seg g).exchange ≠ none) : Coherent (setDriver g on s) := by
  refine h.modSeg g _ rfl rfl rfl ?_
  obtain ⟨hrun, -, hpending, hwaiters⟩ := (sound_iff _).mp (h.sound g)
  exact (sound_iff _).mpr ⟨hrun, hon, hpending, hwaiters⟩

theorem exchange_of_phase {s : State} {g : SegId} {ph : Phase} (h : s.phase g = some ph) :
    (s.seg g).exchange ≠ none := fun he => by
  simp [State.phase, he] at h

theorem exchange_setPhase {s : State} (g : SegId) (ph : Phase) (h : (s.seg g).exchange ≠ none) :
    ((setPhase g ph s).seg g).exchange ≠ none := by
  simpa [setPhase, modExchange] using h

theorem transmitFrame_coherent {s : State} (h : Coherent s) (g : SegId) : Coherent (transmitFrame g s) := by
  unfold transmitFrame
  split
  · next hw =>
    exact setDriver_coherent (setPhase_coherent h g _) g true fun _ => exchange_setPhase g _ (exchange_of_phase hw.2)
  · exact h

theorem guardEnd_coherent {s : State} (h : Coherent s) (g : SegId) : Coherent (guardEnd g s) := by
  unfold guardEnd
  split
  · exact setDriver_coherent (setPhase_coherent h g _) g false nofun
  · exact setDriver_coherent h g false nofun
  · exact h

theorem collision_coherent {s : State} (h : Coherent s) (g : SegId) (cause : CollisionCause) :
    Coherent (collision g cause s) := by
  unfold collision
  split
  · exact h
  · split
    · exact setPhase_coherent (h.modSeg g
        (fun y => { y with collisions := saturate Config.counterCeiling (y.collisions + 1) }) rfl rfl rfl (h.sound g)) g _
    · exact h

theorem answerWindowExpiry_coherent {s : State} (h : Coherent s) (g : SegId) :
    Coherent (answerWindowExpiry g s) := by
  unfold answerWindowExpiry
  split
  · exact h.endExchange g _
  · exact h

theorem takeAnswerCharacter_coherent {s : State} (h : Coherent s) (g : SegId) (c : LineChar) :
    Coherent (takeAnswerCharacter g c s) := by
  unfold takeAnswerCharacter
  split
  · exact h
  · split
    · split
      · exact modExchange_coherent h g _
      · exact setPhase_coherent h g _
      · exact h.endExchange g _
    · exact h

theorem answerComplete_coherent {s : State} (h : Coherent s) (g : SegId) (gs : GameState) (status : AnswerStatus)
    (rest : List Byte) : Coherent (answerComplete g gs status rest s) := by
  unfold answerComplete
  split
  · exact h
  · split
    · exact h.endExchange g _
    · exact h

theorem completionDeadline_coherent {s : State} (h : Coherent s) (g : SegId) :
    Coherent (completionDeadline g s) := by
  unfold completionDeadline
  split
  · exact setPhase_coherent h g _
  · exact h

theorem endGarbled_coherent {s : State} (h : Coherent s) (g : SegId) : Coherent (endGarbled g s) := by
  unfold endGarbled
  split
  · exact h.endExchange g _
  · exact h

theorem strayCharacter_coherent {s : State} (h : Coherent s) (g : SegId) (c : LineChar) :
    Coherent (strayCharacter g c s) := by
  unfold strayCharacter
  split
  · exact (garbleRise_garbleOnly g s).coherent h
  · exact h

theorem setInput_coherent {s : State} (h : Coherent s) (g : SegId) (kind : LineFaultKind) (b : Bool) :
    Coherent (setInput g kind b s) := h.modSeg g _ rfl rfl rfl (h.sound g)

theorem lineFaultAsserted_coherent {s : State} (h : Coherent s) (g : SegId) (kind : LineFaultKind) :
    Coherent (lineFaultAsserted g kind s) := by
  have hopen := openCondition_quiet 0 (keyLine g kind) (setInput g kind true s)
  have ht := hopen.coherent (setInput_coherent h g kind true)
  have hstate : ((openCondition 0 (keyLine g kind) (setInput g kind true s)).seg g).state = (s.seg g).state := by
    rw [hopen.seg g, setInput, seg_modSeg_same]
  unfold lineFaultAsserted
  split
  · exact h
  · dsimp only
    split
    · exact setInput_coherent h g kind true
    · exact ht
    · next hs => exact ht.faultNow g (by rw [hstate, hs]; decide)
    · next hs => exact ht.faultNow g (by rw [hstate, hs]; decide)

theorem lineFaultDeasserted_coherent {s : State} (h : Coherent s) (g : SegId) (kind : LineFaultKind) :
    Coherent (lineFaultDeasserted g kind s) := by
  unfold lineFaultDeasserted
  split
  · exact (endCondition_quiet 0 _ _).coherent (setInput_coherent h g kind false)
  · exact h

/-- R12, R13: the driver is on only in Running. -/
theorem driverStuck_coherent {s : State} (h : Coherent s) (g : SegId) : Coherent (driverStuck g s) := by
  unfold driverStuck
  split
  · next hd =>
    obtain ⟨hrun, hdriver, -, -⟩ := (sound_iff _).mp (h.sound g)
    have hstate := hrun.resolve_right fun hi => hdriver hd hi.1
    have hopen := openCondition_quiet 0 (keyDriver g) s
    exact (hopen.coherent h).faultNow g (by simp [hopen.seg g, hstate])
  · exact h

theorem startIdleElapsed_coherent {s : State} (h : Coherent s) (g : SegId) : Coherent (startIdleElapsed g s) := by
  unfold startIdleElapsed
  split
  · next hs =>
    have hlive : s.store.state ≠ .loading := fun hl => by simp [(h.quiet hl).1 g] at hs
    refine ((endCondition_quiet 0 _ _).coherent ⟨h.agrees.modSeg g _ rfl rfl, fun k => ?_,
      fun hl => absurd (by simpa using hl) hlive⟩).choose g
    by_cases hk : k = g
    · subst hk
      rw [seg_modSeg_same]
      exact (sound_iff _).mpr ⟨.inl rfl, ((sound_iff _).mp (h.sound k)).2⟩
    · rw [seg_modSeg_other s _ hk]
      exact h.sound k
  · exact h

theorem dueTimerRun_coherent {s : State} (h : Coherent s) (i : SlotIx) (t : DueTimer) :
    Coherent (dueTimerRun i t s) := by
  unfold dueTimerRun
  dsimp only
  split
  · exact (h.modSlot i _).choose _
  · exact h

/-! ### The events of the part -/

theorem slot_powerOn (node : BitVec 6) (speed : BitVec 2) (inputsA inputsB : LineInputs) (pending : List Instr)
    (j : SlotIx) : (State.powerOn node speed inputsA inputsB pending).slot j = Slot.unlisted := by
  simp [State.slot, State.powerOn]

theorem seg_powerOn (node : BitVec 6) (speed : BitVec 2) (inputsA inputsB : LineInputs) (pending : List Instr)
    (g : SegId) : ∃ inputs, (State.powerOn node speed inputsA inputsB pending).seg g = Segment.powerOn speed inputs := by
  cases g
  · exact ⟨inputsA, rfl⟩
  · exact ⟨inputsB, rfl⟩

/-- R175: power-on leaves nothing in flight. -/
theorem powerOn_coherent (node : BitVec 6) (speed : BitVec 2) (s : State) : Coherent (powerOn node speed s) := by
  have hseg (g : SegId) : ∃ inputs, (powerOn node speed s).seg g = Segment.powerOn speed inputs :=
    seg_powerOn node speed _ _ _ g
  have hslot (j : SlotIx) : (powerOn node speed s).slot j = Slot.unlisted := slot_powerOn node speed _ _ _ j
  have hnone (g : SegId) : ((powerOn node speed s).seg g).target = none ∧ ((powerOn node speed s).seg g).line = none := by
    obtain ⟨inputs, hg⟩ := hseg g
    rw [hg]
    exact ⟨rfl, rfl⟩
  refine ⟨⟨List.nodup_nil, fun i => ?_, fun i => ?_, fun i => ?_, ?_, ?_, ?_⟩, fun g => ?_, fun _ => ⟨fun g => ?_, rfl⟩⟩
  · rw [hslot]
    simp [State.entries, powerOn, State.powerOn, Slot.unlisted, Draft.cleanOver]
  · rw [hslot i, (hnone _).1]
    simp [Slot.unlisted, Draft.cleanOver]
  · rw [hslot]
    exact .inr rfl
  · exact fun g i hi => absurd hi (by simp [(hnone g).1])
  · exact fun g i a f hi => absurd hi (by simp [(hnone g).2])
  · exact fun g i a f hi => absurd hi (by simp [(hnone g).2])
  · obtain ⟨inputs, hg⟩ := hseg g
    rw [hg]
    exact sound_of_still rfl rfl rfl rfl rfl
  · obtain ⟨inputs, hg⟩ := hseg g
    rw [hg]
    rfl

theorem mapSlots_quiet {s t : State} (f : Slot → Slot) (hslots : t.slots = s.slots.map f)
    (hf : ∀ x, (f x).bond = x.bond ∧ (f x).faults = x.faults) (hseg : ∀ g, t.seg g = s.seg g)
    (hq : t.queue = s.queue) (hstore : t.store = s.store) (hh : t.hubFaults = s.hubFaults)
    (ha : t.alerts = s.alerts) : Quiet s t :=
  .ofSlots hseg hq (by rw [hstore]) (fun j => by rw [slot_mapSlots s t f hslots]; exact (hf _).1) hh
    (fun j => by rw [slot_mapSlots s t f hslots]; exact (hf _).2) ha

/-- R81, R37, R83: what a second changes before the choosers choose. -/
theorem tick_quiet (s : State) : Quiet s { s with clock := s.clock + 1, slots := s.slots.map Slot.tick } :=
  mapSlots_quiet Slot.tick rfl (fun _ => ⟨rfl, rfl⟩) (fun g => g.casesOn rfl rfl) rfl rfl rfl rfl

theorem unplugCollector_coherent {s : State} (h : Coherent s) : Coherent (unplugCollector s) := by
  unfold unplugCollector
  split
  · have hseg (g : SegId) : (State.seg { s with
        collector := s.collector.unplug
        segA := s.segA.orphaned, segB := s.segB.orphaned
        slots := s.slots.map fun x => { x with close := x.close.orphaned }
        queue := s.queue.map fun e => { e with withdrawPort := withoutCollector e.withdrawPort } } g)
        = (s.seg g).orphaned := by cases g <;> rfl
    have hslot := slot_mapSlots s { s with
        collector := s.collector.unplug
        segA := s.segA.orphaned, segB := s.segB.orphaned
        slots := s.slots.map fun x => { x with close := x.close.orphaned }
        queue := s.queue.map fun e => { e with withdrawPort := withoutCollector e.withdrawPort } }
        (fun x => { x with close := x.close.orphaned }) rfl
    refine ⟨h.agrees.congr (by simp [State.entries, Function.comp_def]) (fun j => by rw [hslot])
      (fun j => by rw [hslot]) (fun j => by rw [hslot]) (fun g => by rw [hseg]; rfl) (fun g => by rw [hseg]; rfl),
      fun g => ?_, fun hl => ?_⟩
    · obtain ⟨hrun, hdriver, hpending, hwaiters⟩ := (sound_iff _).mp (h.sound g)
      rw [hseg]
      exact (sound_iff _).mpr ⟨hrun, hdriver, hpending, hwaiters.imp_right fun hw => by simp [Segment.orphaned, hw]⟩
    · obtain ⟨hs, hq⟩ := h.quiet hl
      exact ⟨fun g => by rw [hseg]; exact hs g, by simp [hq]⟩
  · exact h

theorem plugCollector_quiet (s : State) : Quiet s (plugCollector s) := by
  unfold plugCollector
  split
  · exact .refl s
  · exact modPort_quiet .collector _ s

theorem answerSent_quiet (p : PortId) (s : State) : Quiet s (answerSent p s) := by
  unfold answerSent
  split
  · exact modPort_quiet p _ s
  · exact .refl s

/-! ### The end of a page write -/

theorem stopStore_quiet (s : State) (hlive : s.store.state ≠ .loading) : Quiet s (stopStore s) :=
  (modStore_quiet (fun u => { u with
      state := .stopped, waiting := [], groups := []
      pages := u.pages.map fun m => { m with deferred := false, deferredTags := [] } }) s (by simp [hlive])).trans
    ((Quiet.foldl (fun w g => reportGroup_quiet false g w) s.store.groups _).trans
      ((openCondition_quiet 0 _ _).trans (storeAlert_quiet _ _)))

theorem verifyWrite_quiet (w : WriteInFlight) (s : State) : Quiet s (verifyWrite w s) := by
  have hstore := modStore_quiet (fun u => { u.modPage w.page (fun m => { m with bad := false }) with
    inFlight := none, nodeMismatch := u.nodeMismatch && w.page != 0 }) s Iff.rfl
  exact (hstore.trans (.ite (endCondition_quiet 0 _ _) (.refl _))).trans (settleGroups_quiet _)

theorem failWrite_quiet (w : WriteInFlight) (s : State) : Quiet s (failWrite w s) := by
  have hfailed : Quiet s ((storeAlert (keyPageFailed w.page) (openCondition 0 (keyPageFailed w.page)
      (s.modStore fun u => { u.modPage w.page (fun m => { m with bad := true }) with inFlight := none }))).modStore
      fun u => { u with groups := u.groups.map fun g => if w.tags.contains g.tag then { g with failed := true } else g }) :=
    (modStore_quiet (fun u => { u.modPage w.page (fun m => { m with bad := true }) with inFlight := none }) s
      Iff.rfl).trans ((openCondition_quiet 0 _ _).trans ((storeAlert_quiet _ _).trans (modStore_quiet _ _ Iff.rfl)))
  unfold failWrite
  dsimp only
  split
  · next hr =>
    exact hfailed.trans ((modStore_quiet (fun u => { u with state := .degraded }) _
      (iff_of_false nofun (by rw [hr]; decide))).trans
      (settleGroups_quiet _))
  · next hd => exact hfailed.trans (stopStore_quiet _ (by rw [hd]; decide))
  · exact hfailed
  · exact hfailed

theorem endAttempt_quiet (equal : Bool) (w : WriteInFlight) (s : State) : Quiet s (endAttempt equal w s) := by
  unfold endAttempt
  split
  · exact verifyWrite_quiet w s
  · split
    · exact modStore_quiet _ s Iff.rfl
    · exact failWrite_quiet w s

theorem attemptEnds_quiet (readback : Option (List Byte)) (s : State) : Quiet s (attemptEnds readback s) := by
  unfold attemptEnds
  split
  · exact .refl s
  · next w _ => exact endAttempt_quiet _ w s

end Sys2Proof.Machine

namespace Sys2Proof.Machine

/-! ### The load -/

/-- The capacities, slot by slot. -/
theorem fits_iff (s : State) :
    s.capacitiesKept = true ↔ s.hubFaults.records.length ≤ Config.rosterCapacity
      ∧ (∀ j, (s.slot j).faults.records.length ≤ Config.rosterCapacity) ∧ s.alerts.length ≤ Config.alertCapacity := by
  rw [capacitiesKept_iff]
  constructor
  · rintro ⟨hr, ha⟩
    exact ⟨roster_zero s ▸ hr 0, fun j => roster_rosterOfSlot s j ▸ hr (rosterOfSlot j), ha⟩
  · rintro ⟨hh, hs, ha⟩
    refine ⟨fun n => ?_, ha⟩
    unfold State.roster
    split
    · exact hh
    · exact hs _

/-- R176: no delivery is under way for a slot, and an Unlisted slot has no draft. -/
def Slot.Settled (x : Slot) : Prop :=
  x.draft.state ≠ .queued ∧ x.draft.state ≠ .delivering ∧ (x.table ≠ .unlisted ∨ x.draft.state = .clean)

theorem settled_of_clean {x : Slot} (h : x.draft.state = .clean) : x.Settled := by
  simp [Slot.Settled, h]

/-- What the pages of the load change: the slots, which stay settled. -/
structure Loads (s t : State) : Prop where
  seg : ∀ g, t.seg g = s.seg g
  queue : t.queue = s.queue
  loading : t.store.state = .loading ↔ s.store.state = .loading
  slots : ∀ j, (s.slot j).Settled → (t.slot j).Settled
  fits : s.capacitiesKept = true → t.capacitiesKept = true

theorem Loads.trans {s t u : State} (h : Loads s t) (k : Loads t u) : Loads s u :=
  ⟨fun g => (k.seg g).trans (h.seg g), k.queue.trans h.queue, k.loading.trans h.loading,
    fun j => k.slots j ∘ h.slots j, k.fits ∘ h.fits⟩

theorem Quiet.loads {s t : State} (q : Quiet s t) : Loads s t :=
  ⟨q.seg, q.queue, q.loading, fun j h => by
    unfold Slot.Settled at h ⊢
    rwa [bond_draft (q.bond j), bond_table (q.bond j)], q.fits⟩

theorem setSlot_loads (i : SlotIx) (y : Slot) (s : State) (hy : (s.slot i).Settled → y.Settled)
    (hf : (s.slot i).faults.records.length ≤ Config.rosterCapacity → y.faults.records.length ≤ Config.rosterCapacity) :
    Loads s (s.setSlot i y) := by
  refine ⟨fun g => g.casesOn rfl rfl, rfl, Iff.rfl, fun j hj => ?_, fun h => ?_⟩
  · by_cases h : j = i
    · subst h
      rw [slot_setSlot_same]
      exact hy hj
    · rwa [slot_setSlot_other s y h]
  · obtain ⟨hh, hs, ha⟩ := (fits_iff s).mp h
    refine (fits_iff _).mpr ⟨hh, fun j => ?_, ha⟩
    by_cases h : j = i
    · subst h
      rw [slot_setSlot_same]
      exact hf (hs j)
    · rw [slot_setSlot_other s y h]
      exact hs j

theorem loadRoster_loads (k : Fin 4) (f : Nat → Slot) (s : State) (hf : ∀ n, (f n).draft.state = .clean
    ∧ (f n).faults.records = []) : Loads s (loadRoster k f s) := by
  unfold loadRoster
  generalize (rosterSlots k).zipIdx = l
  induction l generalizing s with
  | nil => exact (Quiet.refl s).loads
  | cons x xs ih =>
    obtain ⟨hd, he⟩ := hf x.2
    exact (setSlot_loads x.1 (f x.2) s (fun _ => settled_of_clean hd) (by simp [he])).trans (ih _)

theorem modSlot_loads (i : SlotIx) (f : Slot → Slot) (s : State) (hd : (f (s.slot i)).draft.state = .clean)
    (hf : (f (s.slot i)).faults = (s.slot i).faults) : Loads s (s.modSlot i f) :=
  setSlot_loads i _ s (fun _ => settled_of_clean hd) (by simp [hf])

theorem faultsFrom_length (page : Nat) (body : List Byte) :
    (faultsFrom page body).records.length ≤ Config.rosterCapacity := by
  simp only [faultsFrom, List.length_map, List.length_range, ranged, Config.rosterCapacity]
  split
  · omega
  · have := Nat.mod_lt (Config.storedOutOfRange page 0 (byteAt body 0)) (show 0 < 12 - 0 + 1 by decide)
    omega

theorem modFaults_loads (i : SlotIx) (r : FaultRoster) (s : State) (hr : r.records.length ≤ Config.rosterCapacity) :
    Loads s (s.modSlot i fun x => { x with faults := r }) :=
  setSlot_loads i _ s id fun _ => hr

/-- R160: the watch table is no part of what the segments and the deliveries read. -/
theorem watch_quiet (w : WatchTable) (s : State) : Quiet s { s with watch := w } :=
  .ofSlots (fun g => g.casesOn rfl rfl) rfl Iff.rfl (fun _ => rfl) rfl (fun _ => rfl) rfl

theorem takePage_loads (p : PageIx) (body : List Byte) (s : State) : Loads s (takePage p body s) := by
  unfold takePage
  split
  · dsimp only
    have hwatch : Quiet s (if hasFormatMark body then { s with watch := watchOf body } else s) :=
      .ite (watch_quiet _ s) (.refl s)
    exact (hwatch.trans (modStore_quiet _ _ Iff.rfl)).loads
  · exact loadRoster_loads _ _ s fun _ => ⟨rfl, rfl⟩
  · next i _ => exact (modSlot_quiet i (fun x => { x with book := bookFrom p.val body x.book }) s (fun _ => by simp only [Slot.bond])).loads
  · next i _ => exact (modSlot_quiet i (fun x => { x with book := closedFrom p.val body x.book }) s (fun _ => by simp only [Slot.bond])).loads
  · exact modSlot_loads _ _ s rfl rfl
  · exact modFaults_loads _ _ s (faultsFrom_length _ _)
  · exact (Quiet.refl s).loads

theorem failPage_loads (p : PageIx) (s : State) : Loads s (failPage p s) := by
  unfold failPage
  split
  · exact ((watch_quiet _ s).trans (modStore_quiet _ _ Iff.rfl)).loads
  · exact loadRoster_loads _ _ s fun _ => ⟨rfl, rfl⟩
  · next i _ => exact (modSlot_quiet i (fun x => { x with book := x.book.withoutBookPage }) s).loads
  · next i _ => exact (modSlot_quiet i (fun x => { x with book := x.book.withoutClosedPage }) s).loads
  · exact modSlot_loads _ _ s rfl rfl
  · exact modFaults_loads _ _ s (Nat.zero_le _)
  · exact (Quiet.refl s).loads

theorem formatStore_loads (s : State) : Loads s (formatStore s) := by
  have hslot (j : SlotIx) : (formatStore s).slot j = Slot.unlisted := by simp [State.slot, formatStore]
  refine ⟨fun g => g.casesOn rfl rfl, rfl, Iff.rfl, fun j _ => ?_, fun h => ?_⟩
  · rw [hslot]
    exact settled_of_clean rfl
  · obtain ⟨hh, -, ha⟩ := (fits_iff s).mp h
    refine (fits_iff _).mpr ⟨hh, fun j => ?_, ha⟩
    rw [hslot]
    exact Nat.zero_le _

theorem enterLoadFailures_quiet (s : State) : Quiet s (enterLoadFailures s) :=
  Quiet.foldl (fun t p => eventFault_quiet 0 (keyPageFailed p) t) s.store.load.failed s

/-- R175: while the store is Loading, the slots are settled. -/
theorem Coherent.settled {s : State} (h : Coherent s) (hload : s.store.state = .loading) (j : SlotIx) :
    (s.slot j).Settled := by
  obtain ⟨-, hq⟩ := h.quiet hload
  have hentry := h.agrees.entry j
  simp only [State.entries, hq, List.map_nil, List.not_mem_nil, false_iff, not_or] at hentry
  exact ⟨hentry.1, hentry.2, h.agrees.listed j⟩

/-- R175: a state with settled slots, nothing in flight and an empty queue agrees. -/
theorem agrees_of_settled {s : State} (hq : s.queue = []) (hstill : ∀ g, Still g s) (hslots : ∀ j, (s.slot j).Settled) :
    Agrees s where
  nodup := by simp [State.entries, hq]
  entry j := by simp [State.entries, hq, (hslots j).1, (hslots j).2.1]
  delivering j := by simp [(hslots j).2.1, target_of_none (hstill (s.slot j).seg).2]
  listed j := (hslots j).2.2
  placed g j hg := by simp [target_of_none (hstill g).2] at hg
  aimed g j a f hg := by simp [line_of_none (hstill g).1] at hg
  owned g j a f hg := by simp [line_of_none (hstill g).1] at hg

theorem Loads.coherent {s t : State} (l : Loads s t) (h : Coherent s) (hload : s.store.state = .loading) :
    Coherent t := by
  obtain ⟨hs, hq⟩ := h.quiet hload
  have hstill (g : SegId) : Still g t := by
    unfold Still
    rw [l.seg]
    exact h.still (by simp [hs])
  exact ⟨agrees_of_settled (l.queue.trans hq) hstill fun j => l.slots j (h.settled hload j),
    fun g => by rw [l.seg]; exact h.sound g, fun _ => ⟨fun g => by rw [l.seg]; exact hs g, l.queue.trans hq⟩⟩

/-- What the load has read, before the store is Ready. -/
def loaded (s : State) : State := if mustFormat s.store then formatStore s else enterLoadFailures s

theorem endLoad_eq (s : State) :
    endLoad s =
      let u := (loaded s).modStore fun x => { x with state := .ready }
      enterStarting .b (enterStarting .a (u.forSlots u.listedSlots offerLoaded)) := rfl

theorem loaded_loads (s : State) : Loads s (loaded s) := by
  unfold loaded
  split
  · exact formatStore_loads s
  · exact (enterLoadFailures_quiet s).loads

theorem offerLoaded_within (i : SlotIx) (s : State) : Within i s (offerLoaded i s) :=
  ((settleOutcome_quiet i s).within i).trans (offerOutcome_within i _)

/-- R178: nothing is in flight once the pages are read and the store is Ready. -/
theorem ready_parted {s : State} (h : Coherent s) (hload : s.store.state = .loading) :
    Parted ((loaded s).modStore fun x => { x with state := .ready }) := by
  have l := loaded_loads s
  have ht := l.coherent h hload
  obtain ⟨hs, hq⟩ := ht.quiet (l.loading.mpr hload)
  have hstill (g : SegId) : Still g ((loaded s).modStore fun x => { x with state := .ready }) := by
    unfold Still
    rw [seg_modStore]
    exact ht.still (by simp [hs])
  exact ⟨⟨agrees_of_settled hq hstill fun j => ht.settled (l.loading.mpr hload) j,
    fun g => by rw [seg_modStore]; exact ht.sound g, nofun⟩, hstill, nofun⟩

theorem Parted.within {s t : State} {i : SlotIx} (h : Parted s) (w : Within i s t) (hl : (s.slot i).table ≠ .unlisted) :
    Parted t := by
  have hfree : (s.slot i).draft.state ≠ .delivering := fun hd => by
    simpa [target_of_none (h.still (s.slot i).seg).2] using (h.coherent.agrees.delivering i).mp hd
  refine ⟨w.coherent h.coherent (h.coherent.agrees.undelivered hl hfree) h.live, fun g => ?_, mt w.loading.mp h.live⟩
  unfold Still
  rw [w.seg]
  exact h.still g

theorem mem_listedSlots {s : State} {i : SlotIx} : i ∈ s.listedSlots ↔ (s.slot i).table ≠ .unlisted := by
  simp [State.listedSlots, allSlots, listed_iff]

theorem Within.listed {s t : State} {i j : SlotIx} (w : Within i s t) (hu : Undelivered i s)
    (hl : (s.slot j).table ≠ .unlisted) : (t.slot j).table ≠ .unlisted := by
  by_cases hj : j = i
  · subst hj
    exact (w.keeps hu).listed
  · rwa [bond_table (w.bond j hj)]

theorem Parted.undelivered {s : State} (h : Parted s) {i : SlotIx} (hl : (s.slot i).table ≠ .unlisted) :
    Undelivered i s := h.coherent.agrees.undelivered hl fun hd => by
  simpa [target_of_none (h.still (s.slot i).seg).2] using (h.coherent.agrees.delivering i).mp hd

theorem endLoad_coherent {s : State} (h : Coherent s) (hload : s.store.state = .loading) : Coherent (endLoad s) := by
  rw [endLoad_eq]
  dsimp only
  set u := (loaded s).modStore fun x => { x with state := .ready } with hu
  have hu : Parted u := ready_parted h hload
  have hoffers := forSlots_induction
    (P := fun v => Parted v ∧ ∀ j ∈ u.listedSlots, (v.slot j).table ≠ .unlisted) (f := offerLoaded) u.listedSlots
    ⟨hu, fun j hj => mem_listedSlots.mp hj⟩ fun i hi v ⟨hv, hl⟩ =>
      ⟨hv.within (offerLoaded_within i v) (hl i hi),
        fun j hj => (offerLoaded_within i v).listed (hv.undelivered (hl i hi)) (hl j hj)⟩
  exact ((hoffers.1.enterStarting .a).enterStarting .b).coherent

theorem advanceLoad_coherent {s : State} (h : Coherent s) (hload : s.store.state = .loading) :
    Coherent (advanceLoad s) := by
  unfold advanceLoad
  split
  · exact (modStore_quiet _ s Iff.rfl).coherent h
  · exact endLoad_coherent h hload

/-- A page's content is taken, the store's marks for it are set, and the load goes on. -/
theorem Loads.advance_coherent {s t : State} (l : Loads s t) (h : Coherent s) (hload : s.store.state = .loading)
    (f : Store → Store) (hf : (f t.store).state = t.store.state) : Coherent (advanceLoad (t.modStore f)) := by
  have hl : (t.modStore f).store.state = .loading := hf.trans (l.loading.mpr hload)
  exact advanceLoad_coherent ((l.trans (modStore_quiet f t (by rw [hf])).loads).coherent h hload) hl

theorem readFails_coherent {s : State} (h : Coherent s) (hload : s.store.state = .loading) :
    Coherent (readFails s) := by
  unfold readFails
  split
  · exact (modStore_quiet _ s Iff.rfl).coherent h
  · exact (failPage_loads _ s).advance_coherent h hload _ rfl

theorem readCompletes_coherent {s : State} (h : Coherent s) (bytes : List Byte) (hload : s.store.state = .loading) :
    Coherent (readCompletes bytes s) := by
  unfold readCompletes
  dsimp only
  split
  · exact (takePage_loads _ _ s).advance_coherent h hload _ rfl
  · exact readFails_coherent h hload

theorem storePageRead_coherent {s : State} (h : Coherent s) (bytes : List Byte) :
    Coherent (storePageRead bytes s) := by
  unfold storePageRead
  split
  · next hload => exact readCompletes_coherent h bytes hload
  · exact h

theorem pageReadTimeout_coherent {s : State} (h : Coherent s) : Coherent (pageReadTimeout s) := by
  unfold pageReadTimeout
  split
  · next hload => exact readFails_coherent h hload
  · exact h

end Sys2Proof.Machine

namespace Sys2Proof.Machine

/-! ### Every command -/

/-- What each command does to the state, before the write queue is pumped. -/
def effect : Instr → State → State
  | .powerOn node speed => powerOn node speed
  | .storePageRead bytes => storePageRead bytes
  | .pageReadTimeout => pageReadTimeout
  | .clockTick => clockTick
  | .dueTimerRun slot timer => dueTimerRun slot timer
  | .transmitFrame g => transmitFrame g
  | .guardEnd g => guardEnd g
  | .collision g cause => collision g cause
  | .answerWindowExpiry g => answerWindowExpiry g
  | .answerComplete g gs status rest => answerComplete g gs status rest
  | .completionDeadline g => completionDeadline g
  | .quietWaitEnd g => endGarbled g
  | .hardLimit g => endGarbled g
  | .strayCharacter g char => strayCharacter g char
  | .lineFaultAsserted g kind => lineFaultAsserted g kind
  | .lineFaultDeasserted g kind => lineFaultDeasserted g kind
  | .driverStuck g => driverStuck g
  | .startIdleElapsed g => startIdleElapsed g
  | .closingTimeout slot => endPolling slot false
  | .storeWriteVerify readback => attemptEnds (some readback)
  | .storeTransferTimeout => attemptEnds none
  | .requestFrame p frame => requestFrame p frame
  | .frameByteTimeout p => frameByteTimeout p
  | .answerSent p => answerSent p
  | .collectorUnplugged => unplugCollector
  | .collectorPlugged => plugCollector
  | .readStatus p => takeRequest p .readStatus
  | .setClock p value => takeRequest p (.setClock value)
  | .restartHub p => takeRequest p .restartHub
  | .readRoster p slot => takeRequest p (.readRoster slot)
  | .writeRosterEntry p slot entry => takeRequest p (.writeRosterEntry slot entry)
  | .removeTable p slot => takeRequest p (.removeTable slot)
  | .setRegulation p slot arg => takeRequest p (.setRegulation slot arg)
  | .setLineParameters p g arg => takeRequest p (.setLineParameters g arg)
  | .haltSegment p g => takeRequest p (.haltSegment g)
  | .resumeSegment p g => takeRequest p (.resumeSegment g)
  | .readAudits p slot view => takeRequest p (.readAudits slot view)
  | .closePeriod p slot => takeRequest p (.closePeriod slot)
  | .readSettings p slot => takeRequest p (.readSettings slot)
  | .readDraft p slot reserve => takeRequest p (.readDraft slot reserve)
  | .setItems p slot pairs => takeRequest p (.setItems slot pairs)
  | .submitDraft p slot priority => takeRequest p (.submitDraft slot priority)
  | .discardDraft p slot => takeRequest p (.discardDraft slot)
  | .withdrawDelivery p slot => takeRequest p (.withdrawDelivery slot)
  | .readFaults p roster => takeRequest p (.readFaults roster)
  | .acknowledgeFaults p roster key => takeRequest p (.acknowledgeFaults roster key)
  | .setWatchRules p arg => takeRequest p (.setWatchRules arg)
  | .takeAlerts p count => takeRequest p (.takeAlerts count)
  | .acknowledgeStoreFault p => takeRequest p .acknowledgeStoreFault
  | .answerCharacterTaken g char => takeAnswerCharacter g char
  | .portByteReceived p byte framingError => portByte p byte framingError

theorem exec_eq (c : Instr) (s : State) : exec c s = .next (pumpStore (effect c s)) := by
  cases c <;> rfl

theorem step_cases {s t : State} (h : step s = .next t) :
    t = s ∨ ∃ c rest, t = pumpStore (effect c (s.withPending rest)) := by
  unfold step at h
  split at h
  · exact .inl (Host.Outcome.next.inj h).symm
  · next c rest _ =>
    rw [exec_eq] at h
    exact .inr ⟨c, rest, (Host.Outcome.next.inj h).symm⟩

theorem withPending_quiet (q : List Instr) (s : State) : Quiet s (s.withPending q) :=
  .ofSlots (fun g => g.casesOn rfl rfl) rfl Iff.rfl (fun _ => rfl) rfl (fun _ => rfl) rfl

theorem effect_coherent {s : State} (h : Coherent s) (c : Instr) : Coherent (effect c s) := by
  cases c with
  | powerOn node speed => exact powerOn_coherent node speed s
  | storePageRead bytes => exact storePageRead_coherent h bytes
  | pageReadTimeout => exact pageReadTimeout_coherent h
  | clockTick => exact ((tick_quiet s).coherent h).chooseBoth
  | dueTimerRun i t => exact dueTimerRun_coherent h i t
  | transmitFrame g => exact transmitFrame_coherent h g
  | guardEnd g => exact guardEnd_coherent h g
  | collision g cause => exact collision_coherent h g cause
  | answerWindowExpiry g => exact answerWindowExpiry_coherent h g
  | answerComplete g gs status rest => exact answerComplete_coherent h g gs status rest
  | completionDeadline g => exact completionDeadline_coherent h g
  | quietWaitEnd g => exact endGarbled_coherent h g
  | hardLimit g => exact endGarbled_coherent h g
  | strayCharacter g c => exact strayCharacter_coherent h g c
  | lineFaultAsserted g kind => exact lineFaultAsserted_coherent h g kind
  | lineFaultDeasserted g kind => exact lineFaultDeasserted_coherent h g kind
  | driverStuck g => exact driverStuck_coherent h g
  | startIdleElapsed g => exact startIdleElapsed_coherent h g
  | closingTimeout i => exact (endPolling_quiet i false s).coherent h
  | storeWriteVerify readback => exact (attemptEnds_quiet _ s).coherent h
  | storeTransferTimeout => exact (attemptEnds_quiet _ s).coherent h
  | requestFrame p frame => exact requestFrame_coherent h p frame
  | frameByteTimeout p => exact (setReceiver_quiet p _ s).coherent h
  | answerSent p => exact (answerSent_quiet p s).coherent h
  | collectorUnplugged => exact unplugCollector_coherent h
  | collectorPlugged => exact (plugCollector_quiet s).coherent h
  | answerCharacterTaken g c => exact takeAnswerCharacter_coherent h g c
  | portByteReceived p b e => exact portByte_coherent h p b e
  | _ => exact takeRequest_coherent h _ _

theorem step_coherent {s t : State} (h : Coherent s) (ht : step s = .next t) : Coherent t := by
  rcases step_cases ht with rfl | ⟨c, rest, rfl⟩
  · exact h
  · exact (pumpStore_quiet _).coherent (effect_coherent ((withPending_quiet rest s).coherent h) c)

/-- Settles O4: each command keeps the propositions that `State.coherent` stands for (`Coherent`), by one lemma per
operation; most operations change nothing that the propositions read (`Quiet`) or one slot alone (`Within`). -/
theorem coherenceKept : Obligations.CoherenceKept := by
  unfold Obligations.CoherenceKept
  intro s t hs ht
  exact (coherent_iff t).mpr (step_coherent ((coherent_iff s).mp hs) ht)

end Sys2Proof.Machine

namespace Sys2Proof.Machine

/-! ## Capacities and ranges (R152, R164, R17) -/

/-- The ranges of the line parameters and the capacities of rosters and alert queue are kept. -/
structure Tame (s t : State) : Prop where
  ranges : (∀ g, (s.seg g).params.inRange) → ∀ g, (t.seg g).params.inRange
  fits : s.capacitiesKept = true → t.capacitiesKept = true

theorem Tame.refl (s : State) : Tame s s := ⟨id, id⟩

theorem Tame.trans {s t u : State} (h : Tame s t) (k : Tame t u) : Tame s u := ⟨k.ranges ∘ h.ranges, k.fits ∘ h.fits⟩

theorem Tame.ite {s t u : State} {c : Prop} [Decidable c] (ht : Tame s t) (hu : Tame s u) :
    Tame s (if c then t else u) := by
  split <;> assumption

theorem Tame.forSlots {f : SlotIx → State → State} (h : ∀ i s, Tame s (f i s)) (is : List SlotIx) (s : State) :
    Tame s (s.forSlots is f) :=
  forSlots_induction (P := Tame s) is (.refl s) fun i _ u hu => hu.trans (h i u)

theorem Mild.tame {word : Prop} {s t : State} (m : Mild word s t) : Tame s t :=
  ⟨fun h g => m.params g ▸ h g, m.fits⟩

theorem Quiet.tame {s t : State} (q : Quiet s t) : Tame s t := (q.mild False).tame

theorem Within.tame {i : SlotIx} {s t : State} (w : Within i s t) : Tame s t := w.toMild.tame

theorem Loads.tame {s t : State} (l : Loads s t) : Tame s t :=
  ⟨fun h g => by rw [l.seg]; exact h g, l.fits⟩

theorem setSlot_tame (i : SlotIx) (y : Slot) (s : State)
    (hf : (s.slot i).faults.records.length ≤ Config.rosterCapacity → y.faults.records.length ≤ Config.rosterCapacity) :
    Tame s (s.setSlot i y) := by
  refine ⟨fun h g => by rw [seg_setSlot]; exact h g, fun h => ?_⟩
  obtain ⟨hh, hs, ha⟩ := (fits_iff s).mp h
  refine (fits_iff _).mpr ⟨hh, fun j => ?_, ha⟩
  by_cases h : j = i
  · subst h
    rw [slot_setSlot_same]
    exact hf (hs j)
  · rw [slot_setSlot_other s y h]
    exact hs j

theorem modSlot_tame (i : SlotIx) (f : Slot → Slot) (s : State)
    (hf : (f (s.slot i)).faults = (s.slot i).faults := by rfl) : Tame s (s.modSlot i f) :=
  setSlot_tame i _ s (by simp [hf])

theorem modSeg_tame (g : SegId) (f : Segment → Segment) (s : State)
    (hf : (s.seg g).params.inRange → (f (s.seg g)).params.inRange) : Tame s (s.modSeg g f) := by
  refine ⟨fun h k => ?_, fits_of_same (by simp) (by simp) (by simp)⟩
  by_cases hk : k = g
  · subst hk
    rw [seg_modSeg_same]
    exact hf (h k)
  · rw [seg_modSeg_other s f hk]
    exact h k

/-! ### The requests that are more than mild -/

theorem modEntry_tame (i : SlotIx) (f : DeliveryEntry → DeliveryEntry) (s : State) : Tame s (modEntry i f s) :=
  (modEntry_mild i f s).tame

theorem listSlot_tame (i : SlotIx) (e : RosterArg) (s : State) : Tame s (listSlot i e s) :=
  (setSlot_tame i _ s fun _ => Nat.zero_le _).trans (enqueuePages_quiet _ _).tame

theorem editSlot_tame (i : SlotIx) (e : RosterArg) (s : State) : Tame s (editSlot i e s) := by
  have hentry := modSlot_tame i (fun y => y.withEntry e) s
  have hmoved : Tame s (if (s.slot i).seg = e.seg ∧ (s.slot i).addr = e.addr.toNat then
      s.modSlot i fun y => y.withEntry e else
      (absentByRequest i (s.modSlot i fun y => y.withEntry e)).modSlot i fun y =>
        { y with game := none, due := DueRecord.listed }) :=
    .ite hentry (hentry.trans ((absentByRequest_mild i _).tame.trans (modSlot_tame i _ _)))
  exact (hmoved.trans (.ite (.refl _) ((dropOutcome_quiet i _).trans (resetWindow_quiet i _)).tame)).trans
    (enqueuePage_quiet _ _).tame

theorem serveWriteRosterEntry_tame (p : PortId) (slot : Byte) (e : RosterArg) (s : State) :
    Tame s (serveWriteRosterEntry p slot e s) := by
  unfold serveWriteRosterEntry
  split
  · exact (answer_quiet p _ _ s).tame
  · next i _ =>
    exact .ite (answer_quiet p _ _ s).tame (.ite (answer_quiet p _ _ s).tame
      ((Tame.ite (editSlot_tame i e s) (listSlot_tame i e s)).trans (answer_quiet p _ _ _).tame))

theorem serveRemoveTable_tame (p : PortId) (slot : Byte) (s : State) : Tame s (serveRemoveTable p slot s) := by
  unfold serveRemoveTable
  split
  · exact (answer_quiet p _ _ s).tame
  · next i _ =>
    have hremoved : Tame s (removeSlot i s) :=
      (endPolling_quiet i false s).tame.trans ((removeEntry_mild i _).tame.trans
        ((clearReservations_quiet i _).tame.trans
          ((setSlot_tame i _ _ fun _ => Nat.zero_le _).trans (enqueuePages_quiet _ _).tame)))
    exact .ite (answer_quiet p _ _ s).tame (.ite (answer_quiet p _ _ s).tame
      (hremoved.trans (answer_quiet p _ _ _).tame))

theorem restartDropped_tame (p : PortId) (s : State) : Tame s (restartDropped p s) :=
  ⟨fun h g => by rw [seg_restartDropped]; exact h g,
    fits_of_same rfl (fun j => by rw [slot_restartDropped]; rfl) rfl⟩

theorem restartSegment_mild (g : SegId) (s : State) : Mild False s (restartSegment g s) :=
  (modSeg_mild g _ s).trans ((abandonExchange_mild g _).trans (suspendDelivery_mild g _))

theorem restartTable_tame (i : SlotIx) (s : State) : Tame s (restartTable i s) :=
  (absentByRequest_mild i s).tame.trans (modSlot_tame i _ _)

theorem restartLine_mild (g : SegId) (s : State) : Mild False s (restartLine g s) :=
  ((garbleReset_garbleOnly g s).mild False).trans
    (modSeg_mild g (fun y => { y with collisions := 0, pointer := none }) _)

theorem serveRestartHub_tame (p : PortId) (s : State) : Tame s (serveRestartHub p s) := by
  rw [serveRestartHub_eq]
  have hsegments := (restartDropped_tame p s).trans ((restartSegment_mild .a _).trans (restartSegment_mild .b _)).tame
  have htables := hsegments.trans (Tame.forSlots restartTable_tame
    (restartSegment .b (restartSegment .a (restartDropped p s))).listedSlots _)
  have hlines := htables.trans ((restartLine_mild .a _).trans (restartLine_mild .b _)).tame
  exact (hlines.trans ((enterStarting_mild .a _).trans (enterStarting_mild .b _)).tame).trans
    (answer_quiet p _ _ _).tame

theorem clamp_inRange {lo hi old : Nat} (h : lo ≤ old ∧ old ≤ hi) (v : Option Nat) :
    lo ≤ (writeClamped lo hi old v).1 ∧ (writeClamped lo hi old v).1 ≤ hi := by
  cases v with
  | none => exact h
  | some v =>
    simp only [writeClamped, clamp]
    omega

/-- R17: the parameters that Set Line Parameters writes are in their ranges. -/
theorem write_inRange {x : LineParams} (h : x.inRange) (a : LineParamsArg) : (x.write a).1.inRange := by
  obtain ⟨hguard, hwindow, hthreshold, hfault, hmeter, hcheck, hprobe⟩ := h
  exact ⟨(clamp_inRange ⟨Nat.zero_le _, hguard⟩ _).2, clamp_inRange hwindow _, clamp_inRange hthreshold _,
    clamp_inRange hfault _, clamp_inRange hmeter _, clamp_inRange hcheck _, clamp_inRange hprobe _⟩

theorem serveSetLineParameters_tame (p : PortId) (g : SegId) (a : LineParamsArg) (s : State) :
    Tame s (serveSetLineParameters p g a s) := by
  unfold serveSetLineParameters
  refine .ite (answer_quiet p _ _ s).tame (.ite (answer_quiet p _ _ s).tame ?_)
  have hw := modSeg_tame g (fun y => { y with params := ((s.seg g).params.write a).1 }) s fun h => write_inRange h a
  exact (hw.trans (.ite ((garbleReset_garbleOnly g _).mild False).tame (.refl _))).trans (answer_quiet p _ _ _).tame

theorem serveHaltSegment_tame (p : PortId) (g : SegId) (s : State) : Tame s (serveHaltSegment p g s) := by
  have hhalt : Tame s (answer p .done [] (haltNow g s)) := (haltNow_mild g s).tame.trans (answer_quiet p _ _ _).tame
  unfold serveHaltSegment
  split
  · exact (answer_quiet p _ _ s).tame
  · exact hhalt
  · exact hhalt
  · exact .ite hhalt (modSeg_mild g _ s).tame

theorem resumeNow_mild (g : SegId) (s : State) : Mild False s (resumeNow g s) := by
  have hloop : Mild False (garbleReset g s) ((garbleReset g s).forSlots ((garbleReset g s).slotsOf g) absentByRequest) :=
    forSlots_induction (P := Mild False (garbleReset g s)) _ (.refl _ _) fun i _ u hu =>
      hu.trans (absentByRequest_mild i u)
  exact (((garbleReset_garbleOnly g s).mild False).trans hloop).trans
    ((modSeg_mild g (fun y => { y with pointer := none }) _).trans (enterStarting_mild g _))

theorem serveResumeSegment_tame (p : PortId) (g : SegId) (s : State) : Tame s (serveResumeSegment p g s) := by
  unfold serveResumeSegment
  split
  · exact (resumeNow_mild g s).tame.trans (answer_quiet p _ _ _).tame
  · exact (resumeNow_mild g s).tame.trans (answer_quiet p _ _ _).tame
  · exact (answer_quiet p _ _ s).tame
  · exact (answer_quiet p _ _ s).tame

end Sys2Proof.Machine

namespace Sys2Proof.Machine

/-! ### Every command keeps capacities and ranges -/

/-- The delivery queue alone changes. -/
theorem queue_tame (q : List DeliveryEntry) (s : State) : Tame s { s with queue := q } :=
  ⟨fun h g => g.casesOn (h .a) (h .b), fits_of_same rfl (fun _ => rfl) rfl⟩

theorem serveSetItems_tame (p : PortId) (slot : Byte) (pairs : List (Byte × Half)) (s : State) :
    Tame s (serveSetItems p slot pairs s) := by
  have hset (i : SlotIx) (r : Identity) : Tame s (setItems p i r pairs s) := by
    have hdraft := modSlot_tame i (fun y => { y with
      draft := { pairs.foldl (fun d e => d.setItem r e) (s.slot i).draft with state := .edited }
      confirmed := false }) s
    exact ((hdraft.trans (.ite (modPort_quiet (otherPort p) _ _).tame (.refl _))).trans
      (.ite ((dropOutcome_quiet i _).trans (resetWindow_quiet i _)).tame (.refl _))).trans (answer_quiet p _ _ _).tame
  unfold serveSetItems
  split
  · exact (refuseRequest_quiet p _ s).tame
  · exact (refuseRequest_quiet p _ s).tame
  · split
    · exact (refuseRequest_quiet p _ s).tame
    · exact hset _ _

theorem cleanDraft_tame (i : SlotIx) (s : State) :
    Tame s (offerOutcome i (clearReservations i (s.modSlot i Slot.withCleanDraft))) :=
  (modSlot_tame i Slot.withCleanDraft s).trans
    ((clearReservations_quiet i _).tame.trans (offerOutcome_within i _).tame)

theorem submitDraft_tame (p : PortId) (i : SlotIx) (priority : Byte) (s : State) :
    Tame s (submitDraft p i priority s) :=
  .ite (((cleanDraft_tame i s).trans (answer_quiet p _ _ _).tame).trans (choose_mild _ _).tame)
    ((((modSlot_tame i (fun x => { x with draft := { x.draft with state := .queued } }) s).trans
      (queue_tame _ _)).trans ((modSlot_quiet i (fun y => { y with confirmed := false }) _).trans
        ((clearReservations_quiet i _).trans (answer_quiet p _ _ _))).tame).trans (choose_mild _ _).tame)

theorem serveSubmitDraft_tame (p : PortId) (slot priority : Byte) (s : State) :
    Tame s (serveSubmitDraft p slot priority s) := by
  unfold serveSubmitDraft
  split
  · exact (refuseRequest_quiet p _ s).tame
  · next i _ =>
    split
    · exact (refuseRequest_quiet p _ s).tame
    · exact submitDraft_tame p i priority s

theorem serveDiscardDraft_tame (p : PortId) (slot : Byte) (s : State) : Tame s (serveDiscardDraft p slot s) := by
  have hdiscard (i : SlotIx) : Tame s (discardDraft p i s) :=
    ((cleanDraft_tame i s).trans (answer_quiet p _ _ _).tame).trans (choose_mild _ _).tame
  unfold serveDiscardDraft
  split
  · exact (refuseRequest_quiet p _ s).tame
  · next i _ =>
    refine .ite (refuseRequest_quiet p _ s).tame ?_
    split
    · exact (refuseRequest_quiet p _ s).tame
    · exact (refuseRequest_quiet p _ s).tame
    · exact hdiscard i
    · exact hdiscard i

theorem serveWithdrawDelivery_tame (p : PortId) (slot : Byte) (s : State) :
    Tame s (serveWithdrawDelivery p slot s) := by
  unfold serveWithdrawDelivery
  split
  · exact (refuseRequest_quiet p _ s).tame
  · next i _ =>
    refine .ite (refuseRequest_quiet p _ s).tame ?_
    split
    · exact (withdrawEntry_within i (some p) s).tame
    · exact .ite (refuseRequest_quiet p _ s).tame (modEntry_tame i _ s)
    · exact .ite (answer_quiet p _ _ s).tame (refuseRequest_quiet p _ s).tame
    · exact (refuseRequest_quiet p _ s).tame

theorem chooseBoth_mild (s : State) : Mild False s (chooseBoth s) := (choose_mild .a s).trans (choose_mild .b _)

theorem serveClosePeriod_tame (p : PortId) (slot : Byte) (s : State) : Tame s (serveClosePeriod p slot s) := by
  unfold serveClosePeriod
  refine .ite ((closeAll_quiet p s).tame.trans (chooseBoth_mild _).tame) ?_
  split
  · exact (refuseRequest_quiet p _ s).tame
  · next i _ =>
    exact .ite (refuseRequest_quiet p _ s).tame (.ite (refuseRequest_quiet p _ s).tame
      ((startClose_quiet i p false s).tame.trans (choose_mild _ _).tame))

theorem serve_tame (p : PortId) (r : Request) (s : State) (hlive : s.store.state ≠ .loading) : Tame s (serve p r s) := by
  cases r with
  | readStatus => exact (serveReadStatus_quiet p s).tame
  | setClock v => exact (serveSetClock_quiet p v s).tame
  | restartHub => exact serveRestartHub_tame p s
  | readRoster slot => exact (serveReadRoster_quiet p slot s).tame
  | writeRosterEntry slot e => exact serveWriteRosterEntry_tame p slot e s
  | removeTable slot => exact serveRemoveTable_tame p slot s
  | setRegulation slot a => exact (serveSetRegulation_quiet p slot a s).tame
  | setLineParameters g a => exact serveSetLineParameters_tame p g a s
  | haltSegment g => exact serveHaltSegment_tame p g s
  | resumeSegment g => exact serveResumeSegment_tame p g s
  | readAudits slot view => exact (serveReadAudits_quiet p slot view s).tame
  | closePeriod slot => exact serveClosePeriod_tame p slot s
  | readSettings slot => exact (serveReadSettings_quiet p slot s).tame
  | readDraft slot reserve => exact (serveReadDraft_quiet p slot reserve s).tame
  | setItems slot pairs => exact serveSetItems_tame p slot pairs s
  | submitDraft slot priority => exact serveSubmitDraft_tame p slot priority s
  | discardDraft slot => exact serveDiscardDraft_tame p slot s
  | withdrawDelivery slot => exact serveWithdrawDelivery_tame p slot s
  | readFaults roster => exact (serveReadFaults_quiet p roster s).tame
  | acknowledgeFaults roster key => exact (serveAcknowledgeFaults_quiet p roster key s).tame
  | setWatchRules a => exact (serveSetWatchRules_quiet p a s).tame
  | takeAlerts count => exact (serveTakeAlerts_quiet p count s).tame
  | acknowledgeStoreFault => exact (serveAcknowledgeStoreFault_quiet p s hlive).tame

theorem serve_hold_tame {p : PortId} {s : State} (kind : Byte) (r : Request) (hfree : frameRefusal p s = none) :
    Tame s (serve p r (holdRequest p kind s)) :=
  (modPort_quiet p _ s).tame.trans (serve_tame p r _ (mt (modPort_quiet p _ s).loading.mp (live_of_frameRefusal hfree)))

theorem takeRequest_tame (p : PortId) (r : Request) (s : State) : Tame s (takeRequest p r s) := by
  unfold takeRequest
  refine .ite (.refl s) ?_
  split
  · exact (refuseFrame_quiet p _ _ s).tame
  · next hfree => exact serve_hold_tame _ r hfree

theorem takeFrame_tame (p : PortId) (frame : List Byte) (s : State) : Tame s (takeFrame p frame s) := by
  unfold takeFrame
  refine .ite (refuseFrame_quiet p _ _ s).tame ?_
  split
  · exact (refuseFrame_quiet p _ _ s).tame
  · next hfree =>
    refine .ite (refuseFrame_quiet p _ _ s).tame ?_
    dsimp only
    split
    · exact ((modPort_quiet p _ s).trans (refuseRequest_quiet p _ _)).tame
    · next r _ => exact serve_hold_tame _ r hfree

theorem storeByte_tame (p : PortId) (buffer : List Byte) (s : State) : Tame s (storeByte p buffer s) :=
  .ite (setReceiver_quiet p _ s).tame
    (.ite ((setReceiver_quiet p _ s).tame.trans (takeFrame_tame p buffer _)) (setReceiver_quiet p _ s).tame)

theorem portByte_tame (p : PortId) (b : Byte) (framingError : Bool) (s : State) :
    Tame s (portByte p b framingError s) := by
  unfold portByte
  refine .ite (.refl s) (.ite (setReceiver_quiet p _ s).tame ?_)
  split
  · exact .ite (setReceiver_quiet p _ s).tame (.refl s)
  · exact storeByte_tame p _ s

theorem requestFrame_tame (p : PortId) (frame : List Byte) (s : State) : Tame s (requestFrame p frame s) :=
  .ite (.refl s) (.ite ((setReceiver_quiet p _ s).tame.trans (takeFrame_tame p frame _)) (setReceiver_quiet p _ s).tame)

theorem modExchange_mild (g : SegId) (f : Exchange → Exchange) (s : State) : Mild False s (modExchange g f s) :=
  modSeg_mild g (fun y => { y with exchange := y.exchange.map f }) s

theorem setPhase_mild (g : SegId) (ph : Phase) (s : State) : Mild False s (setPhase g ph s) := modExchange_mild g _ s

theorem setDriver_mild (g : SegId) (on : Bool) (s : State) : Mild False s (setDriver g on s) :=
  modSeg_mild g (fun y => { y with driverOn := on }) s

theorem setInput_mild (g : SegId) (kind : LineFaultKind) (b : Bool) (s : State) : Mild False s (setInput g kind b s) :=
  modSeg_mild g (fun y => { y with inputs := y.inputs.put kind b }) s

theorem gameTaken_tame (i : SlotIx) (o : ExOutcome) (s : State) : Tame s (gameTaken i o s) := by
  unfold gameTaken
  split
  · exact .refl s
  · next gs _ =>
    exact modSlot_tame i (fun x =>
      { x with game := some gs, localCheck := x.localCheck || (gs == .attract && x.game == some .service) }) s

theorem endExchange_tame (g : SegId) (o : ExOutcome) (s : State) : Tame s (endExchange g o s) := by
  rw [endExchange_eq]
  split
  · exact .refl s
  · next x _ =>
    have hhanded : Tame s (handOn g x o (cleared g s)) :=
      (cleared_mild g s).tame.trans ((gameTaken_tame x.slot o _).trans (handOn_mild g x o _).tame)
    exact hhanded.trans (.ite (haltNow_mild g _).tame (choose_mild g _).tame)

theorem transmitFrame_tame (g : SegId) (s : State) : Tame s (transmitFrame g s) :=
  .ite ((setPhase_mild g _ s).trans (setDriver_mild g _ _)).tame (.refl s)

theorem guardEnd_tame (g : SegId) (s : State) : Tame s (guardEnd g s) := by
  unfold guardEnd
  split
  · exact ((setPhase_mild g _ s).trans (setDriver_mild g _ _)).tame
  · exact (setDriver_mild g _ s).tame
  · exact .refl s

theorem collision_tame (g : SegId) (cause : CollisionCause) (s : State) : Tame s (collision g cause s) := by
  unfold collision
  split
  · exact .refl s
  · exact .ite ((modSeg_mild g (fun y => { y with collisions := saturate Config.counterCeiling (y.collisions + 1) })
      s).trans (setPhase_mild g _ _)).tame (.refl s)

theorem takeAnswerCharacter_tame (g : SegId) (c : LineChar) (s : State) : Tame s (takeAnswerCharacter g c s) := by
  unfold takeAnswerCharacter
  split
  · exact .refl s
  · refine .ite ?_ (.refl s)
    split
    · exact (modExchange_mild g _ s).tame
    · exact (setPhase_mild g _ s).tame
    · exact endExchange_tame g _ s

theorem answerComplete_tame (g : SegId) (gs : GameState) (status : AnswerStatus) (rest : List Byte) (s : State) :
    Tame s (answerComplete g gs status rest s) := by
  unfold answerComplete
  split
  · exact .refl s
  · exact .ite (endExchange_tame g _ s) (.refl s)

theorem lineFaultAsserted_tame (g : SegId) (kind : LineFaultKind) (s : State) :
    Tame s (lineFaultAsserted g kind s) := by
  have hinput := (setInput_mild g kind true s).tame
  have hopen := hinput.trans (openCondition_quiet 0 (keyLine g kind) _).tame
  have hfault := hopen.trans (faultNow_mild g _).tame
  unfold lineFaultAsserted
  refine .ite (.refl s) ?_
  dsimp only
  split
  · exact hinput
  · exact hopen
  · exact hfault
  · exact hfault

theorem lineFaultDeasserted_tame (g : SegId) (kind : LineFaultKind) (s : State) :
    Tame s (lineFaultDeasserted g kind s) :=
  .ite ((setInput_mild g kind false s).tame.trans (endCondition_quiet 0 _ _).tame) (.refl s)

theorem driverStuck_tame (g : SegId) (s : State) : Tame s (driverStuck g s) :=
  .ite ((openCondition_quiet 0 _ s).tame.trans (faultNow_mild g _).tame) (.refl s)

theorem startIdleElapsed_tame (g : SegId) (s : State) : Tame s (startIdleElapsed g s) :=
  .ite ((modSeg_mild g (fun y => { y with state := .running }) s).tame.trans
    ((endCondition_quiet 0 _ _).tame.trans (choose_mild g _).tame)) (.refl s)

theorem dueTimerRun_tame (i : SlotIx) (t : DueTimer) (s : State) : Tame s (dueTimerRun i t s) :=
  .ite ((modSlot_tame i _ s).trans (choose_mild _ _).tame) (.refl s)

theorem powerOn_tame (node : BitVec 6) (speed : BitVec 2) (s : State) : Tame s (powerOn node speed s) := by
  refine ⟨fun _ g => ?_, fun _ => (fits_iff _).mpr ⟨Nat.zero_le _, fun j => ?_, by simp [powerOn, State.powerOn, Config.alertCapacity]⟩⟩
  · obtain ⟨inputs, hg⟩ := seg_powerOn node speed s.segA.inputs s.segB.inputs s.pending g
    rw [powerOn, hg]
    simp [Segment.powerOn, LineParams.default, LineParams.inRange]
  · rw [powerOn, slot_powerOn]
    exact Nat.zero_le _

theorem unplugCollector_tame (s : State) : Tame s (unplugCollector s) := by
  refine .ite ⟨fun h g => ?_, fits_of_same rfl (fun j => ?_) rfl⟩ (.refl s)
  · cases g
    · exact h .a
    · exact h .b
  · rw [slot_mapSlots s _ _ rfl]

theorem endLoad_tame (s : State) : Tame s (endLoad s) := by
  have hready : Tame s ((loaded s).modStore fun x => { x with state := .ready }) :=
    (loaded_loads s).tame.trans ⟨fun h g => by rw [seg_modStore]; exact h g, fits_of_same rfl (fun _ => rfl) rfl⟩
  exact (hready.trans (Tame.forSlots (fun i v => (offerLoaded_within i v).tame) _ _)).trans
    ((enterStarting_mild .a _).trans (enterStarting_mild .b _)).tame

theorem advanceLoad_tame (s : State) : Tame s (advanceLoad s) := by
  unfold advanceLoad
  split
  · exact (modStore_quiet _ s Iff.rfl).tame
  · exact endLoad_tame s

theorem readFails_tame (s : State) : Tame s (readFails s) :=
  .ite (modStore_quiet _ s Iff.rfl).tame
    ((failPage_loads s.store.load.page s).tame.trans ((modStore_quiet _ _ Iff.rfl).tame.trans (advanceLoad_tame _)))

theorem readCompletes_tame (bytes : List Byte) (s : State) : Tame s (readCompletes bytes s) :=
  .ite ((takePage_loads s.store.load.page ((bytes.drop 4).take 250) s).tame.trans
    ((modStore_quiet _ _ Iff.rfl).tame.trans (advanceLoad_tame _))) (readFails_tame s)

theorem effect_tame (c : Instr) (s : State) : Tame s (effect c s) := by
  cases c with
  | powerOn node speed => exact powerOn_tame node speed s
  | storePageRead bytes => exact .ite (readCompletes_tame bytes s) (.refl s)
  | pageReadTimeout => exact .ite (readFails_tame s) (.refl s)
  | clockTick => exact (tick_quiet s).tame.trans (chooseBoth_mild _).tame
  | dueTimerRun i t => exact dueTimerRun_tame i t s
  | transmitFrame g => exact transmitFrame_tame g s
  | guardEnd g => exact guardEnd_tame g s
  | collision g cause => exact collision_tame g cause s
  | answerWindowExpiry g => exact .ite (endExchange_tame g _ s) (.refl s)
  | answerComplete g gs status rest => exact answerComplete_tame g gs status rest s
  | completionDeadline g => exact .ite (setPhase_mild g _ s).tame (.refl s)
  | quietWaitEnd g => exact .ite (endExchange_tame g _ s) (.refl s)
  | hardLimit g => exact .ite (endExchange_tame g _ s) (.refl s)
  | strayCharacter g c => exact .ite ((garbleRise_garbleOnly g s).mild False).tame (.refl s)
  | lineFaultAsserted g kind => exact lineFaultAsserted_tame g kind s
  | lineFaultDeasserted g kind => exact lineFaultDeasserted_tame g kind s
  | driverStuck g => exact driverStuck_tame g s
  | startIdleElapsed g => exact startIdleElapsed_tame g s
  | closingTimeout i => exact (endPolling_quiet i false s).tame
  | storeWriteVerify readback => exact (attemptEnds_quiet _ s).tame
  | storeTransferTimeout => exact (attemptEnds_quiet _ s).tame
  | requestFrame p frame => exact requestFrame_tame p frame s
  | frameByteTimeout p => exact (setReceiver_quiet p _ s).tame
  | answerSent p => exact (answerSent_quiet p s).tame
  | collectorUnplugged => exact unplugCollector_tame s
  | collectorPlugged => exact (plugCollector_quiet s).tame
  | answerCharacterTaken g c => exact takeAnswerCharacter_tame g c s
  | portByteReceived p b e => exact portByte_tame p b e s
  | _ => exact takeRequest_tame _ _ s

theorem step_tame {s t : State} (ht : step s = .next t) : Tame s t := by
  rcases step_cases ht with rfl | ⟨c, rest, rfl⟩
  · exact .refl _
  · exact (withPending_quiet rest s).tame.trans ((effect_tame c _).trans (pumpStore_quiet _).tame)

/-- Settles O6: every operation keeps the ranges and the capacities (`Tame`); a full roster and a full alert queue make
room, and Set Line Parameters clamps. -/
theorem capacitiesAndRangesKept : Obligations.CapacitiesAndRangesKept := by
  unfold Obligations.CapacitiesAndRangesKept
  refine ⟨fun s t hs ht => (step_tame ht).fits hs, fun s t ⟨ha, hb⟩ ht => ?_⟩
  have hranges := (step_tame ht).ranges fun g => g.casesOn ha hb
  exact ⟨hranges .a, hranges .b⟩

end Sys2Proof.Machine

namespace Sys2Proof.Machine

/-! ## The phases and the characters of an exchange (R2 to R7) -/

/-- R169: a command that leaves the store quiet does what its block does. -/
theorem exec_of_quiet {c : Instr} {s t : State} (he : effect c s = t) (hq : t.store.quiet = true) :
    exec c s = .next t := by
  rw [exec_eq, he, pumpStore_of_quiet hq]

/-- Settles O13, by evaluation of the worked words. -/
theorem wordsOfTheSpec : Obligations.WordsOfTheSpec := by
  unfold Obligations.WordsOfTheSpec
  decide +kernel

section
variable {s : State} {g : SegId} {x : Exchange}

theorem phase_of_exchange (hx : (s.seg g).exchange = some x) : s.phase g = some x.phase := by
  simp [State.phase, hx]

theorem modExchange_eq (hx : (s.seg g).exchange = some x) (f : Exchange → Exchange) :
    modExchange g f s = s.setSeg g { s.seg g with exchange := some (f x) } := by
  rw [modExchange, modSeg_def, hx]
  rfl

theorem setPhase_eq (hx : (s.seg g).exchange = some x) (ph : Phase) :
    setPhase g ph s = s.setSeg g { s.seg g with exchange := some { x with phase := ph } } :=
  modExchange_eq hx _

theorem setDriver_eq (g : SegId) (on : Bool) (s : State) :
    setDriver g on s = s.setSeg g { s.seg g with driverOn := on } := rfl

theorem transmitFrame_waiting (hx : (s.seg g).exchange = some x) (hg : (s.seg g).state = .running)
    (hp : x.phase = .waiting) :
    transmitFrame g s
      = s.setSeg g { s.seg g with driverOn := true, exchange := some { x with phase := .sending } } := by
  rw [transmitFrame, if_pos ⟨hg, by rw [phase_of_exchange hx, hp]⟩, setPhase_eq hx, setDriver_eq, seg_setSeg_same,
    setSeg_setSeg]

theorem guardEnd_sending (hx : (s.seg g).exchange = some x) (hp : x.phase = .sending) :
    guardEnd g s = s.setSeg g { s.seg g with driverOn := false, exchange := some { x with phase := .window } } := by
  simp only [guardEnd, phase_of_exchange hx, hp]
  rw [setPhase_eq hx, setDriver_eq, seg_setSeg_same, setSeg_setSeg]

theorem guardEnd_garbled (hx : (s.seg g).exchange = some x) (hp : x.phase = .garbled) :
    guardEnd g s = s.setSeg g { s.seg g with driverOn := false } := by
  simp only [guardEnd, phase_of_exchange hx, hp]
  rfl

theorem completionDeadline_answer (hx : (s.seg g).exchange = some x) (hp : x.phase = .answer) :
    completionDeadline g s = s.setSeg g { s.seg g with exchange := some { x with phase := .garbled } } := by
  rw [completionDeadline, if_pos (by rw [phase_of_exchange hx, hp]), setPhase_eq hx]

theorem collision_sending (hx : (s.seg g).exchange = some x) (hp : x.phase = .sending) (cause : CollisionCause) :
    collision g cause s = if isCollision x cause then
      s.setSeg g { s.seg g with
        collisions := min 65535 ((s.seg g).collisions + 1), exchange := some { x with phase := .garbled } }
      else s := by
  have hcollide : collide g s = s.setSeg g { s.seg g with
      collisions := min 65535 ((s.seg g).collisions + 1), exchange := some { x with phase := .garbled } } := by
    rw [collide, modSeg_def, setPhase_eq (x := x) (by rw [seg_setSeg_same]; exact hx), seg_setSeg_same, setSeg_setSeg]
    simp [saturate, Config.counterCeiling, Nat.min_comm]
  simp only [collision, hx, hp, true_and, hcollide]

end

theorem charError_iff (c : LineChar) : charError c = true ↔ c.stop = false ∨ c.parity ≠ parityOf c.data c.address := by
  simp [charError]

/-- R1, R2: the hub sends no character with an error. -/
theorem charError_frameChars {address : Nat} {f : HubFrame} {n : Nat} {c : LineChar}
    (h : (frameChars address f)[n]? = some c) : charError c = false := by
  have hgood (b : Byte) (a : Bool) : charError (goodChar b a) = false := by simp [charError, goodChar]
  rcases List.mem_cons.mp (List.mem_of_getElem? h) with rfl | hc
  · exact hgood _ _
  · obtain ⟨b, -, rfl⟩ := List.mem_map.mp hc
    exact hgood b false

/-- Settles O17, phase by phase. -/
theorem transmissionPhases : Obligations.TransmissionPhases := by
  unfold Obligations.TransmissionPhases
  constructor
  · intro g s x hq hx
    exact ⟨fun hg hp => exec_of_quiet (transmitFrame_waiting hx hg hp) (by simpa using hq),
      fun hp => exec_of_quiet (guardEnd_sending hx hp) (by simpa using hq),
      fun hp => exec_of_quiet (guardEnd_garbled hx hp) (by simpa using hq),
      fun hp => exec_of_quiet (completionDeadline_answer hx hp) (by simpa using hq)⟩
  · intro g s x hq hx hp t
    have hcollides (cause : CollisionCause) (hc : isCollision x cause = true) : exec (.collision g cause) s = .next t :=
      exec_of_quiet ((collision_sending hx hp cause).trans (if_pos hc)) (by simpa [t] using hq)
    refine ⟨hcollides _ rfl, fun n sent hn => ⟨hcollides _ ?_, fun c hc => hcollides _ ?_, ?_⟩⟩
    · simp [isCollision, hn, echoCollides]
    · rcases hc with hc | hc | hc | hc <;> simp [isCollision, hn, echoCollides, charError, hc]
    · refine exec_of_quiet ((collision_sending hx hp _).trans (if_neg ?_)) hq
      simp [isCollision, hn, echoCollides, charError_frameChars hn]

/-! ### The characters of an answer -/

section
variable {s : State} {g : SegId} {x : Exchange}

/-- R6: what a character of an answer makes of the exchange. -/
def answerTaken (g : SegId) (x : Exchange) (c : LineChar) (s : State) : AnswerProgress → State
  | .more => s.setSeg g { s.seg g with exchange := some { x with phase := .answer, received := x.received ++ [c.data] } }
  | .bad => s.setSeg g { s.seg g with exchange := some { x with phase := .garbled } }
  | .complete gs status rest => endExchange g (answerOutcome gs status rest) s

theorem takeAnswerCharacter_eq (hx : (s.seg g).exchange = some x) (hp : x.phase.receiving = true) (c : LineChar) :
    takeAnswerCharacter g c s = answerTaken g x c s (takeAnswerChar x.address x.frame x.received c) := by
  simp only [takeAnswerCharacter, hx, hp, if_true]
  cases takeAnswerChar x.address x.frame x.received c with
  | more => exact modExchange_eq hx _
  | bad => exact setPhase_eq hx _
  | complete gs status rest => rfl

end

theorem takeAnswerChar_error (address : Nat) (f : HubFrame) (received : List Byte) {c : LineChar}
    (h : charError c = true ∨ c.address = true) : takeAnswerChar address f received c = .bad := by
  rw [takeAnswerChar, if_pos (by simpa using h)]

section
variable {address : Nat} {f : HubFrame} {received : List Byte} {c : LineChar}

/-- R3: the place of a character of an answer decides what it is held to. -/
theorem takeAnswerChar_good (he : charError c = false) (ha : c.address = false) :
    takeAnswerChar address f received c =
      (let all := received ++ [c.data]
       let length := halfAt all 2
       match received.length with
       | 0 => goOnIf (c.data.toNat == address)
       | 1 => goOnIf (c.data.toNat == f.answerKind)
       | 2 => .more
       | 3 => goOnIf (decide (2 ≤ length ∧ length ≤ 320))
       | 4 => goOnIf (gameStateOf c.data.toNat).isSome
       | 5 => goOnIf (answerStatusOf c.data.toNat).isSome
       | n =>
         if n < 4 + length then .more
         else if sumBytes all % 256 != 0 then .bad
         else match gameStateOf (byteAt all 4), answerStatusOf (byteAt all 5) with
           | some gs, some status => .complete gs status ((received.drop 6))
           | _, _ => .bad) := by
  rw [takeAnswerChar, if_neg (by simp [he, ha])] <;> rfl

theorem halfAt_append {l : List Byte} (b : Byte) {k : Nat} (h : k + 1 < l.length) : halfAt (l ++ [b]) k = halfAt l k := by
  simp [halfAt, byteAt, List.getD_eq_getElem?_getD, List.getElem?_append_left, h, Nat.lt_of_succ_lt h]

theorem takeAnswerChar_six (he : charError c = false) (ha : c.address = false) (hn : 6 ≤ received.length) :
    takeAnswerChar address f received c =
      (if received.length < 4 + halfAt received 2 then .more
       else if sumBytes (received ++ [c.data]) % 256 != 0 then .bad
       else match gameStateOf (byteAt (received ++ [c.data]) 4), answerStatusOf (byteAt (received ++ [c.data]) 5) with
         | some gs, some status => .complete gs status (received.drop 6)
         | _, _ => .bad) := by
  rw [takeAnswerChar_good he ha]
  obtain ⟨n, hlen⟩ : ∃ n, received.length = n + 6 := ⟨received.length - 6, by omega⟩
  simp only [hlen]
  rw [halfAt_append _ (by omega)]

end

theorem gameStateOf_isSome (n : Nat) : (gameStateOf n).isSome = decide (n ≤ 3) := by
  match n with
  | 0 | 1 | 2 | 3 => rfl
  | n + 4 => simp [gameStateOf]

theorem answerStatusOf_isSome (n : Nat) : (answerStatusOf n).isSome = decide (n ≤ 2) := by
  match n with
  | 0 | 1 | 2 => rfl
  | n + 3 => simp [answerStatusOf]

theorem goOnIf_decide {p : Prop} [Decidable p] (g : SegId) (x : Exchange) (c : LineChar) (s : State) :
    answerTaken g x c s (goOnIf (decide p))
      = if p then answerTaken g x c s .more else answerTaken g x c s .bad := by
  by_cases h : p <;> simp [goOnIf, h]

/-- Settles O18: the place of the character decides, by the number of characters received. -/
theorem answerCharacters : Obligations.AnswerCharacters := by
  unfold Obligations.AnswerCharacters
  intro g s x c hq hx hp garbled goesOn good
  have hreceiving : x.phase.receiving = true := by
    rcases hp with hp | hp <;> simp [Phase.receiving, hp]
  have hleaves (t : State) (ht : t.store.quiet = true)
      (he : answerTaken g x c s (takeAnswerChar x.address x.frame x.received c) = t) :
      exec (.answerCharacterTaken g c) s = .next t :=
    exec_of_quiet ((takeAnswerCharacter_eq hx hreceiving c).trans he) ht
  have hgarbled : garbled.store.quiet = true := by simpa [garbled] using hq
  have hgoes : goesOn.store.quiet = true := by simpa [goesOn] using hq
  have hite (p : Prop) [Decidable p] : (if p then goesOn else garbled).store.quiet = true := by
    split <;> assumption
  have hgood (h : good) : charError c = false ∧ c.address = false := ⟨by simp [charError, h.1, ← h.2.1], h.2.2⟩
  refine ⟨fun hbad => hleaves _ hgarbled ?_, fun h hr => hleaves _ (hite _) ?_, fun h hr => hleaves _ (hite _) ?_,
    fun h hr => hleaves _ hgoes ?_, fun a k b h hr => hleaves _ (hite _) ?_, fun h hr => hleaves _ (hite _) ?_,
    fun h hr => hleaves _ (hite _) ?_, fun h hr hl => hleaves _ hgoes ?_, fun h hr hl hs => hleaves _ hgarbled ?_⟩
  · rw [takeAnswerChar_error]
    · rfl
    · by_contra hn
      simp only [not_or, Bool.not_eq_true, charError, Bool.or_eq_false_iff] at hn
      exact hbad ⟨by simpa using hn.1.1, by simpa using hn.1.2, hn.2⟩
  · rw [takeAnswerChar_good (hgood h).1 (hgood h).2, hr]
    exact goOnIf_decide g x c s
  · rw [takeAnswerChar_good (hgood h).1 (hgood h).2]
    simp only [hr]
    exact goOnIf_decide g x c s
  · rw [takeAnswerChar_good (hgood h).1 (hgood h).2]
    simp only [hr]
    rfl
  · rw [takeAnswerChar_good (hgood h).1 (hgood h).2]
    simp only [hr]
    exact goOnIf_decide g x c s
  · rw [takeAnswerChar_good (hgood h).1 (hgood h).2]
    simp only [hr, gameStateOf_isSome]
    exact goOnIf_decide g x c s
  · rw [takeAnswerChar_good (hgood h).1 (hgood h).2]
    simp only [hr, answerStatusOf_isSome]
    exact goOnIf_decide g x c s
  · rw [takeAnswerChar_six (hgood h).1 (hgood h).2 hr, if_pos hl]
    rfl
  · rw [takeAnswerChar_six (hgood h).1 (hgood h).2 hr, if_neg (by omega), if_pos (by simpa using hs)]
    rfl

end Sys2Proof.Machine

namespace Sys2Proof.Machine

/-! ### A whole answer, character by character -/

theorem sumBytes_append (l m : List Byte) : sumBytes (l ++ m) = sumBytes l + sumBytes m := by
  induction l with
  | nil => simp [sumBytes]
  | cons b l ih => simp [sumBytes, ih, Nat.add_assoc]

/-- R2: the check character makes the sum 0. -/
theorem sumBytes_checkCharacter (l : List Byte) : sumBytes (l ++ [checkCharacter l]) % 256 = 0 := by
  rw [sumBytes_append]
  simp only [sumBytes, checkCharacter, BitVec.toNat_ofNat]
  omega

/-- R3: the characters of an answer before its check character. -/
def answerFront (address kind : Nat) (gs : GameState) (status : AnswerStatus) (rest : List Byte) : List Byte :=
  BitVec.ofNat 8 address :: BitVec.ofNat 8 kind :: BitVec.ofNat 8 ((rest.length + 2) / 256)
    :: BitVec.ofNat 8 (rest.length + 2) :: BitVec.ofNat 8 (gameStateCode gs)
    :: BitVec.ofNat 8 (answerStatusCode status) :: rest

theorem answerBytes_eq (address kind : Nat) (gs : GameState) (status : AnswerStatus) (rest : List Byte) :
    answerBytes address kind gs status rest
      = answerFront address kind gs status rest ++ [checkCharacter (answerFront address kind gs status rest)] := rfl

theorem goodChar_ok (b : Byte) : charError (goodChar b false) = false ∧ (goodChar b false).address = false := by
  simp [charError, goodChar]

theorem gameStateOf_code (gs : GameState) : gameStateOf (gameStateCode gs) = some gs := by cases gs <;> rfl

theorem answerStatusOf_code (status : AnswerStatus) : answerStatusOf (answerStatusCode status) = some status := by
  cases status <;> rfl

theorem gameStateCode_lt (gs : GameState) : gameStateCode gs < 256 := by cases gs <;> decide

theorem answerStatusCode_lt (status : AnswerStatus) : answerStatusCode status < 256 := by cases status <;> decide

theorem answerKind_lt (f : HubFrame) : f.answerKind < 256 := by cases f <;> simp [HubFrame.answerKind, HubFrame.kind]

section
variable {address : Nat} {f : HubFrame} {gs : GameState} {status : AnswerStatus} {rest : List Byte}

/-- R3, R6: each character of an answer but the last lets it go on. -/
theorem takeAnswerChar_front (ha : 1 ≤ address ∧ address ≤ 8) (hrest : rest.length ≤ 318) {received tail : List Byte}
    {b : Byte} (h : answerFront address f.answerKind gs status rest = received ++ b :: tail) :
    takeAnswerChar address f received (goodChar b false) = .more := by
  obtain ⟨he, haddress⟩ := goodChar_ok b
  have hkind := answerKind_lt f
  have hgs := gameStateCode_lt gs
  have hstatus := answerStatusCode_lt status
  match received with
  | [] =>
    obtain ⟨rfl, -⟩ := List.cons.inj h
    rw [takeAnswerChar_good he haddress]
    simp only [goodChar, List.length_nil, BitVec.toNat_ofNat]
    rw [Nat.mod_eq_of_lt (by omega)]
    simp [goOnIf]
  | [_] =>
    simp only [answerFront, List.cons_append, List.nil_append, List.cons.injEq] at h
    obtain ⟨-, rfl, -⟩ := h
    rw [takeAnswerChar_good he haddress]
    simp only [goodChar, List.length_cons, List.length_nil, Nat.zero_add, BitVec.toNat_ofNat]
    rw [Nat.mod_eq_of_lt (by omega)]
    simp [goOnIf]
  | [_, _] => rw [takeAnswerChar_good he haddress]; rfl
  | [r0, r1, r2] =>
    simp only [answerFront, List.cons_append, List.nil_append, List.cons.injEq] at h
    obtain ⟨-, -, rfl, rfl, -⟩ := h
    rw [takeAnswerChar_good he haddress]
    simp [goodChar, halfAt, byteAt, goOnIf]
    omega
  | [_, _, _, _] =>
    simp only [answerFront, List.cons_append, List.nil_append, List.cons.injEq] at h
    obtain ⟨-, -, -, -, rfl, -⟩ := h
    rw [takeAnswerChar_good he haddress]
    simp [goodChar, Nat.mod_eq_of_lt hgs, gameStateOf_code, goOnIf]
  | [_, _, _, _, _] =>
    simp only [answerFront, List.cons_append, List.nil_append, List.cons.injEq] at h
    obtain ⟨-, -, -, -, -, rfl, -⟩ := h
    rw [takeAnswerChar_good he haddress]
    simp [goodChar, Nat.mod_eq_of_lt hstatus, answerStatusOf_code, goOnIf]
  | r0 :: r1 :: r2 :: r3 :: r4 :: r5 :: l =>
    simp only [answerFront, List.cons_append, List.cons.injEq] at h
    obtain ⟨-, -, rfl, rfl, -, -, rfl⟩ := h
    rw [takeAnswerChar_six he haddress (by simp), if_pos]
    simp only [List.length_append, List.length_cons] at hrest ⊢
    simp [halfAt, byteAt]
    omega

/-- R3, R6: the check character completes the answer. -/
theorem takeAnswerChar_check (hrest : rest.length ≤ 318) :
    takeAnswerChar address f (answerFront address f.answerKind gs status rest)
        (goodChar (checkCharacter (answerFront address f.answerKind gs status rest)) false)
      = .complete gs status rest := by
  obtain ⟨he, haddress⟩ := goodChar_ok (checkCharacter (answerFront address f.answerKind gs status rest))
  have hlength : halfAt (answerFront address f.answerKind gs status rest) 2 = rest.length + 2 := by
    simp [halfAt, byteAt, answerFront]
    omega
  rw [takeAnswerChar_six he haddress (by simp [answerFront]), if_neg (by rw [hlength]; simp [answerFront]; omega),
    if_neg (by simp [goodChar, sumBytes_checkCharacter])]
  simp [byteAt, answerFront, Nat.mod_eq_of_lt (gameStateCode_lt gs), Nat.mod_eq_of_lt (answerStatusCode_lt status),
    gameStateOf_code, answerStatusOf_code]

end

/-- The exchange of a segment with some characters of its answer received. -/
def receiving (g : SegId) (x : Exchange) (s : State) (received : List Byte) : State :=
  s.setSeg g { s.seg g with exchange := some { x with
    phase := if received = [] then .window else .answer, received := received } }

section
variable {s : State} {g : SegId} {x : Exchange}

theorem exchange_receiving (received : List Byte) :
    ((receiving g x s received).seg g).exchange
      = some { x with phase := if received = [] then .window else .answer, received := received } := by
  simp [receiving]

theorem receiving_nil (hx : (s.seg g).exchange = some x) (hp : x.phase = .window) (hr : x.received = []) :
    receiving g x s [] = s := by
  have hsame : { s.seg g with exchange := some { x with phase := .window, received := [] } } = s.seg g := by
    rw [← hp, ← hr, ← hx]
  rw [receiving, if_pos rfl, hsame, setSeg_seg]

/-- R8: what the end of an exchange does reads nothing of the characters received. -/
theorem endExchange_receiving (hx : (s.seg g).exchange = some x) (o : ExOutcome) (received : List Byte) :
    endExchange g o (receiving g x s received) = endExchange g o s := by
  have hcleared : cleared g (receiving g x s received) = cleared g s := by
    simp [cleared, receiving, modSeg_def]
  rw [endExchange_eq, endExchange_eq, exchange_receiving, hx, hcleared]
  rfl

theorem takeAnswerCharacter_receiving (received : List Byte) (c : LineChar) :
    takeAnswerCharacter g c (receiving g x s received)
      = match takeAnswerChar x.address x.frame received c with
        | .more => receiving g x s (received ++ [c.data])
        | .bad => setPhase g .garbled (receiving g x s received)
        | .complete gs status rest => endExchange g (answerOutcome gs status rest) (receiving g x s received) := by
  have hx := exchange_receiving (s := s) (g := g) (x := x) received
  rw [takeAnswerCharacter_eq hx (by simp only; split <;> rfl)]
  cases takeAnswerChar x.address x.frame received c with
  | more => simp [answerTaken, receiving]
  | bad => exact (setPhase_eq hx _).symm
  | complete gs status rest => rfl

variable {gs : GameState} {status : AnswerStatus} {rest : List Byte}

/-- R3, R6: the rest of a well-formed answer ends the exchange as the whole answer does. -/
theorem runAll_answer (hx : (s.seg g).exchange = some x) (ha : 1 ≤ x.address ∧ x.address ≤ 8)
    (hrest : rest.length ≤ 318) (hq : s.store.quiet = true) (received tail : List Byte)
    (h : answerFront x.address x.frame.answerKind gs status rest = received ++ tail) :
    runAll ((tail ++ [checkCharacter (answerFront x.address x.frame.answerKind gs status rest)]).map fun b =>
        .answerCharacterTaken g (goodChar b false)) (receiving g x s received)
      = pumpStore (endExchange g (answerOutcome gs status rest) s) := by
  induction tail generalizing received with
  | nil =>
    rw [List.append_nil] at h
    subst h
    simp only [List.nil_append, List.map_cons, List.map_nil, runAll, exec_eq, effect, takeAnswerCharacter_receiving,
      takeAnswerChar_check hrest, endExchange_receiving hx]
  | cons b tail ih =>
    have hquiet : (receiving g x s (received ++ [b])).store.quiet = true := by simpa [receiving] using hq
    simp only [List.cons_append, List.map_cons, runAll, exec_eq, effect, takeAnswerCharacter_receiving,
      takeAnswerChar_front ha hrest h]
    rw [show (goodChar b false).data = b from rfl, pumpStore_of_quiet hquiet]
    exact ih (received ++ [b]) (by simp [h])

theorem answerComplete_window (hx : (s.seg g).exchange = some x) (hp : x.phase = .window) (hr : x.received = [])
    (hrest : rest.length ≤ 318) :
    answerComplete g gs status rest s = endExchange g (answerOutcome gs status rest) s := by
  simp only [answerComplete, hx]
  rw [if_pos]
  simp [Phase.receiving, hp, answerFits, hr]
  omega

end

/-- Settles O12, by induction on the characters still to come. -/
theorem charactersMakeAnswer : Obligations.CharactersMakeAnswer := by
  unfold Obligations.CharactersMakeAnswer
  intro g s x gs status rest hx hp hr ha hrest hq
  rw [exec_eq, answerBytes_eq]
  have hrun := runAll_answer (gs := gs) (status := status) hx ha hrest hq []
    (answerFront x.address x.frame.answerKind gs status rest) rfl
  rw [receiving_nil hx hp hr] at hrun
  rw [hrun, effect, answerComplete_window hx hp hr hrest]

end Sys2Proof.Machine

namespace Sys2Proof.Machine

/-! ## Power-on, the status pins and the garble counter -/

theorem keyNoisy_eq (g : SegId) : keyNoisy g = { cls := 131, code := 3, subject := some (segByte g) } := by
  cases g <;> rfl

theorem keyDriver_eq (g : SegId) : keyDriver g = { cls := 131, code := 2, subject := some (segByte g) } := by
  cases g <;> rfl

theorem keyLine_eq (g : SegId) (kind : LineFaultKind) :
    keyLine g kind
      = { cls := 131, code := 1, subject := some (BitVec.ofNat 8 (16 * faultKindNumber kind) ||| segByte g) } := by
  cases g <;> cases kind <;> rfl

/-- R155: the end of a hub condition of roster 0. -/
theorem endCondition_zero (k : FaultKey) (s : State) :
    endCondition 0 k s = { s with hubFaults := s.hubFaults.finish k } := rfl

/-- R152: roster 0 is no part of a page. -/
@[simp] theorem openCondition_zero_store (k : FaultKey) (s : State) : (openCondition 0 k s).store = s.store := by
  have hput (r : FaultRoster) : (putRoster 0 r s).store = s.store := rfl
  unfold openCondition enterFault
  dsimp only
  split
  · rw [offerEntry_store, hput]
  · exact hput _

@[simp] theorem openCondition_zero_slots (k : FaultKey) (s : State) : (openCondition 0 k s).slots = s.slots := by
  have hput (r : FaultRoster) : (putRoster 0 r s).slots = s.slots := rfl
  unfold openCondition enterFault
  dsimp only
  split
  · rw [offerEntry_slots, hput]
  · exact hput _

theorem toNat_append_add {v w : Nat} (x : BitVec v) (y : BitVec w) : (x ++ y).toNat = x.toNat * 2 ^ w + y.toNat := by
  rw [BitVec.toNat_append, ← Nat.shiftLeft_add_eq_or_of_lt y.isLt, Nat.shiftLeft_eq]

/-- R175: the status outputs as one number. -/
theorem statusPins_toNat (s : State) :
    s.statusPins.toNat = 64 * s.store.state.pins.toNat + 32 * s.segB.noisy.toNat + 16 * s.segA.noisy.toNat
      + 4 * s.segB.state.pins.toNat + s.segA.state.pins.toNat := by
  simp only [State.statusPins, toNat_append_add, BitVec.toNat_ofBool]
  omega

/-- A store that is Loading makes no writes. -/
theorem powerOn_quiet (node : BitVec 6) (speed : BitVec 2) (s : State) : (powerOn node speed s).store.quiet = true := rfl

/-- Settles O3: every field is read off the state after power-on; the status pins are weighed field by field. -/
theorem powerOnLeaves : Obligations.PowerOnLeaves := by
  unfold Obligations.PowerOnLeaves
  refine ⟨fun node speed s => ⟨powerOn node speed s, exec_of_quiet rfl (powerOn_quiet node speed s), rfl, rfl, rfl, rfl,
    fun g => ?_, rfl, rfl, rfl, rfl, rfl, rfl, rfl, rfl, rfl, rfl, fun q => ?_, fun p => ?_, rfl, rfl, rfl, rfl, rfl,
    fun i => ?_, ?_, rfl⟩, exec_of_quiet rfl (powerOn_quiet 0 0 State.reset), ?_⟩
  · cases g <;> exact ⟨rfl, rfl, rfl, rfl, rfl, rfl, rfl, rfl, rfl, rfl, rfl, rfl⟩
  · simp [powerOn, State.powerOn, Store.powerOn, Store.page, PageMarks.clear]
  · cases p <;> exact ⟨rfl, rfl, rfl, rfl, rfl, rfl⟩
  · rw [powerOn, slot_powerOn]
    exact ⟨rfl, rfl, rfl, rfl, rfl, rfl, rfl, rfl⟩
  · exact BitVec.eq_of_toNat_eq (statusPins_toNat _)
  · intro s line stored
    have hline (x : SegState) : line x = x.pins.toNat := by cases x <;> rfl
    have hstored : stored = s.store.state.pins.toNat := by
      simp only [stored]
      cases s.store.state <;> rfl
    rw [statusPins_toNat, hline, hline, hstored]

section
variable {g : SegId} {s : State}

theorem garbleRise_below (h : (s.seg g).garble < (s.seg g).params.threshold) :
    garbleRise g s = s.setSeg g { s.seg g with garble := (s.seg g).garble + 1 } := by
  simp only [garbleRise, if_pos h]
  rfl

theorem garbleRise_at (h : (s.seg g).garble = (s.seg g).params.threshold) (hn : (s.seg g).noisy = false) :
    garbleRise g s = openCondition 0 (keyNoisy g) (s.setSeg g { s.seg g with noisy := true }) := by
  simp only [garbleRise, if_neg (Nat.not_lt.mpr h.ge), hn, Bool.false_eq_true, if_false]
  rfl

theorem garbleRise_noisy (h : (s.seg g).garble = (s.seg g).params.threshold) (hn : (s.seg g).noisy = true) :
    garbleRise g s = s := by
  simp only [garbleRise, if_neg (Nat.not_lt.mpr h.ge), hn, if_true]

/-- R7: a segment listens in Starting, and in Running with no frame on the line. -/
theorem listening_of_idle (h : (s.seg g).state = .starting ∨ ((s.seg g).state = .running ∧ (s.seg g).exchange = none)) :
    s.listening g = true := by
  rcases h with hs | ⟨hr, hx⟩
  · simp [State.listening, hs]
  · simp [State.listening, hr, State.phase, hx]

theorem not_listening (h : (s.seg g).state = .halted ∨ (s.seg g).state = .faulted) : s.listening g = false := by
  rcases h with h | h <;> simp [State.listening, h]

theorem strayCharacter_heard {c : LineChar} (hl : s.listening g = true) (hc : charError c = true) :
    strayCharacter g c s = garbleRise g s := by
  simp [strayCharacter, hl, hc]

end

/-- Settles O21: a heard character error is a rise of the garble counter, which the threshold decides. -/
theorem strayCharacters : Obligations.StrayCharacters := by
  unfold Obligations.StrayCharacters
  intro g c s hq bad y
  refine ⟨fun hbad hstate => ?_, fun hnot => ?_⟩
  · have hrise : effect (.strayCharacter g c) s = garbleRise g s :=
      strayCharacter_heard (listening_of_idle hstate) ((charError_iff c).mpr hbad)
    refine ⟨fun hlt => exec_of_quiet (hrise.trans (garbleRise_below hlt)) (by simpa using hq),
      fun hat hn => ?_, fun hat hn => exec_of_quiet (hrise.trans (garbleRise_noisy hat hn)) hq⟩
    rw [← keyNoisy_eq]
    exact exec_of_quiet (hrise.trans (garbleRise_at hat hn)) (by simpa using hq)
  · refine exec_of_quiet (if_neg ?_) hq
    rcases hnot with hgood | hstate
    · simp [(charError_iff c).not.mpr hgood]
    · simp [not_listening hstate]

end Sys2Proof.Machine

namespace Sys2Proof.Machine

/-! ## Requests that are taken -/

theorem setSeg_modPort (p : PortId) (f : Port → Port) (g : SegId) (y : Segment) (s : State) :
    (s.modPort p f).setSeg g y = (s.setSeg g y).modPort p f := by
  cases p <;> cases g <;> rfl

theorem modPort_modPort (p : PortId) (f h : Port → Port) (s : State) :
    (s.modPort p f).modPort p h = s.modPort p (h ∘ f) := by
  cases p <;> rfl

theorem hubFaults_modPort (p : PortId) (f : Port → Port) (r : FaultRoster) (s : State) :
    { s.modPort p f with hubFaults := r } = { s with hubFaults := r }.modPort p f := by
  cases p <;> rfl

/-- R182: a port that takes requests hands one to its block. -/
theorem takeRequest_taken {p : PortId} {s : State} (h : s.takes p = true) (r : Request) :
    takeRequest p r s = serve p r (holdRequest p (requestKind r) s) := by
  simp only [State.takes, Bool.and_eq_true, Option.isNone_iff_eq_none] at h
  simp [takeRequest, h.1, h.2]

/-- R183, R184: an answer in the taking. -/
theorem answer_held (p : PortId) (kind : Byte) (status : Status) (body : List Byte) (s : State) :
    answer p status body (s.modPort p fun x => { x with request := some kind }) = answered p kind status body s :=
  modPort_modPort p _ _ s

theorem answered_store (p : PortId) (kind : Byte) (status : Status) (body : List Byte) (s : State) :
    (answered p kind status body s).store = s.store := modPort_store s p _

theorem exec_taken {p : PortId} {s t : State} {c : Instr} {r : Request} (h : s.takes p = true)
    (hc : effect c = takeRequest p r) (ht : serve p r (s.modPort p fun x => { x with request := some (requestKind r) }) = t)
    (hq : t.store.quiet = true) : exec c s = .next t :=
  exec_of_quiet ((congrFun hc s).trans ((takeRequest_taken h r).trans ht)) hq

/-! ### Set Line Parameters -/

theorem writeClamped_fst (lo hi old : Nat) {n : Nat} (v : Option (BitVec n)) :
    (writeClamped lo hi old (v.map BitVec.toNat)).1 = (v.map fun x => max lo (min x.toNat hi)).getD old := by
  cases v <;> rfl

theorem writeClamped_snd {lo hi : Nat} (h : lo ≤ hi) (old : Nat) {n : Nat} (v : Option (BitVec n)) :
    (writeClamped lo hi old (v.map BitVec.toNat)).2 = true ↔ ∃ x, v = some x ∧ (x.toNat < lo ∨ hi < x.toNat) := by
  cases v with
  | none => simp [writeClamped]
  | some x =>
    simp only [Option.map_some, writeClamped, clamp, bne_iff_ne, Option.some.injEq, exists_eq_left']
    omega

section
variable {p : PortId} {g : SegId} {a : LineParamsArg} {s : State}

theorem serveSetLineParameters_badSpeed (h : ∃ c, a.speed = some c ∧ 4 ≤ c.toNat) :
    serveSetLineParameters p g a s = answer p .badRequest [] s := by
  obtain ⟨c, hc, hn⟩ := h
  simp [serveSetLineParameters, badSpeed, hc, hn, refuseRequest]

theorem badSpeed_eq_false (h : ∀ c, a.speed = some c → c.toNat < 4) : badSpeed a.speed = false := by
  cases hc : a.speed with
  | none => rfl
  | some c => simpa [badSpeed] using h c hc

theorem serveSetLineParameters_running (h : ∀ c, a.speed = some c → c.toNat < 4) (hg : (s.seg g).state ≠ .halted) :
    serveSetLineParameters p g a s = answer p .segmentRunning [] s := by
  simp [serveSetLineParameters, badSpeed_eq_false h, hg, refuseRequest]

theorem serveSetLineParameters_halted (h : ∀ c, a.speed = some c → c.toNat < 4) (hg : (s.seg g).state = .halted) :
    serveSetLineParameters p g a s
      = answer p .done (lineParamsField ((s.seg g).params.write a).1 fun k =>
            mark ((s.seg g).params.write a).2[k.val])
          (if a.threshold.isSome then
            garbleReset g (s.setSeg g { s.seg g with params := ((s.seg g).params.write a).1 })
          else s.setSeg g { s.seg g with params := ((s.seg g).params.write a).1 }) := by
  rw [serveSetLineParameters, if_neg (by simp [badSpeed_eq_false h]), if_neg (by simp [hg])]
  rfl

end

theorem garbleReset_setSeg (g : SegId) (y : Segment) (s : State) :
    garbleReset g (s.setSeg g y)
      = { s.setSeg g { y with garble := 0, noisy := false } with
          hubFaults := s.hubFaults.finish { cls := 131, code := 3, subject := some (segByte g) } } := by
  rw [← keyNoisy_eq]
  cases g <;> rfl

/-- Settles O25, by the branches of the request and the clamping of one field. -/
theorem setLineParameters : Obligations.SetLineParameters := by
  unfold Obligations.SetLineParameters
  intro p g a s htakes hq y w
  have hrefused (status : Status)
      (h : serveSetLineParameters p g a (s.modPort p fun x => { x with request := some 8 })
        = answer p status [] (s.modPort p fun x => { x with request := some 8 })) :
      exec (.setLineParameters p g a) s = .next (answered p 8 status [] s) :=
    exec_taken htakes rfl (h.trans (answer_held p 8 status [] s)) (by simpa [answered_store] using hq)
  refine ⟨fun hbad => hrefused _ (serveSetLineParameters_badSpeed hbad),
    fun hspeed hg => hrefused _ (serveSetLineParameters_running hspeed (by simpa using hg)), fun hspeed hg => ?_⟩
  have hw : (y.params.write a).1 = w := by
    simp only [LineParams.write, writeClamped_fst, w, Nat.zero_max]
  refine ⟨fun k => (y.params.write a).2[k.val], rfl, ?_, writeClamped_snd (by decide) _ _,
    writeClamped_snd (by decide) _ _, writeClamped_snd (by decide) _ _, writeClamped_snd (by decide) _ _,
    writeClamped_snd (by decide) _ _, writeClamped_snd (by decide) _ _, exec_taken htakes rfl ?_ ?_⟩
  · exact (writeClamped_snd (Nat.zero_le 15) _ _).trans (by simp)
  · refine (serveSetLineParameters_halted hspeed (by simpa using hg)).trans ?_
    rw [← answer_held, seg_modPort]
    change answer p .done (lineParamsField (y.params.write a).1 _) _ = _
    rw [hw, setSeg_modPort]
    split
    · rw [← setSeg_modPort, garbleReset_setSeg, setSeg_modPort, modPort_hubFaults, hubFaults_modPort]
      rfl
    · rfl
  · rw [answered_store]
    split <;> simpa using hq

end Sys2Proof.Machine

namespace Sys2Proof.Machine

/-! ## The scheduler's choice (R30 to R37) -/

@[simp] theorem sendFrame_store (g : SegId) (i : SlotIx) (f : HubFrame) (a : Asker) (s : State) :
    (sendFrame g i f a s).store = s.store := by
  cases f <;> simp [sendFrame]

@[simp] theorem sendDelivery_store (g : SegId) (d : DeliveryRecord) (s : State) :
    (sendDelivery g d s).store = s.store := by
  unfold sendDelivery
  split <;> simp

@[simp] theorem startDelivery_store (g : SegId) (i : SlotIx) (s : State) :
    (startDelivery g i s).store = s.store := by
  simp [startDelivery, setDraftState]

@[simp] theorem routineVisit_store (g : SegId) (s : State) : (routineVisit g s).store = s.store := by
  unfold routineVisit
  split
  · rfl
  · split
    · rfl
    · simp

/-- R30: the choice asks for no page write. -/
@[simp] theorem choose_store (g : SegId) (s : State) : (choose g s).store = s.store := by
  unfold choose
  split
  · rfl
  · split
    · simp
    · split
      · simp
      · split
        · dsimp only
          split <;> simp
        · simp

theorem opportunity_iff (x : Segment) :
    x.opportunity = true ↔ x.state = .running ∧ x.exchange = none ∧ x.haltPending = false := by
  simp [Segment.opportunity, and_assoc]

theorem dueTimerRun_listed {i : SlotIx} {s : State} (h : (s.slot i).table ≠ .unlisted) (t : DueTimer) :
    dueTimerRun i t s = choose (s.slot i).seg (s.setSlot i { s.slot i with
      due := (s.slot i).due.reach t (timerInterval (s.seg (s.slot i).seg).params (s.slot i) t) }) := by
  simp only [dueTimerRun, (listed_iff _).mpr h, if_true]
  rfl

theorem dueTimerRun_unlisted {i : SlotIx} {s : State} (h : (s.slot i).table = .unlisted) (t : DueTimer) :
    dueTimerRun i t s = s := by
  simp [dueTimerRun, Slot.listed, h]

theorem startIdleElapsed_starting {g : SegId} {s : State} (h : (s.seg g).state = .starting) :
    startIdleElapsed g s = choose g { s.setSeg g { s.seg g with state := .running } with
      hubFaults := s.hubFaults.finish { cls := 131, code := 2, subject := some (segByte g) } } := by
  rw [startIdleElapsed, if_pos h, modSeg_def, endCondition_zero, keyDriver_eq, setSeg_hubFaults]

/-- R34: a segment with one listed table. -/
def Sole (g : SegId) (i : SlotIx) (s : State) : Prop :=
  (s.slot i).table ≠ .unlisted ∧ (s.slot i).seg = g ∧ ∀ j, j ≠ i → (s.slot j).seg = g → (s.slot j).table = .unlisted

theorem allSlots_filter_eq (i : SlotIx) : allSlots.filter (fun j => decide (j = i)) = [i] := by
  revert i
  decide

theorem slotsOf_sole {g : SegId} {i : SlotIx} {s : State} (h : Sole g i s) : s.slotsOf g = [i] := by
  obtain ⟨hl, hg, hother⟩ := h
  rw [← allSlots_filter_eq i]
  refine List.filter_congr fun j _ => ?_
  rw [Bool.eq_iff_iff, Bool.and_eq_true, listed_iff, beq_iff_eq, decide_eq_true_iff]
  constructor
  · rintro ⟨hlj, hgj⟩
    by_contra hj
    exact hlj (hother j hj hgj)
  · rintro rfl
    exact ⟨hl, hg⟩

theorem visitOrder_sole (pointer : Option SlotIx) (i : SlotIx) : visitOrder pointer [i] = [i] := by
  cases pointer with
  | none => rfl
  | some p =>
    by_cases h : p < i
    · simp [visitOrder, h]
    · simp [visitOrder, h, not_lt.mp h]

/-- R33: nothing is picked where no table is in service. -/
theorem pickEntry_none {g : SegId} {s : State} (h : ∀ j, (s.slot j).seg = g → (s.slot j).inService = false) :
    pickEntry g s = none := by
  have hempty : s.queue.filter (eligible g s) = [] := by
    refine List.filter_eq_nil_iff.mpr fun e _ he => ?_
    simp only [eligible, Bool.and_eq_true, beq_iff_eq] at he
    simp [h _ he.1.1.1] at he
  rw [pickEntry, hempty]
  rfl

/-- R34, R36: the only listed table of a segment, Absent and due for its probe, is sent a Presence Probe. -/
theorem choose_probe {g : SegId} {i : SlotIx} {s : State} (hsole : Sole g i s) (habsent : (s.slot i).table = .absent)
    (hclosing : (s.slot i).due.closing = false) (hdue : (s.seg g).params.probeInt ≤ (s.slot i).due.probe)
    (hopen : (s.seg g).opportunity = true) (hdelivery : (s.seg g).delivery = none) :
    choose g s = s.setSeg g { s.seg g with
      pointer := some i
      exchange := some { slot := i, address := (s.slot i).addr, frame := .presenceProbe, asker := .roster
                         phase := .waiting, received := [] } } := by
  have hexchange : dueExchange (s.seg g).params (s.slot i) = some (.presenceProbe, .roster) := by
    simp [dueExchange, habsent, hdue]
  have hclose : nextClosing g s = none := by simp [nextClosing, slotsOf_sole hsole, hclosing]
  have hpick : pickEntry g s = none := pickEntry_none fun j hj => by
    by_cases hji : j = i
    · simp [hji, Slot.inService, habsent]
    · simp [Slot.inService, hsole.2.2 j hji hj]
  have hvisit : nextVisit g s = some i := by
    simp [nextVisit, slotsOf_sole hsole, visitOrder_sole, hexchange]
  rw [choose, if_neg (by simp [hopen])]
  simp only [hdelivery, hclose, hpick, routineVisit, hvisit, hexchange]
  simp [sendFrame, modSeg_def, hdelivery]

/-- Settles O23, by what each of the two commands hands the scheduler, and the choice for a sole Absent table. -/
theorem schedulerWakes : Obligations.SchedulerWakes := by
  unfold Obligations.SchedulerWakes
  refine ⟨fun g s hq => ⟨fun h => exec_of_quiet (startIdleElapsed_starting h) (by simpa using hq),
    fun h => exec_of_quiet (if_neg h) hq⟩, ?_⟩
  intro i s hq x g p
  have hruns (hl : x.table ≠ .unlisted) (t : DueTimer) : exec (.dueTimerRun i t) s
      = .next (choose g (s.setSlot i { x with due := x.due.reach t (timerInterval p x t) })) :=
    exec_of_quiet (dueTimerRun_listed hl t) (by simpa using hq)
  refine ⟨fun hl => ⟨hruns hl .fault, hruns hl .meter, hruns hl .check, hruns hl .probe⟩,
    fun hu t => exec_of_quiet (dueTimerRun_unlisted hu t) hq,
    fun habsent hclosing hrunning hidle hpending hdelivery hother => ?_⟩
  have hl : x.table ≠ .unlisted := by simp [habsent]
  refine (hruns hl .probe).trans (congrArg _ ?_)
  have hinterval : timerInterval p x .probe = p.probeInt := by simp [timerInterval, habsent]
  rw [hinterval, choose_probe (i := i)]
  · simp [DueRecord.reach, p, x]
  · refine ⟨by simpa using hl, by simp [g, x], fun j hj hg => ?_⟩
    rw [slot_setSlot_other _ _ hj] at hg ⊢
    exact hother j hj hg
  · simpa using habsent
  · simpa [DueRecord.reach] using hclosing
  · simp [DueRecord.reach, p, g]
  · rw [seg_setSlot]
    exact (opportunity_iff _).mpr ⟨hrunning, hidle, hpending⟩
  · simpa using hdelivery

end Sys2Proof.Machine

namespace Sys2Proof.Machine

/-! ## The end of an exchange with an Active table (R6 to R9, R45) -/

/-- R29: a slot with the game-state of an outcome taken. -/
def Slot.taken (x : Slot) (o : ExOutcome) : Slot :=
  match o.gameState with
  | none => x
  | some gs => { x with game := some gs, localCheck := x.localCheck || (gs == .attract && x.game == some .service) }

theorem gameTaken_eq (i : SlotIx) (o : ExOutcome) (s : State) : gameTaken i o s = s.setSlot i ((s.slot i).taken o) := by
  unfold gameTaken Slot.taken
  cases o.gameState with
  | none => exact (setSlot_slot s i).symm
  | some gs => rfl

theorem taken_table (x : Slot) (o : ExOutcome) : (x.taken o).table = x.table := by
  unfold Slot.taken
  split <;> rfl

theorem taken_score (x : Slot) (o : ExOutcome) : (x.taken o).score = x.score ∧ (x.taken o).silent = x.silent := by
  unfold Slot.taken
  split <;> exact ⟨rfl, rfl⟩

/-- R45, R46, R47: below the thresholds an Active table stays Active. -/
theorem linkScore_steady {i : SlotIx} {o : ExOutcome} {s : State} (ht : (s.slot i).table = .active)
    (hscore : nextScore (s.slot i).score o < 64) (hsilent : nextSilent (s.slot i).silent o < 8) :
    linkScore i o s = s.setSlot i { s.slot i with
      score := nextScore (s.slot i).score o, silent := nextSilent (s.slot i).silent o } := by
  simp only [linkScore]
  rw [if_neg (by omega), if_neg (by omega), if_neg (by omega), if_neg (by simp [ht])]
  rfl

/-- R8, R29, R45: the roster's part of an outcome, below the thresholds. -/
theorem rosterTakes_steady {i : SlotIx} {o : ExOutcome} {s : State} (ht : (s.slot i).table = .active)
    (hscore : nextScore (s.slot i).score o < 64) (hsilent : nextSilent (s.slot i).silent o < 8) :
    rosterTakes i o s = s.setSlot i { (s.slot i).taken o with
      score := nextScore (s.slot i).score o, silent := nextSilent (s.slot i).silent o } := by
  obtain ⟨hs, hn⟩ := taken_score (s.slot i) o
  rw [rosterTakes_eq, gameTaken_eq, if_pos (by simp [Slot.inService, taken_table, ht]), linkScore_steady, setSlot_setSlot,
    slot_setSlot_same, hs, hn]
  · rw [slot_setSlot_same, taken_table, ht]
  · rwa [slot_setSlot_same, hs]
  · rwa [slot_setSlot_same, hn]

/-- R8: a routine Meter Poll without a usable report leaves the folding unit as it is. -/
theorem askerTakes_poll {g : SegId} {x : Exchange} {o : ExOutcome} (s : State) (hf : x.frame = .meterPoll)
    (ha : x.asker = .meterFolding) (ho : o.bodyOf = none) : askerTakes g x o s = s := by
  simp [askerTakes, hf, ha, ExOutcome.usable, ho]

theorem endExchange_of_handOn {g : SegId} {o : ExOutcome} {s t : State} {x : Exchange}
    (hx : (s.seg g).exchange = some x) (ht : handOn g x o (cleared g s) = t) :
    endExchange g o s = if (t.seg g).haltPending then haltNow g t else choose g t := by
  rw [endExchange_eq, hx]
  simp only [ht]

theorem cleared_eq (g : SegId) (s : State) :
    cleared g s = s.setSeg g { s.seg g with exchange := none, driverOn := false } := rfl

/-- R8, R45: a routine Meter Poll of an Active table that ends without a report, before the garble counter. -/
theorem handOn_poll {g : SegId} {x : Exchange} {o : ExOutcome} {s : State} (hf : x.frame = .meterPoll)
    (ha : x.asker = .meterFolding) (ho : o.bodyOf = none) (ht : (s.slot x.slot).table = .active)
    (hscore : nextScore (s.slot x.slot).score o < 64) (hsilent : nextSilent (s.slot x.slot).silent o < 8) :
    handOn g x o (cleared g s) = garbleTakes g o
      ((s.setSeg g { s.seg g with exchange := none, driverOn := false }).setSlot x.slot
        { (s.slot x.slot).taken o with
          score := nextScore (s.slot x.slot).score o, silent := nextSilent (s.slot x.slot).silent o }) := by
  rw [handOn_eq, askerTakes_poll _ hf ha ho, cleared_eq, rosterTakes_steady] <;> simp [*]

theorem setSeg_setSlot (g : SegId) (y : Segment) (i : SlotIx) (x : Slot) (s : State) :
    (s.setSlot i x).setSeg g y = (s.setSeg g y).setSlot i x := by
  cases g <;> rfl

theorem garbleFall_clear {g : SegId} {s : State} (hn : (s.seg g).noisy = false) :
    garbleFall g s = s.setSeg g { s.seg g with garble := (s.seg g).garble - 1 } := by
  unfold garbleFall
  dsimp only
  rw [if_neg (by simp [hn])]
  rfl

theorem saturate_of_le {ceiling n : Nat} (h : n ≤ ceiling) : saturate ceiling n = n := Nat.min_eq_left h

theorem endGarbled_waiting {g : SegId} {s : State} {x : Exchange} (hx : (s.seg g).exchange = some x)
    (hp : x.phase = .garbled) (hd : (s.seg g).driverOn = false) : endGarbled g s = endExchange g .garbled s := by
  rw [endGarbled, if_pos]
  simp [State.quietWaiting, phase_of_exchange hx, hp, hd]

theorem answerOutcome_refused {gs : GameState} {status : AnswerStatus} {rest : List Byte} (h : status ≠ .accepted) :
    answerOutcome gs status rest = .refused gs := by
  cases status with
  | accepted => exact absurd rfl h
  | refusedInGame => rfl
  | refusedInService => rfl

/-- Settles O19: the outcome moves score, silences and garble counter, below every threshold. -/
theorem failedPollMovesScore : Obligations.FailedPollMovesScore := by
  unfold Obligations.FailedPollMovesScore
  intro g s x hq hx hpending hf ha ht y z
  have hends {o : ExOutcome} {t : State} (h : handOn g x o (cleared g s) = t) (hh : (t.seg g).haltPending = false) :
      endExchange g o s = choose g t := by
    rw [endExchange_of_handOn hx h, if_neg (by simp [hh])]
  refine ⟨fun hp hscore hsilent => ?_, fun hp hgarble hd hscore => ?_, fun gs status rest hp hr hrest hst hscore hn => ?_⟩
  · have hnext : nextScore y.score .silent = y.score + 4 := saturate_of_le (by omega)
    have hhand := handOn_poll (g := g) (o := .silent) hf ha rfl ht (hnext.trans_lt hscore) hsilent
    rw [hnext] at hhand
    refine exec_of_quiet ((if_pos ?_).trans (hends hhand (by simpa [garbleTakes] using hpending)))
      (by simpa [garbleTakes] using hq)
    rw [phase_of_exchange hx, hp]
  · have hnext : nextScore y.score .garbled = y.score + 8 := saturate_of_le (by omega)
    have hhand := handOn_poll (g := g) (o := .garbled) hf ha rfl ht (hnext.trans_lt hscore) (Nat.zero_lt_succ 7)
    rw [hnext, garbleTakes, garbleRise_below (by simpa using hgarble), setSeg_setSlot, seg_setSlot, seg_setSeg_same,
      setSeg_setSeg] at hhand
    have hend := (endGarbled_waiting hx hp hd).trans (hends hhand (by simpa using hpending))
    exact ⟨exec_of_quiet hend (by simpa using hq), exec_of_quiet hend (by simpa using hq)⟩
  · have hnext : nextScore y.score (.refused gs) = y.score - 1 := rfl
    have hhand := handOn_poll (g := g) (o := .refused gs) hf ha rfl ht (hnext.trans_lt (by omega))
      (Nat.zero_lt_succ 7)
    rw [hnext, garbleTakes, garbleFall_clear (by simpa using hn), setSeg_setSlot, seg_setSlot, seg_setSeg_same,
      setSeg_setSeg] at hhand
    refine exec_of_quiet ((answerComplete_window hx hp hr hrest).trans ?_) (by simpa using hq)
    rw [answerOutcome_refused hst]
    exact hends hhand (by simpa using hpending)

end Sys2Proof.Machine

namespace Sys2Proof.Machine

/-! ## Halt Segment (R15) -/

theorem setSlot_modPort (p : PortId) (f : Port → Port) (i : SlotIx) (x : Slot) (s : State) :
    (s.modPort p f).setSlot i x = (s.setSlot i x).modPort p f := by
  cases p <;> rfl

theorem suspendDelivery_none {g : SegId} {s : State} (h : (s.seg g).delivery = none) : suspendDelivery g s = s :=
  suspendDelivery_of_none (target_of_none h)

/-- R15: a halt with no delivery in flight. -/
theorem haltNow_idle {g : SegId} {s : State} (h : (s.seg g).delivery = none) :
    haltNow g s = answerAll (s.seg g).haltWaiters (s.setSeg g { s.seg g with
      state := .halted, haltPending := false, haltWaiters := [], driverOn := false }) := by
  rw [haltNow, modSeg_def, suspendDelivery_none (by simpa using h)]

theorem serveHaltSegment_halted {p : PortId} {g : SegId} {s : State} (h : (s.seg g).state = .halted) :
    serveHaltSegment p g s = answer p .done [] s := by
  simp [serveHaltSegment, h]

theorem serveHaltSegment_idle {p : PortId} {g : SegId} {s : State} (h : (s.seg g).state ≠ .halted)
    (hx : (s.seg g).exchange = none) : serveHaltSegment p g s = answer p .done [] (haltNow g s) := by
  unfold serveHaltSegment
  cases hg : (s.seg g).state with
  | halted => exact absurd hg h
  | starting => rfl
  | faulted => rfl
  | running => simp [hx]

theorem serveHaltSegment_waits {p : PortId} {g : SegId} {s : State} {x : Exchange} (h : (s.seg g).state = .running)
    (hx : (s.seg g).exchange = some x) :
    serveHaltSegment p g s = s.setSeg g { s.seg g with
      haltPending := true, haltWaiters := (s.seg g).haltWaiters ++ [p] } := by
  simp [serveHaltSegment, h, hx, modSeg_def]

/-- R15: the end of a routine Meter Poll, Silent, completes a pending halt. -/
theorem silent_halts {p : PortId} {g : SegId} {s : State} {x : Exchange} (hx : (s.seg g).exchange = some x)
    (hf : x.frame = .meterPoll) (ha : x.asker = .meterFolding) (hp : x.phase = .window)
    (ht : (s.slot x.slot).table = .active) (hscore : (s.slot x.slot).score + 4 < 64)
    (hsilent : (s.slot x.slot).silent + 1 < 8) (hd : (s.seg g).delivery = none) (hpending : (s.seg g).haltPending = true)
    (hw : (s.seg g).haltWaiters = [p]) :
    answerWindowExpiry g s = answer p .done [] ((s.setSeg g { s.seg g with
        state := .halted, haltPending := false, haltWaiters := [], driverOn := false, exchange := none }).setSlot x.slot
      { s.slot x.slot with score := (s.slot x.slot).score + 4, silent := (s.slot x.slot).silent + 1 }) := by
  have hnext : nextScore (s.slot x.slot).score .silent = (s.slot x.slot).score + 4 := saturate_of_le (by omega)
  have hhand := handOn_poll (g := g) (o := .silent) hf ha rfl ht (hnext.trans_lt hscore) hsilent
  rw [hnext, garbleTakes] at hhand
  rw [answerWindowExpiry, if_pos (by rw [phase_of_exchange hx, hp]), endExchange_of_handOn hx hhand,
    if_pos (by simpa using hpending), haltNow_idle (by simpa using hd), setSeg_setSlot]
  simp [hw, answerAll, Slot.taken, ExOutcome.gameState, nextSilent]

/-- R15: Halt Segment answers at once, or waits for the exchange in flight. -/
theorem haltSegment_cases (p : PortId) (g : SegId) (s : State) (htakes : s.takes p = true)
    (hq : s.store.quiet = true) :
    ((s.seg g).state = .halted → exec (.haltSegment p g) s = .next (answered p 9 .done [] s))
    ∧ ((s.seg g).state ≠ .halted → (s.seg g).exchange = none → (s.seg g).delivery = none →
      (s.seg g).haltWaiters = [] →
      exec (.haltSegment p g) s
        = .next (answered p 9 .done []
            (s.setSeg g { s.seg g with state := .halted, haltPending := false, driverOn := false })))
    ∧ ∀ x, (s.seg g).state = .running → (s.seg g).exchange = some x →
      exec (.haltSegment p g) s
        = .next ((s.modPort p fun y => { y with request := some 9 }).setSeg g
            { s.seg g with haltPending := true, haltWaiters := (s.seg g).haltWaiters ++ [p] }) := by
  refine ⟨fun hg => exec_taken htakes rfl ?_ (by simpa [answered_store] using hq), fun hg hx hd hw =>
    exec_taken htakes rfl ?_ (by simpa [answered_store] using hq), fun x hg hx => exec_taken htakes rfl ?_ (by simpa using hq)⟩
  · exact (serveHaltSegment_halted (by simpa using hg)).trans (answer_held p 9 .done [] s)
  · refine (serveHaltSegment_idle (by simpa using hg) (by simpa using hx)).trans ?_
    rw [haltNow_idle (by simpa using hd), seg_modPort, hw, setSeg_modPort, ← answer_held]
    simp only [hw]
    rfl
  · refine (serveHaltSegment_waits (by simpa using hg) (by simpa using hx)).trans ?_
    rw [seg_modPort]
    rfl

theorem haltSegment_then_silent (p : PortId) (g : SegId) (s : State) (htakes : s.takes p = true)
    (hq : s.store.quiet = true) (x : Exchange) (hg : (s.seg g).state = .running) (hx : (s.seg g).exchange = some x)
    (hf : x.frame = .meterPoll) (ha : x.asker = .meterFolding) (hp : x.phase = .window)
    (ht : (s.slot x.slot).table = .active) (hscore : (s.slot x.slot).score + 4 < 64)
    (hsilent : (s.slot x.slot).silent + 1 < 8) (hd : (s.seg g).delivery = none) (hw : (s.seg g).haltWaiters = []) :
    nextOf (exec (.haltSegment p g) s) >>= (fun u => nextOf (exec (.answerWindowExpiry g) u))
      = some (answered p 9 .done []
          ((s.setSeg g { s.seg g with
              state := .halted, haltPending := false, driverOn := false, exchange := none }).setSlot x.slot
            { s.slot x.slot with
              score := (s.slot x.slot).score + 4, silent := (s.slot x.slot).silent + 1 })) := by
  rw [(haltSegment_cases p g s htakes hq).2.2 x hg hx]
  change nextOf (exec (.answerWindowExpiry g) _) = _
  refine congrArg nextOf (exec_of_quiet (c := .answerWindowExpiry g) ((silent_halts (p := p) (x := x) ?_ hf ha hp ?_ ?_ ?_ ?_ ?_ ?_).trans ?_) ?_)
  · simpa using hx
  · simpa using ht
  · simpa using hscore
  · simpa using hsilent
  · simpa using hd
  · simp
  · simp [hw]
  · rw [seg_setSeg_same, setSeg_setSeg, slot_setSeg, slot_modPort, setSeg_modPort, setSlot_modPort, answer_held]
    simp only [hw]
  · simpa [answered_store] using hq

end Sys2Proof.Machine

namespace Sys2Proof.Machine

/-! ## Tables that become Absent, field by field (R57, R58) -/

/-- R169: what asking for writes leaves of the store: its state, its groups, the write in flight, the bad marks and the
generations. -/
structure Store.Holds (t u : Store) : Prop where
  state : u.state = t.state
  groups : u.groups = t.groups
  inFlight : u.inFlight = t.inFlight
  bad : ∀ q, (u.page q).bad = (t.page q).bad
  generation : ∀ q, (u.page q).generation = (t.page q).generation

theorem Store.Holds.refl (t : Store) : t.Holds t := ⟨rfl, rfl, rfl, fun _ => rfl, fun _ => rfl⟩

theorem Store.Holds.trans {t u v : Store} (h : t.Holds u) (k : u.Holds v) : t.Holds v :=
  ⟨k.state.trans h.state, k.groups.trans h.groups, k.inFlight.trans h.inFlight, fun q => (k.bad q).trans (h.bad q),
    fun q => (k.generation q).trans (h.generation q)⟩

theorem Store.Holds.writing {t u : Store} (h : t.Holds u) : u.writing = t.writing := by
  simp [Store.writing, h.state]

theorem modPage_holds (t : Store) (p : PageIx) (f : PageMarks → PageMarks) (hb : ∀ m, (f m).bad = m.bad)
    (hg : ∀ m, (f m).generation = m.generation) : t.Holds (t.modPage p f) := by
  refine ⟨rfl, rfl, rfl, fun q => ?_, fun q => ?_⟩
  · by_cases h : q = p
    · subst h
      rw [page_modPage_same, hb]
    · rw [page_modPage_other t f h]
  · by_cases h : q = p
    · subst h
      rw [page_modPage_same, hg]
    · rw [page_modPage_other t f h]

theorem askWrite_holds (t : Store) (p : PageIx) (content : List Byte) : t.Holds (t.askWrite p content) := by
  unfold Store.askWrite
  split
  · exact .refl t
  · split
    · exact ⟨rfl, rfl, rfl, fun _ => rfl, fun _ => rfl⟩
    · split
      · exact ⟨rfl, rfl, rfl, fun _ => rfl, fun _ => rfl⟩
      · exact modPage_holds t p _ (fun _ => rfl) fun _ => rfl

/-- Between two states one slot took a value and page writes were asked for; nothing else changed. -/
def Replaced (i : SlotIx) (y : Slot) (s u : State) : Prop :=
  ∃ st, s.store.Holds st ∧ u = { s.setSlot i y with store := st }

theorem modSlot_replaced (i : SlotIx) (f : Slot → Slot) (s : State) : Replaced i (f (s.slot i)) s (s.modSlot i f) :=
  ⟨s.store, .refl _, rfl⟩

theorem Replaced.slot_same {i : SlotIx} {y : Slot} {s u : State} (h : Replaced i y s u) : u.slot i = y := by
  obtain ⟨st, -, rfl⟩ := h
  exact slot_setSlot_same s i y

theorem Replaced.slot_other {i j : SlotIx} {y : Slot} {s u : State} (h : Replaced i y s u) (hj : j ≠ i) :
    u.slot j = s.slot j := by
  obtain ⟨st, -, rfl⟩ := h
  exact slot_setSlot_other s y hj

theorem Replaced.seg {i : SlotIx} {y : Slot} {s u : State} (h : Replaced i y s u) (g : SegId) : u.seg g = s.seg g := by
  obtain ⟨st, -, rfl⟩ := h
  cases g <;> rfl

theorem Replaced.port {i : SlotIx} {y : Slot} {s u : State} (h : Replaced i y s u) (p : PortId) :
    u.port p = s.port p := by
  obtain ⟨st, -, rfl⟩ := h
  cases p <;> rfl

theorem Replaced.trans {i : SlotIx} {y z : Slot} {s u v : State} (h : Replaced i y s u) (k : Replaced i z u v) :
    Replaced i z s v := by
  obtain ⟨st, hst, rfl⟩ := h
  obtain ⟨st', hst', rfl⟩ := k
  refine ⟨st', hst.trans hst', ?_⟩
  change { (s.setSlot i y).setSlot i z with store := st' } = _
  rw [setSlot_setSlot]

/-- R155: the end of a hub condition of a slot's roster. -/
theorem endCondition_replaced (i : SlotIx) (k : FaultKey) (s : State) :
    Replaced i { s.slot i with faults := (s.slot i).faults.finish k } s (endCondition (rosterOfSlot i) k s) := by
  have hroster : s.roster (rosterOfSlot i) = (s.slot i).faults := roster_rosterOfSlot s i
  unfold endCondition putRoster
  rw [hroster, dif_neg (by simp [rosterOfSlot])]
  have hix : (⟨(rosterOfSlot i).val - 1, by have := i.isLt; simp [rosterOfSlot]⟩ : SlotIx) = i := by
    simp [rosterOfSlot]
  simp only [hix]
  split
  · next hsame =>
    refine ⟨s.store, .refl _, ?_⟩
    rw [← hsame, setSlot_slot]
  · exact ⟨_, askWrite_holds _ _ _, rfl⟩

/-- R58: a slot that becomes Absent by a request or a restart, before a close in Polling ends. -/
def Slot.absented (x : Slot) : Slot :=
  { x with
    table := .absent, score := 0, silent := 0, goodProbes := 0, join := none
    due := { x.due with probe := Config.timerCeiling, more := false }
    faults := if x.table = .caution then x.faults.finish keyCaution else x.faults
    readback := x.readback.map fun _ => { next := 1, held := [] } }

/-- R58: a table without a delivery in flight becomes Absent by a request. -/
theorem absentByRequest_eq {i : SlotIx} {s : State} (h : (s.seg (s.slot i).seg).target ≠ some i) :
    ∃ u, Replaced i (s.slot i).absented s u ∧ absentByRequest i s = endPolling i false u := by
  let f : Slot → Slot := fun x =>
    { x.nowAbsent with due := { x.due with probe := Config.timerCeiling, more := false } }
  have hleave (v : State) (y : Slot) (hv : Replaced i y s v) (hy : y.seg = (s.slot i).seg) :
      leaveService i v = endPolling i false (v.modSlot i Slot.withReadbackReset) := by
    rw [leaveService_eq, suspendOwn_of_other]
    rw [hv.slot_same, hy, hv.seg]
    exact h
  have hmod := modSlot_replaced i f s
  have habsent : absentByRequest i s = leaveService i (if (s.slot i).table = .caution then
      endCondition (rosterOfSlot i) keyCaution (s.modSlot i f) else s.modSlot i f) := rfl
  by_cases hc : (s.slot i).table = .caution
  · have hend := endCondition_replaced i keyCaution (s.modSlot i f)
    rw [slot_modSlot_same] at hend
    have hv := hmod.trans hend
    have hreset := modSlot_replaced i Slot.withReadbackReset (endCondition (rosterOfSlot i) keyCaution (s.modSlot i f))
    rw [hv.slot_same] at hreset
    rw [if_pos hc] at habsent
    refine ⟨_, ?_, habsent.trans (hleave _ _ hv rfl)⟩
    have hall := hv.trans hreset
    rwa [show Slot.withReadbackReset { f (s.slot i) with faults := (f (s.slot i)).faults.finish keyCaution }
      = (s.slot i).absented by simp [Slot.absented, hc, Slot.withReadbackReset, f, Slot.nowAbsent]] at hall
  · have hreset := modSlot_replaced i Slot.withReadbackReset (s.modSlot i f)
    rw [hmod.slot_same] at hreset
    rw [if_neg hc] at habsent
    refine ⟨_, ?_, habsent.trans (hleave _ _ hmod rfl)⟩
    have hall := hmod.trans hreset
    rwa [show Slot.withReadbackReset (f (s.slot i)) = (s.slot i).absented by
      simp [Slot.absented, hc, Slot.withReadbackReset, f, Slot.nowAbsent]] at hall

/-! ### The end of a close in Polling -/

@[simp] theorem settleCloseAll_slots (p : PortId) (s : State) : (settleCloseAll p s).slots = s.slots := by
  unfold settleCloseAll
  split
  · rfl
  · split <;> simp

@[simp] theorem noteCloseAll_slots (p : PortId) (i : SlotIx) (r : CloseResult) (s : State) :
    (noteCloseAll p i r s).slots = s.slots := by
  simp [noteCloseAll]

@[simp] theorem settleCloseAll_store (p : PortId) (s : State) : (settleCloseAll p s).store = s.store := by
  unfold settleCloseAll
  split
  · rfl
  · split <;> simp

@[simp] theorem noteCloseAll_store (p : PortId) (i : SlotIx) (r : CloseResult) (s : State) :
    (noteCloseAll p i r s).store = s.store := by
  simp [noteCloseAll]

theorem finishClose_slots (i : SlotIx) (stored : Bool) (s : State) :
    ∃ c, (finishClose i stored s).slots = (s.setSlot i { s.slot i with close := c }).slots
      ∧ (finishClose i stored s).store = s.store := by
  unfold finishClose
  split
  · refine ⟨.idle, ?_⟩
    dsimp only
    split
    · split
      · exact ⟨rfl, rfl⟩
      · exact ⟨noteCloseAll_slots _ _ _ _, noteCloseAll_store _ _ _ _⟩
    · exact ⟨answerTo_slots _ _ _ _, answerTo_store _ _ _ _⟩
  · exact ⟨(s.slot i).close, (congrArg State.slots (setSlot_slot s i)).symm, rfl⟩
  · exact ⟨(s.slot i).close, (congrArg State.slots (setSlot_slot s i)).symm, rfl⟩

theorem enqueuePages_slots (ps : List PageIx) (s : State) : (enqueuePages ps s).slots = s.slots := by
  unfold enqueuePages
  induction ps generalizing s with
  | nil => rfl
  | cons p ps ih => rw [List.foldl_cons, ih, enqueuePage_slots]

theorem enqueuePages_holds (ps : List PageIx) (s : State) : s.store.Holds (enqueuePages ps s).store := by
  unfold enqueuePages
  induction ps generalizing s with
  | nil => exact .refl _
  | cons p ps ih => exact (askWrite_holds s.store p (pageBody s p)).trans (ih (enqueuePage p s))

theorem enqueuePages_port (ps : List PageIx) (s : State) (p : PortId) : (enqueuePages ps s).port p = s.port p := by
  unfold enqueuePages
  induction ps generalizing s with
  | nil => rfl
  | cons q ps ih => rw [List.foldl_cons, ih, port_enqueuePage]

/-- A slot but for its book, its close and its closing-poll mark. -/
def Slot.Closed (x y : Slot) : Prop :=
  ∃ b c d, y = { x with book := b, close := c, due := { x.due with closing := d } } ∧ b.baselines = x.book.baselines

theorem Slot.Closed.refl (x : Slot) : x.Closed x := ⟨x.book, x.close, x.due.closing, rfl, rfl⟩

/-- R86 to R89: the end of a close changes the slot's book and close record alone, and while the store makes writes no
port is answered. -/
theorem closeNow_facts (i : SlotIx) (final : Bool) (port : Option PortId) (ofAll : Bool) (s : State) :
    (s.slot i).Closed ((closeNow i final port ofAll s).slot i)
      ∧ (∀ j, j ≠ i → (closeNow i final port ofAll s).slot j = s.slot j)
      ∧ (closeNow i final port ofAll s).store.writing = s.store.writing
      ∧ (s.store.writing = true → ∀ p, (closeNow i final port ofAll s).port p = s.port p) := by
  have hslot {t : State} {y : Slot} (h : t.slots = (s.setSlot i y).slots) :
      t.slot i = y ∧ ∀ j, j ≠ i → t.slot j = s.slot j := by
    have heq (j : SlotIx) : t.slot j = (s.setSlot i y).slot j := by simp only [State.slot, h]
    exact ⟨(heq i).trans (slot_setSlot_same s i y), fun j hj => (heq j).trans (slot_setSlot_other s y hj)⟩
  unfold closeNow
  dsimp only
  split
  · next hw =>
    have hslots : (enqueuePages [bookPage i, closedPage i] (openGroup i (s.modSlot i fun x =>
        { x with
          book := x.book.copied s.now
          close := .storing port ofAll final (x.closedFigures s.now)
          due := { x.due with closing := false } }))).slots = _ := enqueuePages_slots _ _
    obtain ⟨hi, hj⟩ := hslot hslots
    refine ⟨⟨_, _, _, hi, rfl⟩, hj, (enqueuePages_holds _ _).writing.trans rfl, fun _ p => ?_⟩
    rw [enqueuePages_port, openGroup, port_modStore, port_modSlot]
  · next hw =>
    obtain ⟨c, hslots, hstore⟩ := finishClose_slots i false (s.modSlot i fun x =>
        { x with
          book := x.book.copied s.now
          close := .storing port ofAll final (x.closedFigures s.now)
          due := { x.due with closing := false } })
    rw [slot_modSlot_same, modSlot_def, setSlot_setSlot] at hslots
    obtain ⟨hi, hj⟩ := hslot hslots
    exact ⟨⟨_, _, _, hi, rfl⟩, hj, by rw [hstore]; rfl, fun h => absurd h hw⟩

theorem endPolling_facts (i : SlotIx) (final : Bool) (s : State) :
    (s.slot i).Closed ((endPolling i final s).slot i)
      ∧ (∀ j, j ≠ i → (endPolling i final s).slot j = s.slot j)
      ∧ (endPolling i final s).store.writing = s.store.writing
      ∧ (s.store.writing = true → ∀ p, (endPolling i final s).port p = s.port p) := by
  unfold endPolling
  split
  · exact closeNow_facts i final _ _ s
  · exact ⟨.refl _, fun _ _ => rfl, rfl, fun _ _ => rfl⟩
  · exact ⟨.refl _, fun _ _ => rfl, rfl, fun _ _ => rfl⟩

/-! ### One operation per slot -/

/-- A loop whose operation on a slot leaves the other slots alone: each slot of the list is changed once, from the
value it had before the loop. -/
theorem forSlots_once {P : State → Prop} {R : Slot → Slot → Prop} {f : SlotIx → State → State} {l : List SlotIx}
    {s : State} (hl : l.Nodup) (h0 : P s)
    (hstep : ∀ i ∈ l, ∀ u, P u → u.slot i = s.slot i →
      P (f i u) ∧ R (s.slot i) ((f i u).slot i) ∧ ∀ j, j ≠ i → (f i u).slot j = u.slot j) :
    P (s.forSlots l f) ∧ (∀ i ∈ l, R (s.slot i) ((s.forSlots l f).slot i))
      ∧ ∀ j, j ∉ l → (s.forSlots l f).slot j = s.slot j := by
  suffices h : ∀ u, P u → (∀ i ∈ l, u.slot i = s.slot i) →
      P (u.forSlots l f) ∧ (∀ i ∈ l, R (s.slot i) ((u.forSlots l f).slot i))
        ∧ ∀ j, j ∉ l → (u.forSlots l f).slot j = u.slot j from h s h0 fun _ _ => rfl
  unfold State.forSlots
  induction l with
  | nil => exact fun u hu _ => ⟨hu, by simp, fun _ _ => rfl⟩
  | cons i l ih =>
    intro u hu hsame
    obtain ⟨hi, hl⟩ := List.nodup_cons.mp hl
    obtain ⟨hP, hR, hother⟩ := hstep i (by simp) u hu (hsame i (by simp))
    obtain ⟨kP, kR, kother⟩ := ih hl (fun j hj => hstep j (List.mem_cons_of_mem i hj)) (f i u) hP fun j hj => by
      rw [hother j fun h => hi (h ▸ hj)]
      exact hsame j (List.mem_cons_of_mem i hj)
    rw [List.foldl_cons]
    refine ⟨kP, fun j hj => ?_, fun j hj => ?_⟩
    · rcases List.mem_cons.mp hj with rfl | hj
      · rw [kother j hi]
        exact hR
      · exact kR j hj
    · rw [List.mem_cons, not_or] at hj
      rw [kother j hj.2, hother j hj.1]

end Sys2Proof.Machine

namespace Sys2Proof.Machine

/-! ## Resume Segment (R16, R58) -/

theorem clock_of_env {s t : State} (h : t.env = s.env) : t.clock = s.clock := (Prod.mk.inj h).1

/-- R57, R58: a table without a delivery in flight becomes Absent by a request, and nothing else of the segments, the
queue and the other slots changes. -/
theorem absentByRequest_facts {i : SlotIx} {s : State} (h : (s.seg (s.slot i).seg).target ≠ some i) :
    (s.slot i).absented.Closed ((absentByRequest i s).slot i)
      ∧ (∀ j, j ≠ i → (absentByRequest i s).slot j = s.slot j)
      ∧ (∀ g, (absentByRequest i s).seg g = s.seg g) ∧ (absentByRequest i s).queue = s.queue
      ∧ (absentByRequest i s).store.writing = s.store.writing
      ∧ (s.store.writing = true → ∀ p, (absentByRequest i s).port p = s.port p) := by
  obtain ⟨u, hu, he⟩ := absentByRequest_eq h
  obtain ⟨hclosed, hother, hwriting, hport⟩ := endPolling_facts i false u
  have hquiet := endPolling_quiet i false u
  have hw : u.store.writing = s.store.writing := by
    obtain ⟨st, hst, rfl⟩ := hu
    exact hst.writing
  have hq : u.queue = s.queue := by
    obtain ⟨st, -, rfl⟩ := hu
    rfl
  rw [he]
  refine ⟨hu.slot_same ▸ hclosed, fun j hj => (hother j hj).trans (hu.slot_other hj),
    fun g => (hquiet.seg g).trans (hu.seg g), hquiet.queue.trans hq, hwriting.trans hw, fun hs p => ?_⟩
  rw [hport (hw.trans hs) p, hu.port p]

/-- What a resume leaves alone while the tables of a segment become Absent. -/
structure Beside (s u : State) : Prop where
  seg : ∀ g, u.seg g = s.seg g
  queue : u.queue = s.queue
  writing : u.store.writing = s.store.writing
  port : s.store.writing = true → ∀ p, u.port p = s.port p

/-- R58: every listed table of a segment without a delivery in flight becomes Absent. -/
theorem absentLoop_facts {g : SegId} {s : State} (hd : (s.seg g).delivery = none) :
    Beside s (s.forSlots (s.slotsOf g) absentByRequest)
      ∧ (∀ i ∈ s.slotsOf g, (s.slot i).absented.Closed ((s.forSlots (s.slotsOf g) absentByRequest).slot i))
      ∧ ∀ j, j ∉ s.slotsOf g → (s.forSlots (s.slotsOf g) absentByRequest).slot j = s.slot j := by
  refine forSlots_once (P := Beside s) (R := fun x y => x.absented.Closed y)
    ((List.nodup_finRange 16).filter _) ⟨fun _ => rfl, rfl, rfl, fun _ _ => rfl⟩ fun i hi u hu hsame => ?_
  have hfree : (u.seg (u.slot i).seg).target ≠ some i := by
    rw [hu.seg, hsame, (mem_slotsOf.mp hi).2, target_of_none hd]
    simp
  obtain ⟨hclosed, hother, hseg, hqueue, hwriting, hport⟩ := absentByRequest_facts hfree
  exact ⟨⟨fun g => (hseg g).trans (hu.seg g), hqueue.trans hu.queue, hwriting.trans hu.writing,
    fun hw p => (hport (hu.writing.trans hw) p).trans (hu.port hw p)⟩, hsame ▸ hclosed, hother⟩

theorem openIfAsserted_facts (g : SegId) (kind : LineFaultKind) (s : State) :
    (openIfAsserted g kind s).slots = s.slots ∧ (openIfAsserted g kind s).store = s.store
      ∧ ∀ p, (openIfAsserted g kind s).port p = s.port p := by
  unfold openIfAsserted
  split
  · exact ⟨openCondition_zero_slots _ _, openCondition_zero_store _ _, fun p => port_openCondition _ _ _ p⟩
  · exact ⟨rfl, rfl, fun _ => rfl⟩

/-- R11, R13: the entry into Starting changes the segment and the records of roster 0 alone. -/
theorem enterStarting_facts (g : SegId) (s : State) :
    (enterStarting g s).slots = s.slots ∧ (enterStarting g s).store = s.store
      ∧ ∀ p, (enterStarting g s).port p = s.port p := by
  obtain ⟨ha, hb, hc⟩ := openIfAsserted_facts g .biasLost (s.modSeg g fun y =>
    { y with state := if y.inputs.asserted then .faulted else .starting, lineSpeed := y.params.speed })
  obtain ⟨ha', hb', hc'⟩ := openIfAsserted_facts g .shorted (openIfAsserted g .biasLost (s.modSeg g fun y =>
    { y with state := if y.inputs.asserted then .faulted else .starting, lineSpeed := y.params.speed }))
  obtain ⟨ha'', hb'', hc''⟩ := openIfAsserted_facts g .grounded (openIfAsserted g .shorted (openIfAsserted g .biasLost
    (s.modSeg g fun y =>
      { y with state := if y.inputs.asserted then .faulted else .starting, lineSpeed := y.params.speed })))
  exact ⟨ha''.trans (ha'.trans (ha.trans (modSeg_slots _ _ _))), hb''.trans (hb'.trans (hb.trans (modSeg_store _ _ _))),
    fun p => (hc'' p).trans ((hc' p).trans ((hc p).trans (port_modSeg _ _ _ p)))⟩

theorem seg_enterStarting_same (g : SegId) (s : State) :
    (enterStarting g s).seg g = { s.seg g with
      state := if (s.seg g).inputs.asserted then .faulted else .starting, lineSpeed := (s.seg g).params.speed } := by
  rw [(enterStarting_quiet g s).seg, seg_modSeg_same]

theorem seg_enterStarting_other {g k : SegId} (s : State) (h : k ≠ g) : (enterStarting g s).seg k = s.seg k := by
  rw [(enterStarting_quiet g s).seg, seg_modSeg_other s _ h]

theorem slot_congr {s t : State} (h : t.slots = s.slots) (j : SlotIx) : t.slot j = s.slot j := by
  simp only [State.slot, h]

/-- R16: what a resume leaves of a segment without a delivery in flight. -/
theorem resumeNow_facts {g : SegId} {s : State} (hd : (s.seg g).delivery = none) :
    (resumeNow g s).seg g = { s.seg g with
        garble := 0, noisy := false, pointer := none, lineSpeed := (s.seg g).params.speed
        state := if (s.seg g).inputs.asserted then .faulted else .starting }
      ∧ (∀ k, k ≠ g → (resumeNow g s).seg k = s.seg k)
      ∧ (∀ i ∈ s.slotsOf g, (s.slot i).absented.Closed ((resumeNow g s).slot i))
      ∧ (∀ j, j ∉ s.slotsOf g → (resumeNow g s).slot j = s.slot j)
      ∧ (resumeNow g s).queue = s.queue
      ∧ (s.store.writing = true → ∀ p, (resumeNow g s).port p = s.port p) := by
  have hreset : (garbleReset g s).seg g = { s.seg g with garble := 0, noisy := false } := by
    simp [garbleReset]
  obtain ⟨hbeside, hmine, hother⟩ := absentLoop_facts (g := g) (s := garbleReset g s) (by rw [hreset]; exact hd)
  set u := (garbleReset g s).forSlots ((garbleReset g s).slotsOf g) absentByRequest with hu
  have hresume : resumeNow g s = enterStarting g (u.modSeg g fun y => { y with pointer := none }) := rfl
  obtain ⟨hslots, -, hport⟩ := enterStarting_facts g (u.modSeg g fun y => { y with pointer := none })
  have hslot (j : SlotIx) : (resumeNow g s).slot j = u.slot j := slot_congr (hslots.trans (modSeg_slots _ _ _)) j
  have hlist : (garbleReset g s).slotsOf g = s.slotsOf g := by
    simp [garbleReset, State.slotsOf, endCondition_zero, State.slot]
  rw [hlist] at hmine hother
  have hzero (j : SlotIx) : (garbleReset g s).slot j = s.slot j := by
    simp [garbleReset, endCondition_zero, State.slot]
  refine ⟨?_, fun k hk => ?_, fun i hi => ?_, fun j hj => ?_, ?_, fun hw p => ?_⟩
  · rw [hresume, seg_enterStarting_same, seg_modSeg_same, hbeside.seg, hreset]
  · rw [hresume, seg_enterStarting_other _ hk, seg_modSeg_other _ _ hk, hbeside.seg, garbleReset, seg_endCondition,
      seg_modSeg_other _ _ hk]
  · rw [hslot, ← hzero]
    exact hmine i hi
  · rw [hslot, hother j hj, hzero]
  · rw [hresume, (enterStarting_quiet g _).queue, modSeg_queue, modSeg_queue, hbeside.queue]
    simp [garbleReset]
  · rw [hresume, hport, port_modSeg, hbeside.port (by simpa [garbleReset, endCondition_zero] using hw) p]
    simp [garbleReset]

theorem serveResumeSegment_stopped {p : PortId} {g : SegId} {s : State}
    (h : (s.seg g).state = .halted ∨ (s.seg g).state = .faulted) :
    serveResumeSegment p g s = answer p .done [] (resumeNow g s) := by
  rcases h with h | h <;> simp [serveResumeSegment, h]

theorem serveResumeSegment_running {p : PortId} {g : SegId} {s : State}
    (h : (s.seg g).state = .starting ∨ (s.seg g).state = .running) :
    serveResumeSegment p g s = answer p .refusedInState [] s := by
  rcases h with h | h <;> simp [serveResumeSegment, h, refuseRequest]

/-- Settles O24: halts by the exchange in flight, resumes slot by slot. -/
theorem haltAndResume : Obligations.HaltAndResume := by
  unfold Obligations.HaltAndResume
  refine ⟨fun p g s htakes hq => ?_, fun p g s htakes hq => ⟨fun hg hd => ?_, fun hg => ?_⟩⟩
  · obtain ⟨hhalted, hidle, hwaits⟩ := haltSegment_cases p g s htakes hq
    exact ⟨hhalted, hidle, hwaits, fun x hg hx hf ha hp ht hscore hsilent hd hw =>
      haltSegment_then_silent p g s htakes hq x hg hx hf ha hp ht hscore hsilent hd hw⟩
  · set u := s.modPort p fun y => { y with request := some 10 } with hu
    have hslots : u.slotsOf g = s.slotsOf g := by simp [hu, State.slotsOf]
    obtain ⟨hseg, hother, hmine, hrest, hqueue, hport⟩ := resumeNow_facts (g := g) (s := u) (by simpa [hu] using hd)
    rw [hslots] at hmine hrest
    have hrun : effect (.resumeSegment p g) s = answer p .done [] (resumeNow g u) :=
      (takeRequest_taken htakes _).trans (serveResumeSegment_stopped (s := u) (by simpa [hu] using hg))
    refine ⟨pumpStore (answer p .done [] (resumeNow g u)), by rw [exec_eq, hrun], ?_⟩
    simp only [seg_pumpStore, slot_pumpStore, port_pumpStore, pumpStore_queue, pumpStore_clock, seg_answer, slot_answer,
      answer_queue, answer_clock, hseg]
    refine ⟨trivial, trivial, trivial, ?_, ?_, ?_, fun j hl hj => ?_, fun j hj => ?_, fun k hk => ?_, ?_, ?_,
      fun hw => ⟨fun q hqp => ?_, ?_⟩⟩
    · simp [hu]
    · simp [hu]
    · simp [hu, LineInputs.asserted]
    · obtain ⟨b, c, d, hy, hb⟩ := hmine j (mem_slotsOf.mpr ⟨hl, hj⟩)
      rw [hy]
      have hs : u.slot j = s.slot j := by simp [hu]
      rw [hs] at hb ⊢
      exact ⟨rfl, rfl, rfl, rfl, rfl, rfl, rfl, hb, rfl⟩
    · rw [hrest j fun h => hj.elim (mem_slotsOf.mp h).1 fun hk => hk (mem_slotsOf.mp h).2]
      simp [hu]
    · rw [hother k hk]
      simp [hu]
    · rw [hqueue]
      simp [hu]
    · exact clock_of_env (t := resumeNow g u) (by simp [resumeNow, hu])
    · rw [port_answer_other _ _ _ hqp, hport (by simpa [hu] using hw), hu, port_modPort_other _ _ hqp]
    · rw [port_answer_same, hport (by simpa [hu] using hw), hu, port_modPort_same]
      rfl
  · exact exec_taken htakes rfl ((serveResumeSegment_running (by simpa using hg)).trans (answer_held p 10 _ [] s))
      (by simpa [answered_store] using hq)

end Sys2Proof.Machine

namespace Sys2Proof.Machine

/-! ## Segments that stop (R11, R12, R14, R15) -/

/-- R130, R134: the state of a draft whose delivery is suspended, by its entry of the queue. -/
def stateAfter : Option DeliveryEntry → DraftState
  | none => .queued
  | some e => if e.withdrawal then .edited else .queued

/-- The queue after the delivery to a slot is suspended. -/
def queueAfter (i : SlotIx) (s : State) : List DeliveryEntry :=
  if stateAfter (s.entry i) = .edited then s.queue.filter fun e => e.slot != i else s.queue

/-- R133, R134: a withdrawal that takes effect. -/
theorem withdrawEntry_some {i : SlotIx} {s : State} {e : DeliveryEntry} (port : Option PortId)
    (h : s.entry i = some e) :
    withdrawEntry i port s
      = answerTo port .withdrawn (withdrawnBody e) (removeEntry i (setDraftState i .edited s)) := by
  simp [withdrawEntry, h]

theorem returned_entry (g : SegId) (i j : SlotIx) (s : State) : (returned g i s).entry j = s.entry j := by
  simp [State.entry, returned, setDraftState]

section
variable (g : SegId) (i : SlotIx) (s : State)

theorem returned_hubFaults : (returned g i s).hubFaults = s.hubFaults := by simp [returned, setDraftState]

theorem returned_store : (returned g i s).store = s.store := by simp [returned, setDraftState]

/-- R127, R130, R134: what the return of a delivery to the queue does to slots, queue, roster 0 and store. -/
theorem returnToQueue_facts :
    (returnToQueue g i s).slot i
        = { s.slot i with draft := { (s.slot i).draft with state := stateAfter (s.entry i) } }
      ∧ (∀ j, j ≠ i → (returnToQueue g i s).slot j = s.slot j)
      ∧ (returnToQueue g i s).queue = queueAfter i s
      ∧ (returnToQueue g i s).hubFaults = s.hubFaults ∧ (returnToQueue g i s).store = s.store := by
  rw [returnToQueue_eq, returned_entry]
  unfold queueAfter
  cases he : s.entry i with
  | none =>
    exact ⟨slot_returned_same g i s, fun j hj => slot_returned_other g s hj, returned_queue g i s,
      returned_hubFaults g i s, returned_store g i s⟩
  | some e =>
    by_cases hw : e.withdrawal = true
    · simp only [stateAfter, hw, if_true]
      rw [withdrawEntry_some _ ((returned_entry g i i s).trans he)]
      refine ⟨?_, fun j hj => ?_, ?_, ?_, ?_⟩
      · simp [setDraftState, slot_returned_same]
      · simp [setDraftState, slot_modSlot_other _ _ hj, slot_returned_other g s hj]
      · simp [removeEntry, setDraftState, returned_queue]
      · simp [setDraftState, returned_hubFaults]
      · simp [setDraftState, returned_store]
    · simp only [stateAfter, hw, Bool.false_eq_true, if_false, reduceCtorEq]
      exact ⟨slot_returned_same g i s, fun j hj => slot_returned_other g s hj, returned_queue g i s,
        returned_hubFaults g i s, returned_store g i s⟩

end

section
variable {g : SegId} {s : State} {d : DeliveryRecord}

theorem suspendDelivery_some (h : (s.seg g).delivery = some d) : suspendDelivery g s = returnToQueue g d.slot s := by
  simp [suspendDelivery, h]

/-- R130: the segment after its delivery is suspended. -/
theorem seg_suspendDelivery (g : SegId) (s : State) : (suspendDelivery g s).seg g = { s.seg g with delivery := none } := by
  obtain ⟨-, d, -, hd⟩ := suspendDelivery_deliveryOnly g s
  have hnone := delivery_suspendDelivery g s
  rw [hd] at hnone ⊢
  simp only at hnone
  rw [hnone]

theorem seg_suspendDelivery_other (s : State) {k : SegId} (h : k ≠ g) : (suspendDelivery g s).seg k = s.seg k :=
  (suspendDelivery_deliveryOnly g s).1 k h

theorem suspendDelivery_store (g : SegId) (s : State) : (suspendDelivery g s).store = s.store := by
  cases hd : (s.seg g).delivery with
  | none => rw [suspendDelivery_none hd]
  | some d =>
    rw [suspendDelivery_some hd]
    exact (returnToQueue_facts g d.slot s).2.2.2.2

theorem suspendDelivery_hubFaults (g : SegId) (s : State) : (suspendDelivery g s).hubFaults = s.hubFaults := by
  cases hd : (s.seg g).delivery with
  | none => rw [suspendDelivery_none hd]
  | some d =>
    rw [suspendDelivery_some hd]
    exact (returnToQueue_facts g d.slot s).2.2.2.1

theorem slot_suspendDelivery_other {j : SlotIx} (h : ∀ d, (s.seg g).delivery = some d → d.slot ≠ j) :
    (suspendDelivery g s).slot j = s.slot j := by
  cases hd : (s.seg g).delivery with
  | none => rw [suspendDelivery_none hd]
  | some d =>
    rw [suspendDelivery_some hd]
    exact (returnToQueue_facts g d.slot s).2.1 j (h d hd).symm

end

/-! ### An exchange that is abandoned -/

/-- R14, R26, R37: the due record that the abandonment of an exchange leaves its table. -/
def dueAfter (f : HubFrame) (d : DueRecord) : DueRecord :=
  match f with
  | .presenceProbe => { d with probe := 0 }
  | .faultPoll _ => { d with resend := true }
  | _ => d

/-- R14: an abandoned exchange changes the due record of its table, or suspends its delivery. -/
theorem askerAbandons_cases (g : SegId) (x : Exchange) (s : State) :
    askerAbandons g x s = s.setSlot x.slot { s.slot x.slot with due := dueAfter x.frame (s.slot x.slot).due }
      ∨ (dueAfter x.frame = id ∧ askerAbandons g x s = suspendDelivery g s) := by
  have hsame (h : dueAfter x.frame = id) :
      s = s.setSlot x.slot { s.slot x.slot with due := dueAfter x.frame (s.slot x.slot).due } := by
    rw [h]
    exact (setSlot_slot s x.slot).symm
  unfold askerAbandons
  cases hf : x.frame with
  | presenceProbe => exact .inl rfl
  | faultPoll _ => exact .inl rfl
  | itemFrame _ => exact .inr ⟨rfl, rfl⟩
  | checkQuery _ =>
    by_cases ha : x.asker = .delivery
    · exact .inr ⟨rfl, by simp [ha]⟩
    · rw [hf] at hsame
      exact .inl (by simpa [ha] using hsame rfl)
  | identify => rw [hf] at hsame; exact .inl (hsame rfl)
  | meterPoll => rw [hf] at hsame; exact .inl (hsame rfl)
  | readbackRequest _ => rw [hf] at hsame; exact .inl (hsame rfl)

/-- R14: a state whose exchange on a segment, if any, has been abandoned but for the delivery. -/
def abandoned (g : SegId) (s : State) : State :=
  match (s.seg g).exchange with
  | none => s
  | some x => (cleared g s).setSlot x.slot { s.slot x.slot with due := dueAfter x.frame (s.slot x.slot).due }

/-- R14, R130: the abandonment of an exchange and of a delivery in flight, taken together. -/
theorem suspend_abandon_eq (g : SegId) (s : State) :
    suspendDelivery g (abandonExchange g s) = suspendDelivery g (abandoned g s) := by
  unfold abandonExchange abandoned
  cases hx : (s.seg g).exchange with
  | none => rfl
  | some x =>
    have hslot : (cleared g s).slot x.slot = s.slot x.slot := by simp [cleared]
    change suspendDelivery g (askerAbandons g x (cleared g s)) = _
    rcases askerAbandons_cases g x (cleared g s) with h | ⟨hd, h⟩
    · rw [h, hslot]
    · dsimp only
      rw [h, hd, suspendDelivery_none (delivery_suspendDelivery g _)]
      simp only [id_eq]
      rw [← hslot, setSlot_slot]

theorem seg_abandoned (g : SegId) (s : State) : (abandoned g s).seg g
    = { s.seg g with exchange := none
                     driverOn := if (s.seg g).exchange = none then (s.seg g).driverOn else false } := by
  unfold abandoned
  split
  · next hx =>
    rw [if_pos hx, ← hx]
  · next x hx => simp [cleared, hx]

theorem seg_abandoned_other {g k : SegId} (s : State) (h : k ≠ g) : (abandoned g s).seg k = s.seg k := by
  unfold abandoned
  split
  · rfl
  · rw [seg_setSlot, cleared, seg_modSeg_other s _ h]

theorem abandoned_facts (g : SegId) (s : State) :
    (abandoned g s).hubFaults = s.hubFaults ∧ (abandoned g s).queue = s.queue ∧ (abandoned g s).store = s.store := by
  unfold abandoned
  split
  · exact ⟨rfl, rfl, rfl⟩
  · simp [cleared]

/-- R14: the slots of an abandoned exchange: the addressed one alone changes, in its due record. -/
theorem slot_abandoned (g : SegId) (s : State) (j : SlotIx) :
    (abandoned g s).slot j = { s.slot j with due := match (s.seg g).exchange with
      | none => (s.slot j).due
      | some x => if x.slot = j then dueAfter x.frame (s.slot j).due else (s.slot j).due } := by
  unfold abandoned
  cases hx : (s.seg g).exchange with
  | none => rfl
  | some x =>
    by_cases hj : x.slot = j
    · subst hj
      simp
    · simp only [hj, if_false]
      rw [slot_setSlot_other _ _ (Ne.symm hj), cleared, slot_modSeg]

end Sys2Proof.Machine

namespace Sys2Proof.Machine

theorem answerAll_facts (ps : List PortId) (s : State) :
    (answerAll ps s).slots = s.slots ∧ (answerAll ps s).hubFaults = s.hubFaults
      ∧ (answerAll ps s).store = s.store := by
  unfold answerAll
  induction ps generalizing s with
  | nil => exact ⟨rfl, rfl, rfl⟩
  | cons p ps ih =>
    obtain ⟨hslots, hfaults, hstore⟩ := ih (answer p .done [] s)
    exact ⟨hslots.trans (answer_slots ..), hfaults.trans (answer_hubFaults ..), hstore.trans (answer_store ..)⟩

/-- R11, R12: a segment that has become Faulted, its exchange and its delivery still there. -/
def stopped (g : SegId) (s : State) : State := s.modSeg g fun y => { y with state := .faulted, driverOn := false }

theorem faulted_abandoned (g : SegId) (s : State) :
    faulted g s = suspendDelivery g (abandoned g (stopped g s)) := suspend_abandon_eq g _

/-- R11, R14, R130: what a segment that becomes Faulted changes. -/
structure Faults (g : SegId) (s t : State) : Prop where
  other : ∀ k, k ≠ g → t.seg k = s.seg k
  hubFaults : t.hubFaults = s.hubFaults
  store : t.store = s.store
  draft : ∀ d e, (s.seg g).delivery = some d → s.entry d.slot = some e →
    (t.slot d.slot).draft.state = if e.withdrawal then .edited else .queued
  slot : ∀ j, (∀ e, (s.seg g).exchange = some e → e.slot ≠ j) → (∀ d, (s.seg g).delivery = some d → d.slot ≠ j) →
    t.slot j = s.slot j

theorem seg_faulted_same (g : SegId) (s : State) : (faulted g s).seg g
    = { s.seg g with state := .faulted, driverOn := false, exchange := none, delivery := none } := by
  rw [faulted_abandoned, seg_suspendDelivery, seg_abandoned, stopped, seg_modSeg_same]
  simp

theorem faulted_faults (g : SegId) (s : State) : Faults g s (faulted g s) := by
  obtain ⟨hfaults, hqueue, hstore⟩ := abandoned_facts g (stopped g s)
  have hdelivery : ((abandoned g (stopped g s)).seg g).delivery = (s.seg g).delivery := by
    rw [seg_abandoned, stopped, seg_modSeg_same]
  have hslot (j : SlotIx) := slot_abandoned g (stopped g s) j
  rw [stopped, seg_modSeg_same, ← stopped] at hslot
  rw [faulted_abandoned]
  refine ⟨fun k hk => ?_, ?_, ?_, fun d e hd he => ?_, fun j hx hd => ?_⟩
  · rw [seg_suspendDelivery_other _ hk, seg_abandoned_other _ hk, stopped, seg_modSeg_other _ _ hk]
  · rw [suspendDelivery_hubFaults, hfaults, stopped, modSeg_hubFaults]
  · rw [suspendDelivery_store, hstore, stopped, modSeg_store]
  · have hentry : (abandoned g (stopped g s)).entry d.slot = some e := by
      rw [State.entry, hqueue, stopped, modSeg_queue]
      exact he
    rw [suspendDelivery_some (hdelivery.trans hd), (returnToQueue_facts g d.slot _).1, hentry]
    rfl
  · rw [slot_suspendDelivery_other fun d h => hd d (hdelivery.symm.trans h), hslot j, stopped, slot_modSeg]
    cases he : (s.seg g).exchange with
    | none => rfl
    | some x => simp [hx x he]

/-- R11, R12, R15: the segment after it stops, Halted with a halt pending. -/
theorem seg_faultNow (g : SegId) (s : State) : (faultNow g s).seg g = { s.seg g with
    state := if (s.seg g).haltPending then .halted else .faulted, driverOn := false, exchange := none
    delivery := none, haltPending := false
    haltWaiters := if (s.seg g).haltPending then [] else (s.seg g).haltWaiters } := by
  have hseg := seg_faulted_same g s
  rw [faultNow_eq]
  cases hp : (s.seg g).haltPending with
  | false =>
    simp only [Bool.false_eq_true, if_false]
    rw [hseg]
    simp [hp]
  | true =>
    simp only [if_true]
    rw [haltNow_idle (by rw [hseg]), (answerAll_quiet _ _).seg, seg_setSeg_same, hseg]

theorem faultNow_faults (g : SegId) (s : State) : Faults g s (faultNow g s) := by
  have h := faulted_faults g s
  rw [faultNow_eq]
  split
  · rw [haltNow_idle (by rw [seg_faulted_same])]
    set v := (faulted g s).setSeg g { (faulted g s).seg g with
      state := .halted, haltPending := false, haltWaiters := [], driverOn := false } with hv
    obtain ⟨hslots, hfaults, hstore⟩ := answerAll_facts ((faulted g s).seg g).haltWaiters v
    have hslot (j : SlotIx) : (answerAll ((faulted g s).seg g).haltWaiters v).slot j = (faulted g s).slot j :=
      (slot_congr hslots j).trans (slot_setSeg ..)
    refine ⟨fun k hk => ?_, ?_, ?_, fun d e hd he => ?_, fun j hx hd => ?_⟩
    · rw [(answerAll_quiet _ _).seg, hv, seg_setSeg_other _ _ hk]
      exact h.other k hk
    · exact hfaults.trans ((setSeg_hubFaults ..).trans h.hubFaults)
    · exact hstore.trans ((setSeg_store ..).trans h.store)
    · rw [hslot]
      exact h.draft d e hd he
    · rw [hslot]
      exact h.slot j hx hd
  · exact h

/-! ### Records of roster 0 -/

theorem openCondition_setSeg (k : FaultKey) (g : SegId) (y : Segment) (s : State) :
    openCondition 0 k (s.setSeg g y) = (openCondition 0 k s).setSeg g y := by
  have hoffer (r : FaultRoster) : offerEntry 0 k (putRoster 0 r (s.setSeg g y))
      = (offerEntry 0 k (putRoster 0 r s)).setSeg g y := by
    unfold offerEntry
    rw [show (putRoster 0 r (s.setSeg g y)).watch = (putRoster 0 r s).watch by cases g <;> rfl]
    split <;> cases g <;> rfl
  unfold openCondition enterFault
  rw [show (s.setSeg g y).roster 0 = s.roster 0 by cases g <;> rfl, now_setSeg]
  dsimp only
  split
  · exact hoffer _
  · cases g <;> rfl

/-- R155: the roster of the part after a hub condition opens. -/
theorem openCondition_hubFaults (k : FaultKey) (s : State) :
    (openCondition 0 k s).hubFaults = (s.hubFaults.enter k .hub .condition s.now).1 :=
  roster_enterFault 0 k .hub .condition s

/-- R11, R12: a segment with nothing in flight and no halt pending becomes Faulted. -/
theorem faultNow_idle {g : SegId} {s : State} (hx : (s.seg g).exchange = none) (hd : (s.seg g).delivery = none)
    (hp : (s.seg g).haltPending = false) :
    faultNow g s = s.setSeg g { s.seg g with state := .faulted, driverOn := false } := by
  have hnothing : abandoned g (stopped g s) = stopped g s := by simp [abandoned, stopped, hx]
  rw [faultNow_eq, if_neg (by simp [hp]), faulted_abandoned, hnothing,
    suspendDelivery_none (by simpa [stopped] using hd)]
  rfl

/-- R14: an abandoned Meter Poll leaves nothing behind. -/
theorem faultNow_poll {g : SegId} {s : State} {x : Exchange} (hx : (s.seg g).exchange = some x)
    (hf : x.frame = .meterPoll) (hd : (s.seg g).delivery = none) (hp : (s.seg g).haltPending = false) :
    faultNow g s = s.setSeg g { s.seg g with state := .faulted, driverOn := false, exchange := none } := by
  rw [faultNow_eq, if_neg (by simp [hp]), faulted_abandoned, abandoned, stopped, seg_modSeg_same]
  simp only [hx, hf, dueAfter]
  rw [suspendDelivery_none (by simpa [cleared] using hd), slot_modSeg]
  simp only [cleared, modSeg_def, seg_setSeg_same, setSeg_setSeg]
  rw [show s.slot x.slot = (s.setSeg g { s.seg g with state := .faulted, driverOn := false, exchange := none }).slot x.slot
    by simp, setSlot_slot]

/-! ### Line-fault inputs and the driver -/

section
variable {g : SegId} {kind : LineFaultKind} {s : State}

theorem setInput_eq (b : Bool) :
    setInput g kind b s = s.setSeg g { s.seg g with inputs := (s.seg g).inputs.put kind b } := rfl

theorem lineFaultAsserted_stops (hl : (s.seg g).inputs.level kind = false)
    (hg : (s.seg g).state = .starting ∨ (s.seg g).state = .running) :
    lineFaultAsserted g kind s = faultNow g (openCondition 0 (keyLine g kind) (setInput g kind true s)) := by
  rcases hg with hg | hg <;> simp [lineFaultAsserted, hl, hg]

theorem lineFaultAsserted_halted (hl : (s.seg g).inputs.level kind = false) (hg : (s.seg g).state = .halted) :
    lineFaultAsserted g kind s = setInput g kind true s := by
  simp [lineFaultAsserted, hl, hg]

theorem lineFaultAsserted_faulted (hl : (s.seg g).inputs.level kind = false) (hg : (s.seg g).state = .faulted) :
    lineFaultAsserted g kind s = openCondition 0 (keyLine g kind) (setInput g kind true s) := by
  simp [lineFaultAsserted, hl, hg]

theorem lineFaultDeasserted_level (hl : (s.seg g).inputs.level kind = true) :
    lineFaultDeasserted g kind s
      = { s.setSeg g { s.seg g with inputs := (s.seg g).inputs.put kind false } with
          hubFaults := s.hubFaults.finish (keyLine g kind) } := by
  rw [lineFaultDeasserted, if_pos hl, endCondition_zero, setInput_eq, setSeg_hubFaults]

theorem driverStuck_on (hd : (s.seg g).driverOn = true) :
    driverStuck g s = faultNow g (openCondition 0 (keyDriver g) s) := if_pos hd

end

/-- What a stop of a segment leaves, whatever its cause: the claim of O22 on both commands. -/
theorem stops_of_faultNow {g : SegId} {s u : State} {c : Instr} {k : FaultKey} {inputs : LineInputs}
    (hc : effect c s = faultNow g (openCondition 0 k u)) (hu : u = s.setSeg g { s.seg g with inputs := inputs }) :
    ∃ t, exec c s = .next t
      ∧ t.hubFaults = (s.hubFaults.enter k .hub .condition { clock := s.clock, unset := s.clockUnset }).1
      ∧ (t.seg g).state = (if (s.seg g).haltPending then .halted else .faulted)
      ∧ (t.seg g).exchange = none ∧ (t.seg g).delivery = none ∧ (t.seg g).driverOn = false
      ∧ (t.seg g).haltPending = false ∧ (t.seg g).garble = (s.seg g).garble
      ∧ (t.seg g).inputs = inputs ∧ (t.seg g).params = (s.seg g).params
      ∧ (∀ h, h ≠ g → t.seg h = s.seg h)
      ∧ (∀ d e, (s.seg g).delivery = some d → s.entry d.slot = some e →
          (t.slot d.slot).draft.state = if e.withdrawal then .edited else .queued)
      ∧ ∀ j, (∀ e, (s.seg g).exchange = some e → e.slot ≠ j) → (∀ d, (s.seg g).delivery = some d → d.slot ≠ j) →
          t.slot j = s.slot j := by
  have hf := faultNow_faults g (openCondition 0 k u)
  have hopen (j : SlotIx) : (openCondition 0 k u).slot j = s.slot j := by
    rw [slot_congr (openCondition_zero_slots k u), hu, slot_setSeg]
  have hseg : (openCondition 0 k u).seg g = { s.seg g with inputs := inputs } := by
    rw [seg_openCondition, hu, seg_setSeg_same]
  have hsegs (h : SegId) (hh : h ≠ g) : (openCondition 0 k u).seg h = s.seg h := by
    rw [seg_openCondition, hu, seg_setSeg_other _ _ hh]
  have hentry (j : SlotIx) : (openCondition 0 k u).entry j = s.entry j := by
    rw [State.entry, openCondition_queue, hu, setSeg_queue]
    rfl
  refine ⟨pumpStore (faultNow g (openCondition 0 k u)), by rw [exec_eq, hc], ?_⟩
  simp only [pumpStore_hubFaults, seg_pumpStore, slot_pumpStore, seg_faultNow, hseg]
  refine ⟨?_, trivial, trivial, trivial, trivial, trivial, trivial, trivial, trivial,
    fun h hh => (hf.other h hh).trans (hsegs h hh), fun d e hd he => ?_, fun j hx hd => ?_⟩
  · rw [hf.hubFaults, openCondition_hubFaults, hu, setSeg_hubFaults, now_setSeg]
    rfl
  · exact hf.draft d e (by rw [hseg]; exact hd) ((hentry _).trans he)
  · rw [hf.slot j (by rw [hseg]; exact hx) (by rw [hseg]; exact hd), hopen]

/-- Settles O22, by what a stopping segment changes, for both commands, and the branches of the inputs. -/
theorem lineFaultStopsSegment : Obligations.LineFaultStopsSegment := by
  unfold Obligations.LineFaultStopsSegment
  intro g s hq key stuck stops
  have hkey (kind : LineFaultKind) : key kind = keyLine g kind := (keyLine_eq g kind).symm
  have hstuck : stuck = keyDriver g := (keyDriver_eq g).symm
  have hsame : s = s.setSeg g { s.seg g with inputs := (s.seg g).inputs } := (setSeg_seg s g).symm
  refine ⟨fun kind hl hg => ⟨?_, fun hx hd hp => ?_⟩, fun kind hl hg => ?_, fun kind hl hg => ?_, fun kind hl => ?_,
    fun hon => ⟨?_, fun hx hd hp => ?_, fun x hd hx hf hp => ?_⟩⟩
  · rw [hkey]
    exact stops_of_faultNow (lineFaultAsserted_stops hl hg) rfl
  · rw [hkey]
    refine exec_of_quiet ((lineFaultAsserted_stops hl hg).trans ?_) (by simpa using hq)
    rw [setInput_eq, faultNow_idle (by simpa using hx) (by simpa using hd) (by simpa using hp), openCondition_setSeg,
      openCondition_setSeg, setSeg_setSeg, seg_setSeg_same]
  · exact exec_of_quiet (lineFaultAsserted_halted hl hg) (by simpa using hq)
  · rw [hkey]
    exact exec_of_quiet (lineFaultAsserted_faulted hl hg) (by simpa [setInput] using hq)
  · rw [hkey]
    exact exec_of_quiet (lineFaultDeasserted_level hl) (by simpa using hq)
  · rw [hstuck]
    exact stops_of_faultNow (driverStuck_on hon) hsame
  · rw [hstuck]
    refine exec_of_quiet ((driverStuck_on hon).trans ?_) (by simpa using hq)
    rw [faultNow_idle (by simpa using hx) (by simpa using hd) (by simpa using hp), openCondition_setSeg,
      seg_openCondition]
  · rw [hstuck]
    refine exec_of_quiet ((driverStuck_on hon).trans ?_) (by simpa using hq)
    rw [faultNow_poll (x := x) (by simpa using hx) hf (by simpa using hd) (by simpa using hp), openCondition_setSeg,
      seg_openCondition]

end Sys2Proof.Machine

namespace Sys2Proof.Machine

/-! ## Answers taken: the game-state, the routine check, the readback (R8, R29, R112, R113) -/

theorem gameState_answerOutcome (gs : GameState) (status : AnswerStatus) (rest : List Byte) :
    (answerOutcome gs status rest).gameState = some gs := by
  cases status <;> rfl

/-- R8, R29: the slots' game-states and local-check marks after an exchange that ends with an answer. -/
theorem endExchange_gameState {g : SegId} {s : State} {x : Exchange} (gs : GameState) (status : AnswerStatus)
    (rest : List Byte) (hx : (s.seg g).exchange = some x) :
    ((endExchange g (answerOutcome gs status rest) s).slot x.slot).game = some gs
      ∧ (gs = .attract → (s.slot x.slot).game = some .service → (∀ q, x.frame ≠ .checkQuery q) →
          ((endExchange g (answerOutcome gs status rest) s).slot x.slot).localCheck = true)
      ∧ ∀ j, j ≠ x.slot → ((endExchange g (answerOutcome gs status rest) s).slot j).game = (s.slot j).game := by
  set o := answerOutcome gs status rest with ho
  have htaken : gameTaken x.slot o (cleared g s) = (cleared g s).setSlot x.slot
      { s.slot x.slot with
        game := some gs
        localCheck := (s.slot x.slot).localCheck || (gs == .attract && (s.slot x.slot).game == some .service) } := by
    rw [gameTaken_eq, Slot.taken, gameState_answerOutcome, cleared, slot_modSeg]
  have hmild : Mild (∃ q, x.frame = .checkQuery q) (gameTaken x.slot o (cleared g s)) (endExchange g o s) := by
    rw [endExchange_of_handOn hx rfl]
    exact (handOn_mild g x o _).trans (.ite (haltNow_mild g _).weaken (choose_mild g _).weaken)
  refine ⟨?_, fun hgs hgame hframe => ?_, fun j hj => ?_⟩
  · rw [hmild.game, htaken, slot_setSlot_same]
  · refine (hmild.marks x.slot).resolve_left (fun ⟨q, hq⟩ => hframe q hq) ?_
    rw [htaken, slot_setSlot_same, hgs, hgame]
    exact Bool.or_true _
  · rw [hmild.game, htaken, slot_setSlot_other _ _ hj, cleared, slot_modSeg]

/-- A slot of an Active table after a Good answer: the game-state taken, score and silences moved. -/
def Slot.answeredGood (y : Slot) (gs : GameState) : Slot :=
  { y with
    score := y.score - 1, silent := 0, game := some gs
    localCheck := y.localCheck || (gs == .attract && y.game == some .service) }

/-- A segment after an exchange that ended with an answer, Noisy not set. -/
def Segment.answered (z : Segment) : Segment := { z with exchange := none, driverOn := false, garble := z.garble - 1 }

/-- R8, R9, R45: what the asking block is handed of a Good answer of an Active table. -/
theorem handOn_good {g : SegId} {s : State} {x : Exchange} (gs : GameState) (rest : List Byte)
    (ht : (s.slot x.slot).table = .active) (hscore : (s.slot x.slot).score < 64) :
    handOn g x (.good gs rest) (cleared g s)
      = garbleFall g (askerTakes g x (.good gs rest) ((cleared g s).setSlot x.slot ((s.slot x.slot).answeredGood gs))) := by
  have hslot : (cleared g s).slot x.slot = s.slot x.slot := by simp [cleared]
  have hroster : rosterTakes x.slot (.good gs rest) (cleared g s)
      = (cleared g s).setSlot x.slot ((s.slot x.slot).answeredGood gs) := by
    rw [rosterTakes_steady (o := .good gs rest) (by rw [hslot]; exact ht) (by rw [hslot]; exact (Nat.sub_le _ 1).trans_lt hscore)
      (Nat.zero_lt_succ 7), hslot]
    rfl
  rw [handOn_eq, hroster]
  rfl

/-- R9, R30: after a Good answer the asking block leaves a state on, and the scheduler chooses. -/
theorem endExchange_good {g : SegId} {s v : State} {x : Exchange} {gs : GameState} {rest : List Byte}
    (hx : (s.seg g).exchange = some x) (hpending : (s.seg g).haltPending = false) (hnoisy : (s.seg g).noisy = false)
    (ht : (s.slot x.slot).table = .active) (hscore : (s.slot x.slot).score < 64)
    (hv : askerTakes g x (.good gs rest) ((cleared g s).setSlot x.slot ((s.slot x.slot).answeredGood gs)) = v)
    (hseg : v.seg g = (cleared g s).seg g) :
    endExchange g (.good gs rest) s = choose g (v.setSeg g (s.seg g).answered) := by
  have hclear : v.seg g = { s.seg g with exchange := none, driverOn := false } := by
    rw [hseg, cleared, seg_modSeg_same]
  have hfall : garbleFall g v = v.setSeg g (s.seg g).answered := by
    rw [garbleFall_clear (by rw [hclear]; exact hnoisy), hclear]
    rfl
  rw [endExchange_of_handOn hx ((handOn_good gs rest ht hscore).trans (by rw [hv, hfall])), seg_setSeg_same,
    if_neg (by simp [Segment.answered, hpending])]

section
variable {g : SegId} {x : Exchange} {gs : GameState} {rest : List Byte} {s : State}

theorem askerTakes_word {q : BitVec 4} {w : Nat} (hf : x.frame = .checkQuery q) (ha : x.asker = .settings)
    (hp : parseCheckWord rest = some w) : askerTakes g x (.good gs rest) s = takeRoutineWord x.slot q w s := by
  simp [askerTakes, hf, ha, ExOutcome.usable, ExOutcome.bodyOf, hp]

theorem askerTakes_noWord {q : BitVec 4} (hf : x.frame = .checkQuery q) (ha : x.asker = .settings)
    (hp : parseCheckWord rest = none) : askerTakes g x (.good gs rest) s = s := by
  simp [askerTakes, hf, ha, ExOutcome.usable, ExOutcome.bodyOf, hp]

theorem askerTakes_readback {start : Nat} {values : List Nat} (hf : x.frame = .readbackRequest start)
    (ha : x.asker = .settings) (hp : parseReadback start rest = some values) :
    askerTakes g x (.good gs rest) s = takeLocalReadback x.slot start values s := by
  simp [askerTakes, hf, ha, ExOutcome.usable, ExOutcome.bodyOf, hp]

end

theorem parseCheckWord_two (hi lo : Byte) : parseCheckWord [hi, lo] = some (hi.toNat * 256 + lo.toNat) := rfl

theorem parseCheckWord_none {rest : List Byte} (h : rest.length ≠ 2) : parseCheckWord rest = none := if_neg h

section
variable {i : SlotIx} {start : Nat} {held values : List Nat} {r : Identity} {s : State}

/-- R113: a frame with another count than expected is not held. -/
theorem takeLocalReadback_short (hb : (s.slot i).readback = some { next := start, held := held })
    (hr : (s.slot i).identity = some r) (hn : values.length ≠ min 8 (r.ranges.length + 1 - start)) :
    takeLocalReadback i start values s = s := by
  simp [takeLocalReadback, hb, hr, expectedCount, hn]

/-- R113: a frame before the last one is held. -/
theorem takeLocalReadback_held (hb : (s.slot i).readback = some { next := start, held := held })
    (hr : (s.slot i).identity = some r) (hn : values.length = min 8 (r.ranges.length + 1 - start))
    (hlast : start + 8 ≤ r.ranges.length) :
    takeLocalReadback i start values s
      = s.modSlot i fun x => { x with readback := some { next := start + 8, held := held ++ values } } := by
  simp [takeLocalReadback, hb, hr, expectedCount, hn, Nat.not_lt.mpr hlast]

/-- R115: the last frame ends the readback. -/
theorem takeLocalReadback_last (hb : (s.slot i).readback = some { next := start, held := held })
    (hr : (s.slot i).identity = some r) (hn : values.length = min 8 (r.ranges.length + 1 - start))
    (hlast : r.ranges.length < start + 8) :
    takeLocalReadback i start values s = endLocalReadback i r (held ++ values) s := by
  simp [takeLocalReadback, hb, hr, expectedCount, hn, hlast]

end

end Sys2Proof.Machine

namespace Sys2Proof.Machine

/-! ## Event faults entered with room (R152, R156) -/

section
variable {r : FaultRoster} {k : FaultKey} {now : Stamp}

theorem find_key {x : FaultRecord} (h : r.find k = some x) : x.key = k := by
  simpa using List.find?_some h

/-- R156: an event fault whose key has no record is added Gone, room given. -/
theorem find_enter_new (h : r.find k = none) (hroom : r.records.length < Config.rosterCapacity) (m : FaultKey) :
    (r.enter k .hub .event now).1.find m
      = if m = k then some (.first k .hub .event now) else r.find m := by
  have hadd : (r.enter k .hub .event now).1 = r.add (.first k .hub .event now) := by
    simp [FaultRoster.enter, h, hroom]
  rw [hadd]
  unfold FaultRoster.find FaultRoster.add
  rw [List.find?_append]
  by_cases hm : m = k
  · subst hm
    rw [show r.records.find? (fun x => x.key == m) = none from h]
    simp [FaultRecord.first]
  · rw [if_neg hm]
    simp [FaultRecord.first, Ne.symm hm]

/-- R156: an event fault whose key has a record renews it. -/
theorem find_enter_again {x : FaultRecord} (h : r.find k = some x) (m : FaultKey) :
    (r.enter k .hub .event now).1.find m
      = if m = k then some (x.again .event now) else r.find m := by
  have hmap : (r.enter k .hub .event now).1.records
      = r.records.map fun x => if x.key == k then x.again .event now else x := by
    simp [FaultRoster.enter, h]
  have hkey : (fun x : FaultRecord => x.key == m) ∘ (fun x => if x.key == k then x.again .event now else x)
      = fun x => x.key == m := by
    funext y
    by_cases hy : y.key = k <;> simp [hy, FaultRecord.again]
  unfold FaultRoster.find
  rw [hmap, List.find?_map, hkey]
  by_cases hm : m = k
  · subst hm
    rw [show r.records.find? (fun x => x.key == m) = some x from h]
    simp [find_key h]
  · rw [if_neg hm]
    cases hf : r.records.find? (fun x => x.key == m) with
    | none => rfl
    | some y =>
      have hy : y.key = m := find_key (r := r) hf
      simp [hy, hm]

theorem enter_event_length (hroom : r.records.length < Config.rosterCapacity) :
    (r.enter k .hub .event now).1.records.length ≤ r.records.length + 1 := by
  unfold FaultRoster.enter
  split
  · simp
  · simp [hroom, FaultRoster.add]

end

/-- R156: between two rosters event faults were entered at a time: a record that the first has none of is Gone. -/
def Entered (r0 r : FaultRoster) : Prop := ∀ k f, r.find k = some f → r0.find k = none → f.state = .gone

/-- R156: a key has a record last seen at a time, not acknowledged. -/
def Fresh (now : Stamp) (k : FaultKey) (r : FaultRoster) : Prop :=
  ∃ f, r.find k = some f ∧ f.lastSeen = now ∧ f.acked = false

/-- The roster after event faults with some keys, in order. -/
def afterEvents (now : Stamp) (r : FaultRoster) (ks : List FaultKey) : FaultRoster :=
  ks.foldl (fun u k => (u.enter k .hub .event now).1) r

section
variable {r0 r : FaultRoster} {k m : FaultKey} {now : Stamp}

theorem Entered.refl (r0 : FaultRoster) : Entered r0 r0 := fun k f h h0 => by
  rw [h0] at h
  cases h

theorem Entered.enter (h : Entered r0 r) (hroom : r.records.length < Config.rosterCapacity) :
    Entered r0 (r.enter k .hub .event now).1 := by
  intro m f hf h0
  cases hk : r.find k with
  | none =>
    rw [find_enter_new hk hroom] at hf
    split at hf
    · cases hf
      rfl
    · exact h m f hf h0
  | some x =>
    rw [find_enter_again hk] at hf
    split at hf
    · next hm =>
      cases hf
      exact h k x hk (hm ▸ h0)
    · exact h m f hf h0

theorem fresh_enter (hroom : r.records.length < Config.rosterCapacity) :
    Fresh now k (r.enter k .hub .event now).1 := by
  cases hk : r.find k with
  | none => exact ⟨_, by rw [find_enter_new hk hroom, if_pos rfl], rfl, rfl⟩
  | some x => exact ⟨_, by rw [find_enter_again hk, if_pos rfl], rfl, rfl⟩

theorem Fresh.enter (h : Fresh now m r) (hroom : r.records.length < Config.rosterCapacity) :
    Fresh now m (r.enter k .hub .event now).1 := by
  by_cases hm : m = k
  · subst hm
    exact fresh_enter hroom
  · obtain ⟨f, hf, hrest⟩ := h
    refine ⟨f, ?_, hrest⟩
    cases hk : r.find k with
    | none => rw [find_enter_new hk hroom, if_neg hm, hf]
    | some x => rw [find_enter_again hk, if_neg hm, hf]

/-- R156: with room for every key, each key entered has a fresh record, and those that stood so still do. -/
theorem afterEvents_facts (h : Entered r0 r) (ks : List FaultKey)
    (hroom : r.records.length + ks.length ≤ Config.rosterCapacity) :
    Entered r0 (afterEvents now r ks) ∧ (∀ k ∈ ks, Fresh now k (afterEvents now r ks))
      ∧ (∀ k, Fresh now k r → Fresh now k (afterEvents now r ks))
      ∧ (afterEvents now r ks).records.length ≤ r.records.length + ks.length := by
  induction ks generalizing r with
  | nil => exact ⟨h, by simp, fun _ => id, Nat.le_refl _⟩
  | cons k ks ih =>
    rw [List.length_cons] at hroom
    have hlt : r.records.length < Config.rosterCapacity := by omega
    have hlen := enter_event_length (k := k) (now := now) hlt
    obtain ⟨he, hin, hstay, hle⟩ := ih (h.enter (k := k) (now := now) hlt) (by omega)
    refine ⟨he, fun m hm => ?_, fun m hm => hstay m (hm.enter hlt), ?_⟩
    · rcases List.mem_cons.mp hm with rfl | hm
      · exact hstay m (fresh_enter hlt)
      · exact hin m hm
    · rw [List.length_cons]
      exact hle.trans (by omega)

end

/-! ### Event faults of a slot's roster -/

section
variable (i : SlotIx) (k : FaultKey) (s : State)

theorem slot_eventFault_same : (eventFault (rosterOfSlot i) k s).slot i
    = { s.slot i with faults := ((s.slot i).faults.enter k .hub .event s.now).1 } := by
  have hroster := roster_enterFault (rosterOfSlot i) k .hub .event s
  rw [roster_rosterOfSlot, roster_rosterOfSlot] at hroster
  rw [eventFault, slot_enterFault, hroster]

theorem now_eventFault : (eventFault (rosterOfSlot i) k s).now = s.now := now_of_env (by simp)

theorem eventFault_store : (eventFault (rosterOfSlot i) k s).store = s.store
    ∨ ∃ c, (eventFault (rosterOfSlot i) k s).store = s.store.askWrite (faultsPage i) c := by
  have hput (r : FaultRoster) : (putRoster (rosterOfSlot i) r s).store = s.store
      ∨ ∃ c, (putRoster (rosterOfSlot i) r s).store = s.store.askWrite (faultsPage i) c := by
    have hix : (⟨(rosterOfSlot i).val - 1, by have := i.isLt; simp [rosterOfSlot]⟩ : SlotIx) = i := by
      simp [rosterOfSlot]
    unfold putRoster
    rw [dif_neg (by simp [rosterOfSlot])]
    simp only [hix]
    split
    · exact .inl rfl
    · exact .inr ⟨_, rfl⟩
  unfold eventFault enterFault
  dsimp only
  split
  · rw [offerEntry_store]
    exact hput _
  · exact hput _

end

/-- The state after event faults of a slot's roster with some keys, in order. -/
def enterEvents (i : SlotIx) (ks : List FaultKey) (s : State) : State :=
  ks.foldl (fun t k => eventFault (rosterOfSlot i) k t) s

theorem slot_enterEvents (i : SlotIx) (ks : List FaultKey) (s : State) :
    (enterEvents i ks s).slot i = { s.slot i with faults := afterEvents s.now (s.slot i).faults ks } := by
  unfold enterEvents afterEvents
  induction ks generalizing s with
  | nil => rfl
  | cons k ks ih => rw [List.foldl_cons, List.foldl_cons, ih, slot_eventFault_same, now_eventFault]

theorem enterEvents_quiet (i : SlotIx) (ks : List FaultKey) (s : State) : Quiet s (enterEvents i ks s) :=
  Quiet.foldl (fun t k => eventFault_quiet (rosterOfSlot i) k t) ks s

end Sys2Proof.Machine

namespace Sys2Proof.Machine

/-! ## Writes on their way (R169, R170) -/

section
variable {t : Store} {p : PageIx} {c : List Byte}

theorem bound_iff : t.bound p c = true ↔ (∃ e ∈ t.waiting, e.page = p ∧ e.snapshot = c)
    ∨ (∃ w, t.inFlight = some w ∧ w.page = p ∧ w.snapshot = c) ∨ (t.page p).deferred = true := by
  unfold Store.bound
  cases t.inFlight <;> simp [or_assoc]

/-- R169: a page asked for is on its way with the content asked for. -/
theorem askWrite_bound (hw : t.writing = true) : (t.askWrite p c).bound p c = true := by
  rw [bound_iff, Store.askWrite, if_neg (by simp [hw])]
  split
  · next hany =>
    obtain ⟨e, he, hp⟩ := List.any_eq_true.mp hany
    have hpage : e.page = p := by simpa using hp
    exact .inl ⟨_, List.mem_map.mpr ⟨e, he, rfl⟩, by simp [hpage], by simp [hpage]⟩
  · split
    · exact .inl ⟨_, List.mem_append_right _ (List.mem_singleton_self _), rfl, rfl⟩
    · exact .inr (.inr (by rw [page_modPage_same]))

/-- R169: asking for another page leaves a write on its way. -/
theorem askWrite_bound_other {q : PageIx} (d : List Byte) (h : p ≠ q) (hb : t.bound p c = true) :
    (t.askWrite q d).bound p c = true := by
  unfold Store.askWrite
  split
  · exact hb
  · rw [bound_iff] at hb ⊢
    split
    · refine hb.imp_left fun ⟨e, he, hp, hs⟩ => ⟨e, List.mem_map.mpr ⟨e, he, ?_⟩, hp, hs⟩
      rw [if_neg (by simp [hp, h])]
    · split
      · exact hb.imp_left fun ⟨e, he, hrest⟩ => ⟨e, List.mem_append_left _ he, hrest⟩
      · rw [page_modPage_other t _ h]
        exact hb

/-- R170: issuing a write leaves every write on its way. -/
theorem issue_bound (hb : t.bound p c = true) : t.issue.bound p c = true := by
  unfold Store.issue
  split
  · exact hb
  · next hidle =>
    have hnone : t.inFlight = none := by
      cases h : t.inFlight with
      | none => rfl
      | some w => simp [h] at hidle
    split
    · exact hb
    · next e rest hwaiting =>
      have hdeferred (f : PageMarks → PageMarks) (hf : ∀ m, (f m).deferred = m.deferred) :
          ((t.modPage e.page f).page p).deferred = (t.page p).deferred := by
        by_cases hp : p = e.page
        · subst hp
          rw [page_modPage_same, hf]
        · rw [page_modPage_other t f hp]
      rw [bound_iff] at hb ⊢
      rcases hb with ⟨x, hx, hp, hs⟩ | ⟨w, hw, -⟩ | hd
      · rw [hwaiting] at hx
        rcases List.mem_cons.mp hx with rfl | hx
        · exact .inr (.inl ⟨_, rfl, hp, hs⟩)
        · exact .inl ⟨x, hx, hp, hs⟩
      · rw [hnone] at hw
        cases hw
      · exact .inr (.inr ((hdeferred (fun m => { m with generation := (t.page e.page).generation + 1 })
          fun _ => rfl).trans hd))

end

theorem pageBody_modStore (s : State) (f : Store → Store) (p : PageIx) : pageBody (s.modStore f) p = pageBody s p := rfl

theorem fillPlace_bound {s t : State} {p : PageIx} (h : fillPlace s = some t)
    (hb : s.store.bound p (pageBody s p) = true) : t.store.bound p (pageBody t p) = true := by
  unfold fillPlace at h
  split at h
  · obtain ⟨q, -, rfl⟩ := Option.map_eq_some_iff.mp h
    rw [pageBody_modStore, bound_iff]
    by_cases hq : q = p
    · subst hq
      exact .inl ⟨_, List.mem_append_right _ (List.mem_singleton_self _), rfl, rfl⟩
    · rcases bound_iff.mp hb with ⟨e, he, hrest⟩ | hw | hd
      · exact .inl ⟨e, List.mem_append_left _ he, hrest⟩
      · exact .inr (.inl hw)
      · have hother := page_modPage_other s.store (fun m => { m with deferred := false, deferredTags := [] }) (Ne.symm hq)
        exact .inr (.inr ((congrArg PageMarks.deferred hother).trans hd))
  · cases h

theorem fillPlaces_bound (n : Nat) {s : State} {p : PageIx} (hb : s.store.bound p (pageBody s p) = true) :
    (fillPlaces n s).store.bound p (pageBody (fillPlaces n s) p) = true := by
  induction n generalizing s with
  | zero => exact hb
  | succ n ih =>
    unfold fillPlaces
    split
    · exact hb
    · next t ht => exact ih (fillPlace_bound ht hb)

/-- R169, R170: the Store Controller's work keeps a write on its way with the page's present content. -/
theorem pumpStore_bound {s : State} {p : PageIx} (hb : s.store.bound p (pageBody s p) = true) :
    (pumpStore s).store.bound p (pageBody (pumpStore s) p) = true :=
  fillPlaces_bound _ (issue_bound (fillPlaces_bound Config.writeCapacity hb))

/-! ### The settings page -/

theorem pageKind_settingsPage (i : SlotIx) : pageKind (settingsPage i) = .settings i := by
  revert i
  decide

theorem pageBody_settingsPage (i : SlotIx) (s : State) :
    pageBody s (settingsPage i) = padBody (settingsBody (s.slot i)) := by
  rw [pageBody, pageKind_settingsPage]

/-- While the store makes writes, the settings page of a slot is on its way with its present content. -/
def SettingsAsked (i : SlotIx) (s : State) : Prop :=
  s.store.writing = true → s.store.bound (settingsPage i) (pageBody s (settingsPage i)) = true

theorem enqueue_settingsAsked (i : SlotIx) (s : State) : SettingsAsked i (enqueuePage (settingsPage i) s) :=
  fun hw => askWrite_bound ((askWrite_holds s.store _ (pageBody s (settingsPage i))).writing.symm.trans hw)

/-- The settings page stays on its way while its content stays and at most another page is asked for. -/
theorem SettingsAsked.step {i : SlotIx} {s t : State} (h : SettingsAsked i s)
    (hslot : settingsBody (t.slot i) = settingsBody (s.slot i))
    (hstore : t.store = s.store ∨ ∃ q c, settingsPage i ≠ q ∧ t.store = s.store.askWrite q c) : SettingsAsked i t := by
  intro hw
  rw [pageBody_settingsPage, hslot, ← pageBody_settingsPage]
  rcases hstore with hs | ⟨q, c, hq, hs⟩
  · rw [hs] at hw ⊢
    exact h hw
  · rw [hs] at hw ⊢
    exact askWrite_bound_other c hq (h ((askWrite_holds s.store q c).writing.symm.trans hw))

theorem SettingsAsked.pumped {i : SlotIx} {s : State} (h : SettingsAsked i s) (hw : s.store.writing = true) :
    (pumpStore s).store.bound (settingsPage i) (pageBody (pumpStore s) (settingsPage i)) = true :=
  pumpStore_bound (h hw)

theorem settingsPage_ne_faultsPage (i : SlotIx) : settingsPage i ≠ faultsPage i := by
  simp [settingsPage, faultsPage]

theorem settingsPage_ne_bookPage (i : SlotIx) : settingsPage i ≠ bookPage i := by
  simp [settingsPage, bookPage]

theorem SettingsAsked.enterEvents {i : SlotIx} {s : State} (h : SettingsAsked i s) (ks : List FaultKey) :
    SettingsAsked i (enterEvents i ks s) := by
  unfold Machine.enterEvents
  induction ks generalizing s with
  | nil => exact h
  | cons k ks ih =>
    refine ih (h.step (by rw [slot_eventFault_same]; rfl) ?_)
    exact (eventFault_store i k s).imp_right fun ⟨c, hc⟩ => ⟨_, c, settingsPage_ne_faultsPage i, hc⟩

/-! ## The end of a local-change readback (R115, R116) -/

theorem enterOutOfRange_eq (i : SlotIx) (items : List Nat) (s : State) :
    enterOutOfRange i items s = enterEvents i (items.map keyOutOfRange) s := by
  rw [enterOutOfRange, enterEvents, List.foldl_map]

/-- R115: the keys of the local changes of some items, or the one without a subject. -/
def localChangeKeys (items : List Nat) : List FaultKey :=
  if items.isEmpty then [keyLocalChange none] else items.map fun k => keyLocalChange (some k)

theorem enterLocalChange_eq (i : SlotIx) (items : List Nat) (s : State) :
    enterLocalChange i items s = enterEvents i (localChangeKeys items) s := by
  unfold enterLocalChange localChangeKeys
  split
  · rfl
  · rw [enterEvents, List.foldl_map]

/-- R116: a draft that follows a new Active image. -/
def Draft.followed (d : Draft) (active : Option (List Nat)) : Draft :=
  match d.state with
  | .clean => Draft.cleanOver active
  | _ => { d with state := .edited, baseMoved := true }

theorem followed_state (d : Draft) (active : Option (List Nat)) : (d.followed active).state ≠ .queued := by
  unfold Draft.followed
  split <;> simp [Draft.cleanOver]

/-- R116: the slot, its entry and the store after the draft has followed. -/
theorem followActive_facts {i : SlotIx} {s : State} (h : (s.slot i).draft.state ≠ .delivering) :
    (followActive i s).slot i = { s.slot i with draft := (s.slot i).draft.followed (s.slot i).active }
      ∧ (followActive i s).entry i = (if (s.slot i).draft.state = .queued then none else s.entry i)
      ∧ (followActive i s).store = s.store := by
  unfold followActive Draft.followed
  cases hd : (s.slot i).draft.state with
  | clean => exact ⟨by simp [Slot.withCleanDraft], by simp [State.entry], rfl⟩
  | edited =>
    refine ⟨?_, by simp [State.entry], rfl⟩
    simp only [slot_modSlot_same]
    rw [← hd]
  | queued =>
    refine ⟨by simp, ?_, by simp⟩
    simp only [State.entry, removeEntry, if_true]
    refine List.find?_eq_none.mpr fun e he => ?_
    simpa using (List.mem_filter.mp he).2
  | delivering => exact absurd hd h

/-- R147: a dropped outcome. -/
theorem dropOutcome_facts (i : SlotIx) (s : State) :
    (dropOutcome i s).slot i = { s.slot i with outcome := none } ∧ (dropOutcome i s).queue = s.queue
      ∧ (SettingsAsked i s → SettingsAsked i (dropOutcome i s)) := by
  unfold dropOutcome
  split
  · next hnone =>
    refine ⟨?_, rfl, id⟩
    rw [← Option.isNone_iff_eq_none.mp hnone]
  · exact ⟨by simp, by simp, fun _ => enqueue_settingsAsked i _⟩

theorem resetWindow_facts (i : SlotIx) (s : State) :
    (resetWindow i s).slot i = { s.slot i with book := { (s.slot i).book with paid := 0, award := 0 } }
      ∧ (resetWindow i s).queue = s.queue ∧ (SettingsAsked i s → SettingsAsked i (resetWindow i s)) :=
  ⟨by simp [resetWindow], by simp [resetWindow], fun h =>
    h.step (by simp [resetWindow]; rfl) (.inr ⟨_, _, settingsPage_ne_bookPage i, rfl⟩)⟩

/-- R115: the level of the regulated item moves. -/
def Slot.levelMoves (x : Slot) (old new : List Nat) : Prop :=
  x.regItem ≠ 0 ∧ new[x.regItem - 1]? ≠ old[x.regItem - 1]?

theorem activeLevel_of {x : Slot} {l : List Nat} (h : x.active = some l) (hr : x.regItem ≠ 0) :
    x.activeLevel = l[x.regItem - 1]? := by
  simp [Slot.activeLevel, h, hr]

end Sys2Proof.Machine

namespace Sys2Proof.Machine

/-! ### The choice and a slot that is not picked -/

/-- A slot but for its question counter. -/
def Slot.Questioned (x y : Slot) : Prop := ∃ q, y = { x with question := q }

theorem Slot.Questioned.refl (x : Slot) : x.Questioned x := ⟨x.question, rfl⟩

theorem slot_sendFrame (g : SegId) (i j : SlotIx) (f : HubFrame) (a : Asker) (s : State) :
    (s.slot j).Questioned ((sendFrame g i f a s).slot j) := by
  unfold sendFrame
  dsimp only
  split
  · by_cases hj : j = i
    · subst hj
      exact ⟨_, by simp; rfl⟩
    · exact ⟨(s.slot j).question, by simp [slot_modSlot_other _ _ hj]⟩
  · exact ⟨(s.slot j).question, by simp⟩

theorem sendFrame_queue (g : SegId) (i : SlotIx) (f : HubFrame) (a : Asker) (s : State) :
    (sendFrame g i f a s).queue = s.queue := by
  cases f <;> simp [sendFrame]

theorem sendDelivery_facts (g : SegId) (d : DeliveryRecord) (s : State) :
    (∀ j, (s.slot j).Questioned ((sendDelivery g d s).slot j)) ∧ (sendDelivery g d s).queue = s.queue := by
  unfold sendDelivery
  split
  · exact ⟨fun j => slot_sendFrame g _ j _ _ s, sendFrame_queue g _ _ _ s⟩
  · dsimp only
    refine ⟨fun j => ?_, (sendFrame_queue g _ _ _ _).trans (modSeg_queue ..)⟩
    have h := slot_sendFrame g d.slot j (.checkQuery (s.slot d.slot).question) .delivery
      (s.modSeg g fun y => { y with delivery := some { d with question := some (s.slot d.slot).question } })
    rwa [slot_modSeg] at h

theorem slot_startDelivery_other (g : SegId) {i j : SlotIx} (s : State) (h : j ≠ i) :
    (startDelivery g i s).slot j = s.slot j := by
  simp [startDelivery, setDraftState, slot_modSlot_other _ _ h]

theorem startDelivery_queue (g : SegId) (i : SlotIx) (s : State) : (startDelivery g i s).queue = s.queue := by
  simp [startDelivery, setDraftState]

/-- R30, R33: the choice leaves a slot whose draft is not Queued, but for its question counter, and the queue. -/
theorem choose_facts (g : SegId) (s : State) :
    (∀ j, (s.slot j).draft.state ≠ .queued → (s.slot j).Questioned ((choose g s).slot j))
      ∧ (choose g s).queue = s.queue := by
  unfold choose
  split
  · exact ⟨fun j _ => .refl _, rfl⟩
  · split
    · next d _ => exact ⟨fun j _ => (sendDelivery_facts g d s).1 j, (sendDelivery_facts g d s).2⟩
    · split
      · exact ⟨fun j _ => slot_sendFrame g _ j _ _ s, sendFrame_queue g _ _ _ s⟩
      · split
        · next e he =>
          have hpicked (j : SlotIx) (hj : (s.slot j).draft.state ≠ .queued) : j ≠ e.slot := by
            rintro rfl
            have helig := (pickEntry_mem he).2
            simp only [eligible, Bool.and_eq_true, beq_iff_eq] at helig
            exact hj helig.1.1.2
          dsimp only
          split
          · next d _ =>
            obtain ⟨hslot, hqueue⟩ := sendDelivery_facts g d (startDelivery g e.slot s)
            exact ⟨fun j hj => slot_startDelivery_other g s (hpicked j hj) ▸ hslot j,
              hqueue.trans (startDelivery_queue ..)⟩
          · exact ⟨fun j hj => by rw [slot_startDelivery_other g s (hpicked j hj)]; exact .refl _,
              startDelivery_queue ..⟩
        · unfold routineVisit
          split
          · exact ⟨fun j _ => .refl _, rfl⟩
          · next i _ =>
            split
            · exact ⟨fun j _ => .refl _, rfl⟩
            · next f a _ =>
              refine ⟨fun j _ => ?_, (sendFrame_queue ..).trans (modSeg_queue ..)⟩
              have h := slot_sendFrame g i j f a (s.modSeg g fun y => { y with pointer := some i })
              rwa [slot_modSeg] at h

/-! ### The last frame of a local-change readback -/

/-- The keys entered when a local-change readback ends: out of range, then changed. -/
def readbackKeys (r : Identity) (values old : List Nat) : List FaultKey :=
  (itemsOutside r.ranges values).map keyOutOfRange
    ++ localChangeKeys (itemsDiffering old (clampValues r.ranges values))

theorem afterEvents_append (now : Stamp) (r : FaultRoster) (ks ms : List FaultKey) :
    afterEvents now r (ks ++ ms) = afterEvents now (afterEvents now r ks) ms := List.foldl_append

/-- R115, R116: the state before the regulated item is looked at. -/
def readbackTaken (i : SlotIx) (r : Identity) (values : List Nat) (s : State) : State :=
  followActive i (enterLocalChange i (itemsDiffering ((s.slot i).active.getD []) (clampValues r.ranges values))
    (enqueuePage (settingsPage i) ((enterOutOfRange i (itemsOutside r.ranges values) s).modSlot i fun x =>
      { x with
        active := some (clampValues r.ranges values), readback := none
        confirmed := x.confirmed && x.active == some (clampValues r.ranges values) })))

theorem endLocalReadback_eq (i : SlotIx) (r : Identity) (values : List Nat) (s : State) :
    endLocalReadback i r values s =
      if (s.slot i).regItem ≠ 0 ∧ ((readbackTaken i r values s).slot i).activeLevel ≠ (s.slot i).activeLevel then
        resetWindow i (dropOutcome i (readbackTaken i r values s))
      else readbackTaken i r values s := rfl

/-- R115, R116: a slot whose local-change readback has ended, before the regulated item is looked at. -/
def Slot.readBack (x : Slot) (now : Stamp) (r : Identity) (values old : List Nat) : Slot :=
  { x with
    active := some (clampValues r.ranges values), readback := none
    confirmed := x.confirmed && decide (old = clampValues r.ranges values)
    draft := x.draft.followed (some (clampValues r.ranges values))
    faults := afterEvents now x.faults (readbackKeys r values old) }

section
variable {i : SlotIx} {r : Identity} {values old : List Nat} {s : State}

theorem readbackTaken_facts (ha : (s.slot i).active = some old) (hd : (s.slot i).draft.state ≠ .delivering) :
    (readbackTaken i r values s).slot i = (s.slot i).readBack s.now r values old
      ∧ (readbackTaken i r values s).entry i = (if (s.slot i).draft.state = .queued then none else s.entry i)
      ∧ SettingsAsked i (readbackTaken i r values s) := by
  set u := enqueuePage (settingsPage i) ((enterOutOfRange i (itemsOutside r.ranges values) s).modSlot i fun x =>
      { x with
        active := some (clampValues r.ranges values), readback := none
        confirmed := x.confirmed && x.active == some (clampValues r.ranges values) }) with hu
  set e := enterLocalChange i (itemsDiffering ((s.slot i).active.getD []) (clampValues r.ranges values)) u with he
  have htaken : readbackTaken i r values s = followActive i e := rfl
  have hnow : u.now = s.now := now_of_env (by rw [hu]; simp)
  have hequeue : e.queue = s.queue := by
    rw [he, enterLocalChange_eq, (enterEvents_quiet i _ u).queue, hu, enqueuePage_queue, modSlot_queue,
      enterOutOfRange_eq, (enterEvents_quiet i _ s).queue]
  have heslot : e.slot i = { (s.slot i).readBack s.now r values old with draft := (s.slot i).draft } := by
    rw [he, enterLocalChange_eq, slot_enterEvents, hnow, hu, slot_enqueuePage, slot_modSlot_same, enterOutOfRange_eq,
      slot_enterEvents]
    simp [Slot.readBack, ha, readbackKeys, afterEvents_append]
    rw [Bool.beq_eq_decide_eq]
  have hasked : SettingsAsked i e := by
    rw [he, enterLocalChange_eq]
    exact (enqueue_settingsAsked i _).enterEvents _
  have hdraft : (e.slot i).draft = (s.slot i).draft := by rw [heslot]
  obtain ⟨hslot, hentry, hstore⟩ := followActive_facts (i := i) (s := e) (by rw [hdraft]; exact hd)
  rw [htaken]
  refine ⟨?_, ?_, hasked.step (by rw [hslot]; rfl) (.inl hstore)⟩
  · rw [hslot, heslot]
    rfl
  · rw [hentry, hdraft]
    simp only [State.entry, hequeue]

end

end Sys2Proof.Machine

namespace Sys2Proof.Machine

section
variable {i : SlotIx} {r : Identity} {values old : List Nat} {s : State}

/-- R115, R116: what the last frame of a local-change readback leaves of its slot, the queue and the settings page. -/
theorem endLocalReadback_facts (ha : (s.slot i).active = some old) (hd : (s.slot i).draft.state ≠ .delivering) :
    ((s.slot i).levelMoves old (clampValues r.ranges values) →
        (endLocalReadback i r values s).slot i = { (s.slot i).readBack s.now r values old with
          outcome := none, book := { (s.slot i).book with paid := 0, award := 0 } })
      ∧ (¬ (s.slot i).levelMoves old (clampValues r.ranges values) →
        (endLocalReadback i r values s).slot i = (s.slot i).readBack s.now r values old)
      ∧ (endLocalReadback i r values s).entry i = (if (s.slot i).draft.state = .queued then none else s.entry i)
      ∧ SettingsAsked i (endLocalReadback i r values s) := by
  obtain ⟨hslot, hentry, hasked⟩ := readbackTaken_facts (values := values) (r := r) ha hd
  have hmoves : ((s.slot i).regItem ≠ 0
      ∧ ((readbackTaken i r values s).slot i).activeLevel ≠ (s.slot i).activeLevel)
      ↔ (s.slot i).levelMoves old (clampValues r.ranges values) := by
    refine and_congr_right fun hr => ?_
    rw [hslot, activeLevel_of (x := (s.slot i).readBack s.now r values old) (l := clampValues r.ranges values) rfl hr,
      activeLevel_of ha hr]
    rfl
  obtain ⟨hdrop, hdropQueue, hdropAsked⟩ := dropOutcome_facts i (readbackTaken i r values s)
  obtain ⟨hreset, hresetQueue, hresetAsked⟩ := resetWindow_facts i (dropOutcome i (readbackTaken i r values s))
  have hmoved (h : (s.slot i).levelMoves old (clampValues r.ranges values)) : endLocalReadback i r values s
      = resetWindow i (dropOutcome i (readbackTaken i r values s)) := by
    rw [endLocalReadback_eq, if_pos (hmoves.mpr h)]
  have hkept (h : ¬ (s.slot i).levelMoves old (clampValues r.ranges values)) : endLocalReadback i r values s
      = readbackTaken i r values s := by
    rw [endLocalReadback_eq, if_neg (mt hmoves.mp h)]
  refine ⟨fun h => ?_, fun h => by rw [hkept h, hslot], ?_, ?_⟩
  · rw [hmoved h, hreset, hdrop, hslot]
    rfl
  · by_cases h : (s.slot i).levelMoves old (clampValues r.ranges values)
    · rw [hmoved h, State.entry, hresetQueue, hdropQueue]
      exact hentry
    · rw [hkept h, hentry]
  · by_cases h : (s.slot i).levelMoves old (clampValues r.ranges values)
    · rw [hmoved h]
      exact hresetAsked (hdropAsked hasked)
    · rw [hkept h]
      exact hasked

end

/-! ### The keys entered -/

theorem zipIdx_filter_mem {l : List Bool} {k : Nat} (h : l[k]? = some true) :
    k + 1 ∈ (l.zipIdx.filter Prod.fst).map fun x => x.2 + 1 :=
  List.mem_map.mpr ⟨(true, k), List.mem_filter.mpr ⟨List.mem_zipIdx_iff_getElem?.mpr h, rfl⟩, rfl⟩

/-- R53, R115: an item whose value lies outside its range is among those found. -/
theorem mem_itemsOutside {ranges : List (Nat × Nat)} {values : List Nat} {k : Nat} {b : Nat × Nat} {v : Nat}
    (hb : ranges[k]? = some b) (hv : values[k]? = some v) (h : v < b.1 ∨ b.2 < v) :
    k + 1 ∈ itemsOutside ranges values := by
  refine zipIdx_filter_mem ?_
  rw [List.getElem?_zipWith, hb, hv]
  simpa [outsideRange] using h

/-- R115: an item at which two lists of one length differ is among those found. -/
theorem mem_itemsDiffering {old new : List Nat} (hlen : old.length = new.length) {k : Nat} (h : new[k]? ≠ old[k]?) :
    k + 1 ∈ itemsDiffering old new := by
  refine zipIdx_filter_mem ?_
  by_cases hk : k < old.length
  · have hk' : k < new.length := hlen ▸ hk
    rw [List.getElem?_eq_getElem hk, List.getElem?_eq_getElem hk'] at h
    rw [List.getElem?_zipWith, List.getElem?_eq_getElem hk, List.getElem?_eq_getElem hk']
    exact congrArg some (bne_iff_ne.mpr fun he => h (by rw [he]))
  · exact absurd (by rw [List.getElem?_eq_none (by omega), List.getElem?_eq_none (by omega)]) h

theorem itemsDiffering_self (l : List Nat) : itemsDiffering l l = [] := by
  have hnone : ((List.zipWith (fun a b => a != b) l l).zipIdx.filter Prod.fst) = [] := by
    refine List.filter_eq_nil_iff.mpr fun x hx => ?_
    have hx := List.mem_zipIdx_iff_getElem?.mp hx
    rw [List.getElem?_zipWith] at hx
    cases hl : l[x.2]? with
    | none => simp [hl] at hx
    | some v =>
      simp only [hl, Option.some.injEq, bne_self_eq_false] at hx
      simp [← hx]
  rw [itemsDiffering, hnone]
  rfl

theorem itemsOutside_length (ranges : List (Nat × Nat)) (values : List Nat) :
    (itemsOutside ranges values).length ≤ ranges.length := by
  rw [itemsOutside, List.length_map]
  exact (List.length_filter_le _ _).trans (by simp)

theorem itemsDiffering_length (old new : List Nat) : (itemsDiffering old new).length ≤ old.length := by
  rw [itemsDiffering, List.length_map]
  exact (List.length_filter_le _ _).trans (by simp)

theorem readbackKeys_length (r : Identity) (values old : List Nat) :
    (readbackKeys r values old).length ≤ r.ranges.length + (old.length + 1) := by
  have hout := itemsOutside_length r.ranges values
  have hdiff := itemsDiffering_length old (clampValues r.ranges values)
  have hlocal : (localChangeKeys (itemsDiffering old (clampValues r.ranges values))).length ≤ old.length + 1 := by
    unfold localChangeKeys
    split
    · simp
    · rw [List.length_map]
      omega
  rw [readbackKeys, List.length_append, List.length_map]
  omega

theorem localChangeKeys_mem {items : List Nat} {k : Nat} (h : k ∈ items) :
    keyLocalChange (some k) ∈ localChangeKeys items := by
  unfold localChangeKeys
  rw [if_neg (by cases items <;> simp_all)]
  exact List.mem_map_of_mem h

/-- R115, R156: with room for every key, the records of the keys entered are fresh, and Gone where new. -/
theorem readBack_record {x : Slot} {now : Stamp} {r : Identity} {values old : List Nat} {k : FaultKey}
    (hk : k ∈ readbackKeys r values old) (hold : old.length = r.ranges.length)
    (hroom : x.faults.records.length + 2 * r.ranges.length + 1 ≤ 12) :
    ∃ f, (afterEvents now x.faults (readbackKeys r values old)).find k = some f ∧ f.lastSeen.clock = now.clock
      ∧ f.acked = false ∧ (x.faults.find f.key = none → f.state = .gone) := by
  have hlen := readbackKeys_length r values old
  obtain ⟨hentered, hfresh, -, -⟩ := afterEvents_facts (now := now) (.refl x.faults) (readbackKeys r values old)
    (by simp only [Config.rosterCapacity]; omega)
  obtain ⟨f, hf, hseen, hacked⟩ := hfresh k hk
  exact ⟨f, hf, by rw [hseen], hacked, fun h0 => hentered k f hf (find_key hf ▸ h0)⟩

end Sys2Proof.Machine

namespace Sys2Proof.Machine

/-! ### The store at the end of a local-change readback -/

theorem enterEvents_holds (i : SlotIx) (ks : List FaultKey) (s : State) :
    s.store.Holds (enterEvents i ks s).store := by
  unfold enterEvents
  induction ks generalizing s with
  | nil => exact .refl _
  | cons k ks ih =>
    refine .trans ?_ (ih _)
    rcases eventFault_store i k s with h | ⟨c, h⟩
    · rw [h]
      exact .refl _
    · rw [h]
      exact askWrite_holds _ _ _

theorem enqueuePage_holds (p : PageIx) (s : State) : s.store.Holds (enqueuePage p s).store := askWrite_holds _ _ _

theorem followActive_store {i : SlotIx} {s : State} : (followActive i s).store = s.store := by
  unfold followActive
  split <;> simp

theorem readbackTaken_holds (i : SlotIx) (r : Identity) (values : List Nat) (s : State) :
    s.store.Holds (readbackTaken i r values s).store := by
  rw [readbackTaken, followActive_store, enterLocalChange_eq, enterOutOfRange_eq]
  exact ((enterEvents_holds i _ s).trans (enqueuePage_holds (settingsPage i) (State.modSlot _ i _))).trans
    (enterEvents_holds i _ _)

theorem dropOutcome_holds (i : SlotIx) (s : State) : s.store.Holds (dropOutcome i s).store := by
  unfold dropOutcome
  split
  · exact .refl _
  · exact enqueuePage_holds (settingsPage i) (s.modSlot i _)

theorem resetWindow_holds (i : SlotIx) (s : State) : s.store.Holds (resetWindow i s).store :=
  enqueuePage_holds (bookPage i) (s.modSlot i _)

theorem endLocalReadback_holds (i : SlotIx) (r : Identity) (values : List Nat) (s : State) :
    s.store.Holds (endLocalReadback i r values s).store := by
  have htaken := readbackTaken_holds i r values s
  rw [endLocalReadback_eq]
  split
  · exact (htaken.trans (dropOutcome_holds i _)).trans (resetWindow_holds i _)
  · exact htaken

/-! ### The routine check and the readback as whole steps -/

section
variable {g : SegId} {s : State} {x : Exchange} {gs : GameState} {rest : List Byte}

theorem exec_answer_good {v : State} (hx : (s.seg g).exchange = some x) (hpending : (s.seg g).haltPending = false)
    (hnoisy : (s.seg g).noisy = false) (ht : (s.slot x.slot).table = .active) (hscore : (s.slot x.slot).score < 64)
    (hp : x.phase = .window) (hr : x.received = []) (hrest : rest.length ≤ 318)
    (hv : askerTakes g x (.good gs rest) ((cleared g s).setSlot x.slot ((s.slot x.slot).answeredGood gs)) = v)
    (hseg : v.seg g = (cleared g s).seg g) :
    exec (.answerComplete g gs .accepted rest) s
      = .next (pumpStore (choose g (v.setSeg g (s.seg g).answered))) := by
  rw [exec_eq]
  exact congrArg (Host.Outcome.next ∘ pumpStore) ((answerComplete_window hx hp hr hrest).trans
    (endExchange_good hx hpending hnoisy ht hscore hv hseg))

theorem setSeg_cleared (g : SegId) (i : SlotIx) (z : Segment) (v : Slot) (s : State) :
    ((cleared g s).setSlot i v).setSeg g z = (s.setSeg g z).setSlot i v := by
  rw [cleared_eq, setSeg_setSlot, setSeg_setSeg]

/-- R30, R112: with a quiet store, an answer that the asking block takes into the slot's value alone. -/
theorem exec_answer_slot {v : Slot} (hq : s.store.quiet = true) (hx : (s.seg g).exchange = some x)
    (hpending : (s.seg g).haltPending = false) (hnoisy : (s.seg g).noisy = false)
    (ht : (s.slot x.slot).table = .active) (hscore : (s.slot x.slot).score < 64)
    (hp : x.phase = .window) (hr : x.received = []) (hrest : rest.length ≤ 318)
    (hv : askerTakes g x (.good gs rest) ((cleared g s).setSlot x.slot ((s.slot x.slot).answeredGood gs))
      = (cleared g s).setSlot x.slot v) :
    exec (.answerComplete g gs .accepted rest) s
      = .next (choose g ((s.setSeg g (s.seg g).answered).setSlot x.slot v)) := by
  rw [exec_answer_good hx hpending hnoisy ht hscore hp hr hrest hv (by simp), setSeg_cleared,
    pumpStore_of_quiet (by simpa using hq)]

/-- R115, R116: the whole step at the last frame of a local-change readback. -/
theorem exec_readback_last {r : Identity} {values old : List Nat} {w : Slot} {t : State}
    (hw : w = (s.slot x.slot).answeredGood gs) (ha : w.active = some old) (hd : w.draft.state ≠ .delivering)
    (ht : t = pumpStore (choose g
      ((endLocalReadback x.slot r values ((cleared g s).setSlot x.slot w)).setSeg g (s.seg g).answered))) :
    (∃ o b q, t.slot x.slot = { w.readBack s.now r values old with outcome := o, book := b, question := q }
        ∧ (w.levelMoves old (clampValues r.ranges values) → o = none ∧ b = { w.book with paid := 0, award := 0 })
        ∧ (¬ w.levelMoves old (clampValues r.ranges values) → o = w.outcome ∧ b = w.book))
      ∧ t.entry x.slot = (if w.draft.state = .queued then none else s.entry x.slot)
      ∧ (s.store.writing = true →
          t.store.bound (settingsPage x.slot) (pageBody t (settingsPage x.slot)) = true) := by
  subst hw ht
  set w := (s.slot x.slot).answeredGood gs
  set u := (cleared g s).setSlot x.slot w with hu
  have huslot : u.slot x.slot = w := slot_setSlot_same _ _ _
  have hnow : u.now = s.now := now_of_env (by rw [hu]; simp [cleared])
  have hustore : u.store = s.store := by rw [hu]; simp [cleared]
  have huentry : u.entry x.slot = s.entry x.slot := by simp [State.entry, hu, cleared]
  obtain ⟨hmoved, hkept, hentry, hasked⟩ :=
    endLocalReadback_facts (i := x.slot) (r := r) (values := values) (s := u) (by rw [huslot]; exact ha)
      (by rw [huslot]; exact hd)
  have hholds := endLocalReadback_holds x.slot r values u
  set e := endLocalReadback x.slot r values u with he
  rw [huslot, hnow] at hmoved hkept
  rw [huslot, huentry] at hentry
  obtain ⟨hchosen, hqueue⟩ := choose_facts g (e.setSeg g (s.seg g).answered)
  have hdraft : (e.slot x.slot).draft.state ≠ .queued := by
    by_cases hm : w.levelMoves old (clampValues r.ranges values)
    · rw [hmoved hm]
      exact followed_state _ _
    · rw [hkept hm]
      exact followed_state _ _
  obtain ⟨q, hq⟩ := hchosen x.slot (by simpa using hdraft)
  rw [slot_setSeg] at hq
  refine ⟨?_, ?_, fun hwr => ?_⟩
  · rw [slot_pumpStore, hq]
    by_cases hm : w.levelMoves old (clampValues r.ranges values)
    · exact ⟨_, _, q, by rw [hmoved hm], fun _ => ⟨rfl, rfl⟩, fun h => absurd hm h⟩
    · exact ⟨_, _, q, by rw [hkept hm]; rfl, fun h => absurd h hm, fun _ => ⟨rfl, rfl⟩⟩
  · rw [State.entry, pumpStore_queue, hqueue, setSeg_queue]
    exact hentry
  · have hstep : SettingsAsked x.slot (choose g (e.setSeg g (s.seg g).answered)) :=
      hasked.step (by rw [hq]; rfl) (.inl (by simp))
    refine hstep.pumped ?_
    rw [choose_store, setSeg_store, hholds.writing, hustore]
    exact hwr

end

end Sys2Proof.Machine

namespace Sys2Proof.Machine

/-- R112: a slot whose routine Check Word was taken. -/
def Slot.checked (y : Slot) (readback : Option Readback) : Slot :=
  { y with localCheck := false, due := { y.due with check := 0 }, readback := readback }

section
variable {i : SlotIx} {q : BitVec 4} {reply : Nat} {s : State}

/-- R112: a Check Word that agrees. -/
theorem takeRoutineWord_agrees (h : reply = checkWord ((s.slot i).active.getD []) q) :
    takeRoutineWord i q reply s = s.setSlot i ((s.slot i).checked (s.slot i).readback) := by
  rw [takeRoutineWord, modSlot_def, if_pos h]
  rfl

/-- R112: a Check Word that differs makes a readback pending, or lets one go on. -/
theorem takeRoutineWord_differs (h : reply ≠ checkWord ((s.slot i).active.getD []) q) :
    takeRoutineWord i q reply s = s.setSlot i ((s.slot i).checked
      (some ((s.slot i).readback.getD { next := 1, held := [] }))) := by
  rw [takeRoutineWord, modSlot_def, if_neg h]
  rfl

end

theorem clampValues_length {ranges : List (Nat × Nat)} {values : List Nat} (h : values.length = ranges.length) :
    (clampValues ranges values).length = ranges.length := by
  simp [clampValues, h]

/-- Settles O26, by what the asking block takes of a Good answer and the slot at the end of a readback. -/
theorem answerTakesGameState : Obligations.AnswerTakesGameState := by
  unfold Obligations.AnswerTakesGameState
  refine ⟨fun g s x gs status rest hx hp hr hrest => ?_, ?_⟩
  · obtain ⟨hgame, hmark, hother⟩ := endExchange_gameState gs status rest hx
    rw [← answerComplete_window (gs := gs) (status := status) hx hp hr hrest] at hgame hmark hother
    exact ⟨_, exec_eq (.answerComplete g gs status rest) s, by rw [slot_pumpStore]; exact hgame,
      by rw [slot_pumpStore]; exact hmark, fun j hj => by rw [slot_pumpStore]; exact hother j hj⟩
  intro g s x gs rest hq hx hpending hnoisy ht hscore ha hp hr hrest
  have hleaves (v : Slot) (hv : askerTakes g x (.good gs rest)
      ((cleared g s).setSlot x.slot ((s.slot x.slot).answeredGood gs)) = (cleared g s).setSlot x.slot v) :=
    exec_answer_slot hq hx hpending hnoisy ht hscore hp hr hrest hv
  refine ⟨fun q hi lo hf hbody => ?_, fun q hf hlen => ?_, fun start held values r hf hb hid hparse => ?_⟩
  · have htakes := askerTakes_word (g := g) (gs := gs)
      (s := (cleared g s).setSlot x.slot ((s.slot x.slot).answeredGood gs)) hf ha (hbody ▸ parseCheckWord_two hi lo)
    refine ⟨fun hw => hleaves _ ?_, fun hw => (hleaves (((s.slot x.slot).answeredGood gs).checked
        (some ((s.slot x.slot).readback.getD { next := 1, held := [] }))) ?_).trans ?_⟩
    · rw [htakes, takeRoutineWord_agrees (by rw [slot_setSlot_same]; exact hw), slot_setSlot_same, setSlot_setSlot]
      rfl
    · rw [htakes, takeRoutineWord_differs (by rw [slot_setSlot_same]; exact hw), slot_setSlot_same, setSlot_setSlot]
      rfl
    · cases (s.slot x.slot).readback <;> rfl
  · exact hleaves _ (askerTakes_noWord hf ha (parseCheckWord_none hlen))
  have htakes := askerTakes_readback (g := g) (gs := gs)
    (s := (cleared g s).setSlot x.slot ((s.slot x.slot).answeredGood gs)) hf ha hparse
  have hslot : ((cleared g s).setSlot x.slot ((s.slot x.slot).answeredGood gs)).slot x.slot
    = (s.slot x.slot).answeredGood gs := slot_setSlot_same _ _ _
  refine ⟨fun hn => ?_, fun hn hlast => ?_, fun old hn hlast hlen hold holdlen hdraft _ _ => ?_⟩
  · exact hleaves _ (htakes.trans (takeLocalReadback_short (by rw [hslot]; exact hb) (by rw [hslot]; exact hid) hn))
  · refine hleaves _ (htakes.trans ((takeLocalReadback_held (by rw [hslot]; exact hb) (by rw [hslot]; exact hid) hn
      hlast).trans ?_))
    rw [modSlot_def, hslot, setSlot_setSlot]
    rfl
  · have hend := htakes.trans (takeLocalReadback_last (by rw [hslot]; exact hb) (by rw [hslot]; exact hid) hn hlast)
    have hexec := exec_answer_good hx hpending hnoisy ht hscore hp hr hrest hend
      (((endLocalReadback_within x.slot r _ _).seg g).trans (by simp))
    obtain ⟨⟨o, b, q, hslot, hmoved, hkept⟩, hentry, hpage⟩ :=
      exec_readback_last (g := g) (x := x) (r := r) (values := held ++ values) rfl hold hdraft rfl
    set t := pumpStore _ with htdef
    refine ⟨t, hexec, ?_⟩
    have hclamp := clampValues_length hlen
    have hrecord {k : FaultKey} (hk : k ∈ readbackKeys r (held ++ values) old)
        (hroom : (s.slot x.slot).faults.records.length + 2 * r.ranges.length + 1 ≤ 12) :
        ∃ f, (t.slot x.slot).faults.find k = some f ∧ f.lastSeen.clock = s.clock ∧ f.acked = false
          ∧ ((s.slot x.slot).faults.find f.key = none → f.state = .gone) := by
      rw [hslot]
      exact readBack_record (now := s.now) hk holdlen hroom
    rw [hslot] at hrecord ⊢
    refine ⟨rfl, rfl, rfl, rfl, hentry, hmoved, hkept, rfl, rfl, rfl, rfl, rfl, rfl, hpage,
      fun hroom => ⟨fun k b v hb hv hout => ?_, fun k hk => ?_, fun hsame => ?_⟩⟩
    · exact hrecord (List.mem_append_left _ (List.mem_map_of_mem (mem_itemsOutside hb hv hout))) hroom
    · exact hrecord (List.mem_append_right _
        (localChangeKeys_mem (mem_itemsDiffering (holdlen.trans hclamp.symm) hk))) hroom
    · refine hrecord (List.mem_append_right _ ?_) hroom
      rw [show clampValues r.ranges (held ++ values) = old from hsame, itemsDiffering_self]
      exact List.mem_singleton_self _

end Sys2Proof.Machine

namespace Sys2Proof.Machine

/-! ## Restart Hub (R179)

### Conditions that open, room given (R11, R155) -/

/-- R155: a key has an Open record. -/
def FaultRoster.Opened (r : FaultRoster) (k : FaultKey) : Prop := ∃ x, r.find k = some x ∧ x.state = .opened

section
variable {r : FaultRoster} {k : FaultKey} {now : Stamp}

theorem enter_condition_new (h : r.find k = none) (hroom : r.records.length < Config.rosterCapacity) :
    (r.enter k .hub .condition now).1 = r.add (.first k .hub .condition now) := by
  simp [FaultRoster.enter, h, hroom]

theorem enter_condition_again {x : FaultRecord} (h : r.find k = some x) :
    (r.enter k .hub .condition now).1.records
      = r.records.map fun x => if x.key == k then x.again .condition now else x := by
  simp [FaultRoster.enter, h]

theorem enter_condition_length (hroom : r.records.length < Config.rosterCapacity) :
    (r.enter k .hub .condition now).1.records.length ≤ r.records.length + 1 := by
  cases h : r.find k with
  | none => rw [enter_condition_new h hroom]; simp [FaultRoster.add]
  | some x => rw [enter_condition_again h]; simp

/-- R155: with room, a condition that opens leaves an Open record of its key, and every Open record stays. -/
theorem enter_condition_opened (hroom : r.records.length < Config.rosterCapacity) (m : FaultKey)
    (hm : m = k ∨ r.Opened m) : (r.enter k .hub .condition now).1.Opened m := by
  cases h : r.find k with
  | none =>
    rw [enter_condition_new h hroom]
    unfold FaultRoster.Opened FaultRoster.find FaultRoster.add
    rw [List.find?_append]
    rcases hm with rfl | ⟨x, hx, hopen⟩
    · rw [show r.records.find? (fun x => x.key == m) = none from h]
      exact ⟨.first m .hub .condition now, by simp [FaultRecord.first], rfl⟩
    · rw [show r.records.find? (fun x => x.key == m) = some x from hx]
      exact ⟨x, rfl, hopen⟩
  | some y =>
    have hkey : (fun x : FaultRecord => x.key == m) ∘ (fun x => if x.key == k then x.again .condition now else x)
        = fun x => x.key == m := by
      funext x
      by_cases hx : x.key = k <;> simp [hx, FaultRecord.again]
    unfold FaultRoster.Opened FaultRoster.find
    rw [enter_condition_again h, List.find?_map, hkey]
    rcases hm with rfl | ⟨x, hx, hopen⟩
    · rw [show r.records.find? (fun x => x.key == m) = some y from h]
      exact ⟨_, rfl, by simp [find_key h, FaultRecord.again]⟩
    · rw [show r.records.find? (fun x => x.key == m) = some x from hx]
      refine ⟨_, rfl, ?_⟩
      dsimp only
      split
      · rfl
      · exact hopen

end

/-- Between two states at most a number of conditions of roster 0 opened, and what was Open stays. -/
structure Opens (n : Nat) (s t : State) : Prop where
  length : t.hubFaults.records.length ≤ s.hubFaults.records.length + n
  stays : ∀ k, s.hubFaults.Opened k → t.hubFaults.Opened k

theorem Opens.trans {n m : Nat} {s t u : State} (h : Opens n s t) (k : Opens m t u) : Opens (n + m) s u :=
  ⟨k.length.trans (by have := h.length; omega), fun key hk => k.stays key (h.stays key hk)⟩

theorem openIfAsserted_opens {g : SegId} {kind : LineFaultKind} {s : State}
    (hroom : s.hubFaults.records.length < Config.rosterCapacity) :
    Opens 1 s (openIfAsserted g kind s)
      ∧ ((s.seg g).inputs.level kind = true → (openIfAsserted g kind s).hubFaults.Opened (keyLine g kind)) := by
  unfold openIfAsserted
  split
  · refine ⟨⟨?_, fun k hk => ?_⟩, fun _ => ?_⟩ <;> rw [openCondition_hubFaults]
    · exact enter_condition_length hroom
    · exact enter_condition_opened hroom k (.inr hk)
    · exact enter_condition_opened hroom _ (.inl rfl)
  · next h => exact ⟨⟨by omega, fun _ => id⟩, fun h' => absurd h' h⟩

theorem seg_openIfAsserted (g k : SegId) (kind : LineFaultKind) (s : State) :
    (openIfAsserted g kind s).seg k = s.seg k := by
  unfold openIfAsserted
  split
  · exact seg_openCondition 0 _ s k
  · rfl

/-- R11: with room, the records of the asserted inputs of a segment that enters Starting are Open. -/
theorem enterStarting_opens {g : SegId} {s : State} (hroom : s.hubFaults.records.length + 3 ≤ Config.rosterCapacity) :
    Opens 3 s (enterStarting g s)
      ∧ ∀ kind, (s.seg g).inputs.level kind = true → (enterStarting g s).hubFaults.Opened (keyLine g kind) := by
  set u := s.modSeg g fun y =>
    { y with state := if y.inputs.asserted then .faulted else .starting, lineSpeed := y.params.speed } with hu
  have hlevel : (u.seg g).inputs = (s.seg g).inputs := by rw [hu, seg_modSeg_same]
  have hfaults : u.hubFaults = s.hubFaults := modSeg_hubFaults s g _
  rw [← hfaults] at hroom
  rw [← hlevel]
  obtain ⟨h1, o1⟩ := openIfAsserted_opens (g := g) (kind := .biasLost) (s := u) (by omega)
  set v := openIfAsserted g .biasLost u with hv
  obtain ⟨h2, o2⟩ := openIfAsserted_opens (g := g) (kind := .shorted) (s := v) (by have := h1.length; omega)
  set w := openIfAsserted g .shorted v with hw
  obtain ⟨h3, o3⟩ := openIfAsserted_opens (g := g) (kind := .grounded) (s := w)
    (by have := h1.length; have := h2.length; omega)
  have hall := (h1.trans h2).trans h3
  refine ⟨⟨hfaults ▸ hall.length, fun k hk => hall.stays k (hfaults ▸ hk)⟩, fun kind hkind => ?_⟩
  cases kind with
  | biasLost => exact h3.stays _ (h2.stays _ (o1 hkind))
  | shorted => exact h3.stays _ (o2 (by rw [hv, seg_openIfAsserted]; exact hkind))
  | grounded => exact o3 (by rw [hw, seg_openIfAsserted, hv, seg_openIfAsserted]; exact hkind)

/-- R13: with no input asserted nothing is entered. -/
theorem enterStarting_clear {g : SegId} {s : State} (h : (s.seg g).inputs.asserted = false) :
    enterStarting g s = s.setSeg g { s.seg g with state := .starting, lineSpeed := (s.seg g).params.speed } := by
  have hinputs := h
  simp only [LineInputs.asserted, Bool.or_eq_false_iff] at hinputs
  obtain ⟨⟨hb, hs⟩, hg⟩ := hinputs
  simp [enterStarting, openIfAsserted, modSeg_def, LineInputs.level, hb, hs, hg, h]

/-! ### The Store Controller's work, what it holds (R169, R170) -/

theorem fillPlace_holds {s t : State} (h : fillPlace s = some t) : s.store.Holds t.store := by
  unfold fillPlace at h
  split at h
  · obtain ⟨q, -, rfl⟩ := Option.map_eq_some_iff.mp h
    have hq := modPage_holds s.store q (fun m => { m with deferred := false, deferredTags := [] }) (fun _ => rfl)
      fun _ => rfl
    exact ⟨hq.state, hq.groups, hq.inFlight, hq.bad, hq.generation⟩
  · cases h

theorem fillPlaces_holds (n : Nat) (s : State) : s.store.Holds (fillPlaces n s).store := by
  induction n generalizing s with
  | zero => exact .refl _
  | succ n ih =>
    unfold fillPlaces
    split
    · exact .refl _
    · next t ht => exact (fillPlace_holds ht).trans (ih t)

theorem issue_groups (t : Store) : t.issue.groups = t.groups := by
  unfold Store.issue
  split
  · rfl
  · split <;> rfl

theorem issue_bad (t : Store) (q : PageIx) : (t.issue.page q).bad = (t.page q).bad := by
  unfold Store.issue
  split
  · rfl
  · split
    · rfl
    · next e rest _ =>
      have hmarks (f : PageMarks → PageMarks) (hf : ∀ m, (f m).bad = m.bad) :
          ((t.modPage e.page f).page q).bad = (t.page q).bad := by
        by_cases hq : q = e.page
        · rw [hq, page_modPage_same, hf]
        · rw [page_modPage_other t f hq]
      exact hmarks (fun m => { m with generation := (t.page e.page).generation + 1 }) fun _ => rfl

theorem issue_flying {t : Store} (h : t.inFlight.isSome = true) : t.issue = t := by
  simp [Store.issue, h]

/-- R169, R170: the groups and the bad marks stay, and while a write is in flight so does everything that asking for
writes leaves alone. -/
theorem pumpStore_holds (s : State) : (pumpStore s).store.groups = s.store.groups
    ∧ (∀ q, ((pumpStore s).store.page q).bad = (s.store.page q).bad)
    ∧ (s.store.inFlight.isSome = true → s.store.Holds (pumpStore s).store) := by
  have h := fillPlaces_holds Config.writeCapacity s
  set u := fillPlaces Config.writeCapacity s
  have k := fillPlaces_holds Config.writeCapacity (u.modStore Store.issue)
  refine ⟨k.groups.trans ((issue_groups u.store).trans h.groups),
    fun q => (k.bad q).trans ((issue_bad u.store q).trans (h.bad q)), fun hs => h.trans ?_⟩
  have hissue : (u.modStore Store.issue).store = u.store := issue_flying (by rw [h.inFlight]; exact hs)
  rw [hissue] at k
  exact k

end Sys2Proof.Machine

namespace Sys2Proof.Machine

/-! ### Deliveries that return at a restart (R137) -/

/-- What the restart of the segments and of the tables leaves alone: the records of roster 0, the alerts, the ports, and
of the store what asking for writes leaves. -/
structure Aside (s t : State) : Prop where
  hubFaults : t.hubFaults = s.hubFaults
  alerts : t.alerts = s.alerts
  overrun : t.overrun = s.overrun
  port : ∀ q, t.port q = s.port q
  store : s.store.Holds t.store

theorem Aside.refl (s : State) : Aside s s := ⟨rfl, rfl, rfl, fun _ => rfl, .refl _⟩

theorem Aside.trans {s t u : State} (h : Aside s t) (k : Aside t u) : Aside s u :=
  ⟨k.hubFaults.trans h.hubFaults, k.alerts.trans h.alerts, k.overrun.trans h.overrun,
    fun q => (k.port q).trans (h.port q), h.store.trans k.store⟩

/-- No withdrawal waits to be answered. -/
def Unanswered (s : State) : Prop := ∀ e ∈ s.queue, e.withdrawPort = none

theorem returned_aside (g : SegId) (i : SlotIx) (s : State) : Aside s (returned g i s) := by
  refine ⟨returned_hubFaults g i s, by simp [returned, setDraftState], by simp [returned, setDraftState],
    fun q => by simp [returned, setDraftState], ?_⟩
  rw [returned_store]
  exact .refl _

theorem returnToQueue_aside {s : State} (h : Unanswered s) (g : SegId) (i : SlotIx) :
    Aside s (returnToQueue g i s) := by
  rw [returnToQueue_eq]
  split
  · exact returned_aside g i s
  · next e he =>
    split
    · rw [withdrawEntry_some _ he]
      have hport : e.withdrawPort = none := h e (List.mem_of_find?_eq_some ((returned_entry g i i s).symm.trans he))
      rw [hport]
      refine (returned_aside g i s).trans ⟨?_, ?_, ?_, fun q => ?_, ?_⟩
      · simp [answerTo, setDraftState]
      · simp [answerTo, setDraftState]
      · simp [answerTo, setDraftState]
      · simp [answerTo, setDraftState]
      · simp only [answerTo, setDraftState, removeEntry_store, modSlot_store]
        exact .refl _
    · exact returned_aside g i s

theorem suspendDelivery_aside {s : State} (h : Unanswered s) (g : SegId) : Aside s (suspendDelivery g s) := by
  unfold suspendDelivery
  split
  · exact .refl s
  · exact returnToQueue_aside h g _

/-- R130, R134: with one entry per slot, the queue loses the entry of a withdrawn delivery alone. -/
theorem queueAfter_eq {i : SlotIx} {s : State} (hn : s.entries.Nodup) :
    queueAfter i s = s.queue.filter fun e => !(e.withdrawal && e.slot == i) := by
  unfold queueAfter
  cases he : s.entry i with
  | none =>
    have hnone : ∀ e ∈ s.queue, e.slot ≠ i := by simpa [State.entry] using he
    rw [if_neg (by simp [stateAfter])]
    exact (List.filter_eq_self.mpr fun e h => by simp [hnone e h]).symm
  | some e =>
    have hmem : e ∈ s.queue := List.mem_of_find?_eq_some he
    have hslot : e.slot = i := by simpa using List.find?_some he
    have hone (x : DeliveryEntry) (hx : x ∈ s.queue) (h : x.slot = i) : x = e :=
      List.inj_on_of_nodup_map hn hx hmem (h.trans hslot.symm)
    by_cases hw : e.withdrawal = true
    · rw [if_pos (by simp [stateAfter, hw])]
      refine List.filter_congr fun x hx => ?_
      by_cases h : x.slot = i
      · simp [hone x hx h, hslot, hw]
      · simp [bne, beq_false_of_ne h]
    · rw [if_neg (by simp [stateAfter, hw])]
      refine (List.filter_eq_self.mpr fun x hx => ?_).symm
      by_cases h : x.slot = i
      · simp [hone x hx h, hw]
      · simp [h]

/-- R130, R134: the queue after the delivery of a segment, if any, is suspended. -/
theorem suspendDelivery_queue {g : SegId} {s : State} (hn : s.entries.Nodup) : (suspendDelivery g s).queue
    = s.queue.filter fun e => !(e.withdrawal && (s.seg g).target == some e.slot) := by
  cases hd : (s.seg g).delivery with
  | none =>
    rw [suspendDelivery_none hd, target_of_none hd]
    exact (List.filter_eq_self.mpr fun e _ => by simp).symm
  | some d =>
    rw [suspendDelivery_some hd, (returnToQueue_facts g d.slot s).2.2.1, queueAfter_eq hn]
    refine List.filter_congr fun e _ => ?_
    rw [show (s.seg g).target = some d.slot by simp [Segment.target, hd]]
    rw [Option.some_beq_some, BEq.comm]

theorem slot_suspendDelivery (g : SegId) (s : State) (j : SlotIx) : (suspendDelivery g s).slot j = { s.slot j with
    draft := { (s.slot j).draft with
      state := if (s.seg g).target = some j then stateAfter (s.entry j) else (s.slot j).draft.state } } := by
  cases hd : (s.seg g).delivery with
  | none => rw [suspendDelivery_none hd, target_of_none hd, if_neg (by simp)]
  | some d =>
    rw [show (s.seg g).target = some d.slot by simp [Segment.target, hd]]
    by_cases hj : d.slot = j
    · subst hj
      rw [suspendDelivery_some hd, (returnToQueue_facts g d.slot s).1, if_pos rfl]
    · rw [slot_suspendDelivery_other (j := j) (by rintro d' hd'; rw [hd] at hd'; cases hd'; exact hj),
        if_neg (by simpa using hj)]

/-! ### A segment at a restart (R14, R18) -/

/-- R14: the due record that the exchange in flight on a segment leaves a slot when it is abandoned. -/
def dueLeft (x : Option Exchange) (j : SlotIx) (d : DueRecord) : DueRecord :=
  match x with
  | none => d
  | some x => if x.slot = j then dueAfter x.frame d else d

section
variable (x : Option Exchange) (j : SlotIx) (d : DueRecord)

/-- R14, R26, R37: an abandoned exchange touches the probe timer and the resend mark alone. -/
theorem dueLeft_facts : (dueLeft x j d).closing = d.closing ∧ (dueLeft x j d).fault = d.fault
    ∧ (dueLeft x j d).meter = d.meter ∧ (dueLeft x j d).check = d.check
    ∧ ((dueLeft x j d).resend = true ↔ d.resend = true ∨ ∃ y b, x = some y ∧ y.slot = j ∧ y.frame = .faultPoll b) := by
  unfold dueLeft
  cases x with
  | none => simp
  | some y =>
    by_cases hj : y.slot = j
    · cases hf : y.frame <;> simp [hj, dueAfter, hf]
    · simp [hj]

end

/-- R14, R18, R137: a segment at a restart. -/
structure Suspended (g : SegId) (s t : State) : Prop where
  aside : Aside s t
  seg : t.seg g = { s.seg g with
    haltPending := false, haltWaiters := [], exchange := none, delivery := none
    driverOn := if (s.seg g).exchange = none then (s.seg g).driverOn else false }
  other : ∀ k, k ≠ g → t.seg k = s.seg k
  queue : t.queue = s.queue.filter fun e => !(e.withdrawal && (s.seg g).target == some e.slot)
  slot : ∀ j, t.slot j = { s.slot j with
    due := dueLeft (s.seg g).exchange j (s.slot j).due
    draft := { (s.slot j).draft with
      state := if (s.seg g).target = some j then stateAfter (s.entry j) else (s.slot j).draft.state } }

theorem abandoned_aside (g : SegId) (s : State) : Aside s (abandoned g s) := by
  unfold abandoned
  split
  · exact .refl s
  · refine ⟨by simp [cleared], by simp [cleared], by simp [cleared], fun q => by simp [cleared], ?_⟩
    rw [setSlot_store, cleared, modSeg_store]
    exact .refl _

theorem restartSegment_suspended {g : SegId} {s : State} (hn : s.entries.Nodup) (hw : Unanswered s) :
    Suspended g s (restartSegment g s) := by
  set u := s.modSeg g fun y => { y with haltPending := false, haltWaiters := [] } with hu
  have hrestart : restartSegment g s = suspendDelivery g (abandoned g u) := suspend_abandon_eq g u
  obtain ⟨-, hqueue, -⟩ := abandoned_facts g u
  have huq : (abandoned g u).queue = s.queue := hqueue.trans (modSeg_queue ..)
  have hasideU : Aside s u := ⟨by simp [hu], by simp [hu], by simp [hu], fun q => by simp [hu],
    by rw [hu, modSeg_store]; exact .refl _⟩
  have hseg : (abandoned g u).seg g = { s.seg g with
      haltPending := false, haltWaiters := [], exchange := none
      driverOn := if (s.seg g).exchange = none then (s.seg g).driverOn else false } := by
    rw [seg_abandoned, hu, seg_modSeg_same]
  have htarget : ((abandoned g u).seg g).target = (s.seg g).target := by rw [hseg]; rfl
  have hslot (j : SlotIx) : (abandoned g u).slot j
      = { s.slot j with due := dueLeft (s.seg g).exchange j (s.slot j).due } := by
    rw [slot_abandoned, hu, seg_modSeg_same, slot_modSeg]
    rfl
  rw [hrestart]
  have hunanswered : Unanswered (abandoned g u) := fun e he => hw e (huq ▸ he)
  refine ⟨(hasideU.trans (abandoned_aside g u)).trans (suspendDelivery_aside hunanswered g), ?_, fun k hk => ?_, ?_,
    fun j => ?_⟩
  · rw [seg_suspendDelivery, hseg]
  · rw [seg_suspendDelivery_other _ hk, seg_abandoned_other _ hk, hu, seg_modSeg_other _ _ hk]
  · rw [suspendDelivery_queue (by rw [State.entries, huq]; exact hn), huq, htarget]
  · rw [slot_suspendDelivery, htarget, hslot, State.entry, huq]
    rfl

/-! ### The tables at a restart (R38, R58) -/

/-- R58: the restart of a table without a close and without a delivery in flight. -/
theorem restartTable_replaced {i : SlotIx} {s : State} (hc : (s.slot i).close = .idle)
    (hd : (s.seg (s.slot i).seg).target ≠ some i) :
    Replaced i { (s.slot i).absented with game := none } s (restartTable i s) := by
  obtain ⟨u, hu, he⟩ := absentByRequest_eq hd
  have hidle : endPolling i false u = u := by
    unfold endPolling
    rw [hu.slot_same, show (s.slot i).absented.close = .idle from hc]
  have hmod := modSlot_replaced i (fun x => { x with game := none }) u
  rw [hu.slot_same] at hmod
  rw [restartTable, he, hidle]
  exact hu.trans hmod

theorem Replaced.aside {i : SlotIx} {y : Slot} {s u : State} (h : Replaced i y s u) : Aside s u := by
  have hport := h.port
  obtain ⟨st, hst, rfl⟩ := h
  exact ⟨rfl, rfl, rfl, hport, hst⟩

theorem Replaced.queue {i : SlotIx} {y : Slot} {s u : State} (h : Replaced i y s u) : u.queue = s.queue := by
  obtain ⟨st, -, rfl⟩ := h
  rfl

/-- R38, R58: every listed table at a restart, the closes abandoned and no delivery in flight. -/
theorem restartTables_facts {s : State} (hc : ∀ i, (s.slot i).close = .idle) (hd : ∀ g, (s.seg g).delivery = none) :
    Aside s (s.forSlots s.listedSlots restartTable)
      ∧ (∀ g, (s.forSlots s.listedSlots restartTable).seg g = s.seg g)
      ∧ (s.forSlots s.listedSlots restartTable).queue = s.queue
      ∧ ∀ i, (s.forSlots s.listedSlots restartTable).slot i
        = if (s.slot i).table = .unlisted then s.slot i else { (s.slot i).absented with game := none } := by
  obtain ⟨⟨haside, hseg, hqueue⟩, hmine, hother⟩ := forSlots_once
    (P := fun u => Aside s u ∧ (∀ g, u.seg g = s.seg g) ∧ u.queue = s.queue)
    (R := fun x y => y = { x.absented with game := none }) (f := restartTable) (l := s.listedSlots) (s := s)
    ((List.nodup_finRange 16).filter _) ⟨.refl s, fun _ => rfl, rfl⟩ fun i _ u ⟨ha, hs, hq⟩ hsame => by
      have h := restartTable_replaced (i := i) (s := u) (by rw [hsame]; exact hc i)
        (by rw [hs, target_of_none (hd _)]; simp)
      exact ⟨⟨ha.trans h.aside, fun g => (h.seg g).trans (hs g), h.queue.trans hq⟩, by rw [h.slot_same, hsame],
        fun j hj => h.slot_other hj⟩
  refine ⟨haside, hseg, hqueue, fun i => ?_⟩
  split
  · next hi => exact hother i fun h => mem_listedSlots.mp h hi
  · next hi => exact hmine i (mem_listedSlots.mpr hi)

end Sys2Proof.Machine

namespace Sys2Proof.Machine

/-! ### Both segments at a restart -/

/-- R122: a draft is Delivering exactly while one of the segments delivers it. -/
theorem Agrees.delivering_iff {s : State} (h : Agrees s) (i : SlotIx) :
    (s.slot i).draft.state = .delivering ↔ (s.seg .a).target = some i ∨ (s.seg .b).target = some i := by
  rw [h.delivering]
  constructor
  · intro ht
    cases hg : (s.slot i).seg with
    | a => exact .inl (hg ▸ ht)
    | b => exact .inr (hg ▸ ht)
  · rintro (ht | ht)
    · rw [(h.placed .a i ht).1, ht]
    · rw [(h.placed .b i ht).1, ht]

/-- A slot between the restart of the segments and that of the tables. -/
structure Returned (d b : State) (j : SlotIx) (st : DraftState) : Prop where
  slot : b.slot j = { d.slot j with
    due := dueLeft (d.seg .b).exchange j (dueLeft (d.seg .a).exchange j (d.slot j).due)
    draft := { (d.slot j).draft with state := st } }
  free : st ≠ .delivering
  settled : (d.slot j).draft.state = .delivering → ∀ e, d.entry j = some e →
    st = if e.withdrawal then .edited else .queued

/-- R14, R18, R137: what the restart of both segments leaves. -/
theorem restartSegments_facts {d : State} (h : Coherent d) (hw : Unanswered d) (hlive : d.store.state ≠ .loading) :
    Aside d (restartSegment .b (restartSegment .a d))
      ∧ (∀ g, (restartSegment .b (restartSegment .a d)).seg g = { d.seg g with
          haltPending := false, haltWaiters := [], exchange := none, delivery := none, driverOn := false })
      ∧ (restartSegment .b (restartSegment .a d)).queue
        = d.queue.filter (fun e => !(e.withdrawal && (d.slot e.slot).draft.state == .delivering))
      ∧ ∀ j, ∃ st, Returned d (restartSegment .b (restartSegment .a d)) j st := by
  have ha := restartSegment_suspended (g := .a) h.agrees.nodup hw
  obtain ⟨hca, -⟩ := restartSegment_coherent h .a hlive
  have hparted := restartSegments_parted h hlive
  set a := restartSegment .a d
  have hb := restartSegment_suspended (g := .b) hca.agrees.nodup fun e he =>
    hw e (List.mem_of_mem_filter (ha.queue ▸ he))
  set b := restartSegment .b a
  have hsegB : a.seg .b = d.seg .b := ha.other .b (by decide)
  have hsegA : b.seg .a = a.seg .a := hb.other .a (by decide)
  have hoff (g : SegId) : (b.seg g).driverOn = false :=
    Bool.eq_false_iff.mpr fun hon => ((sound_iff _).mp (hparted.coherent.sound g)).2.1 hon (hparted.still g).1
  refine ⟨ha.aside.trans hb.aside, fun g => ?_, ?_, fun j => ?_⟩
  · have hd := hoff g
    cases g with
    | a => rw [hsegA, ha.seg] at hd ⊢; simp only at hd; rw [hd]
    | b => rw [hb.seg, hsegB] at hd ⊢; simp only at hd; rw [hd]
  · rw [hb.queue, ha.queue, List.filter_filter, hsegB]
    refine List.filter_congr fun e _ => ?_
    have hdel := h.agrees.delivering_iff e.slot
    rw [Bool.eq_iff_iff]
    simp only [Bool.and_eq_true, Bool.not_eq_true', Bool.and_eq_false_iff, beq_eq_false_iff_ne, ne_eq, hdel]
    tauto
  · refine ⟨_, ⟨by rw [hb.slot, ha.slot, hsegB], ?_, fun hdel e he => ?_⟩⟩
    · have hfree : (b.slot j).draft.state ≠ .delivering := by
        rw [ne_eq, hparted.coherent.agrees.delivering, target_of_none (hparted.still _).2]
        simp
      rw [hb.slot, ha.slot, hsegB] at hfree
      exact hfree
    · have hentry : (d.seg .a).target ≠ some j → a.entry j = some e := by
        intro hne
        rw [State.entry, ha.queue, List.find?_filter, ← he, State.entry]
        congr 1
        funext x
        by_cases hx : x.slot = j
        · simp [hx, hne]
        · simp [hx]
      by_cases hta : (d.seg .a).target = some j
      · have htb : (d.seg .b).target ≠ some j := fun htb =>
          absurd ((h.agrees.placed .a j hta).1.symm.trans (h.agrees.placed .b j htb).1) (by decide)
        rw [if_neg htb]
        simp only
        rw [if_pos hta, he]
        rfl
      · rw [if_pos ((h.agrees.delivering_iff j).mp hdel |>.resolve_left hta), hentry hta]
        rfl

/-! ### The lines at a restart (R18) -/

theorem restartLine_eq (g : SegId) (s : State) : restartLine g s
    = { s.setSeg g { s.seg g with garble := 0, noisy := false, collisions := 0, pointer := none } with
        hubFaults := s.hubFaults.finish (keyNoisy g) } := by
  rw [restartLine, garbleReset, endCondition_zero]
  cases g <;> rfl

end Sys2Proof.Machine

namespace Sys2Proof.Machine

/-- R11, R18: the line quality of both segments at a restart, and their entry into Starting. -/
def relit (s : State) : State := enterStarting .b (enterStarting .a (restartLine .b (restartLine .a s)))

section
variable (s : State)

theorem restartLines_eq : restartLine .b (restartLine .a s)
    = { (s.setSeg .a { s.segA with garble := 0, noisy := false, collisions := 0, pointer := none }).setSeg .b
          { s.segB with garble := 0, noisy := false, collisions := 0, pointer := none } with
        hubFaults := (s.hubFaults.finish (keyNoisy .a)).finish (keyNoisy .b) } := by
  rw [restartLine_eq, restartLine_eq]
  rfl

theorem relit_slots : (relit s).slots = s.slots := by
  rw [relit, (enterStarting_facts .b _).1, (enterStarting_facts .a _).1, restartLines_eq]
  rfl

theorem relit_store : (relit s).store = s.store := by
  rw [relit, (enterStarting_facts .b _).2.1, (enterStarting_facts .a _).2.1, restartLines_eq]
  rfl

theorem relit_port (q : PortId) : (relit s).port q = s.port q := by
  rw [relit, (enterStarting_facts .b _).2.2, (enterStarting_facts .a _).2.2, restartLines_eq]
  cases q <;> rfl

theorem relit_queue : (relit s).queue = s.queue := by
  rw [relit, (enterStarting_quiet .b _).queue, modSeg_queue, (enterStarting_quiet .a _).queue, modSeg_queue,
    restartLines_eq]
  rfl

theorem seg_relit (g : SegId) : (relit s).seg g = { s.seg g with
    garble := 0, noisy := false, collisions := 0, pointer := none, lineSpeed := (s.seg g).params.speed
    state := if (s.seg g).inputs.asserted then .faulted else .starting } := by
  rw [relit]
  cases g with
  | a =>
    rw [seg_enterStarting_other _ (by decide), seg_enterStarting_same, restartLines_eq]
    rfl
  | b =>
    rw [seg_enterStarting_same, seg_enterStarting_other _ (by decide), restartLines_eq]
    rfl

/-- R13, R18: with no input asserted the Noisy records end and nothing is entered. -/
theorem relit_clear (ha : s.segA.inputs.asserted = false) (hb : s.segB.inputs.asserted = false) :
    (relit s).alerts = s.alerts ∧ (relit s).overrun = s.overrun
      ∧ (relit s).hubFaults = (s.hubFaults.finish (keyNoisy .a)).finish (keyNoisy .b) := by
  have h : restartLine .b (restartLine .a s) = _ := restartLines_eq s
  set l := restartLine .b (restartLine .a s)
  have hla : (l.seg .a).inputs.asserted = false := by rw [h]; exact ha
  have hlb : ((enterStarting .a l).seg .b).inputs.asserted = false := by
    rw [seg_enterStarting_other _ (by decide), h]
    exact hb
  rw [show relit s = enterStarting .b (enterStarting .a l) from rfl, enterStarting_clear hlb, enterStarting_clear hla,
    h]
  exact ⟨rfl, rfl, rfl⟩

/-- R11: with room, the records of the asserted inputs are Open. -/
theorem relit_opened (hroom : s.hubFaults.records.length ≤ 6) {g : SegId} {kind : LineFaultKind}
    (hlevel : (s.seg g).inputs.level kind = true) : (relit s).hubFaults.Opened (keyLine g kind) := by
  have h : restartLine .b (restartLine .a s) = _ := restartLines_eq s
  set l := restartLine .b (restartLine .a s)
  have hlength : l.hubFaults.records.length = s.hubFaults.records.length := by
    rw [h]
    simp [FaultRoster.finish]
  have hinputs : (l.seg g).inputs = (s.seg g).inputs := by
    rw [h]
    cases g <;> rfl
  obtain ⟨hopens, hopened⟩ := enterStarting_opens (g := .a) (s := l) (by simp only [Config.rosterCapacity]; omega)
  have hmid := hopens.length
  obtain ⟨hopens', hopened'⟩ := enterStarting_opens (g := .b) (s := enterStarting .a l)
    (by simp only [Config.rosterCapacity]; omega)
  cases g with
  | a => exact hopens'.stays _ (hopened kind (by rw [hinputs]; exact hlevel))
  | b => exact hopened' kind (by rw [seg_enterStarting_other _ (by decide), hinputs]; exact hlevel)

end

/-! ### The whole of Restart Hub -/

theorem port_restartDropped (p q : PortId) (s : State) :
    (restartDropped p s).port q = (s.port q).restarted (if q = p then some 3 else none) := by
  cases q <;> rfl

theorem restartDropped_unanswered (p : PortId) (s : State) : Unanswered (restartDropped p s) := by
  intro e he
  obtain ⟨x, -, rfl⟩ := List.mem_map.mp he
  rfl

theorem restartDropped_queue (p : PortId) (s : State) :
    (restartDropped p s).queue = s.queue.map fun e => { e with withdrawPort := none } := by
  simp [restartDropped]

theorem entry_restartDropped (p : PortId) (s : State) (i : SlotIx) :
    (restartDropped p s).entry i = (s.entry i).map fun e => { e with withdrawPort := none } := by
  rw [State.entry, restartDropped_queue, List.find?_map]
  rfl

theorem restartDropped_hubFaults (p : PortId) (s : State) :
    (restartDropped p s).hubFaults = s.hubFaults ∧ (restartDropped p s).alerts = s.alerts
      ∧ (restartDropped p s).overrun = s.overrun := by
  simp [restartDropped]

/-- R179: the state that Restart Hub leaves before it is answered. -/
def restarted (p : PortId) (s : State) : State :=
  let t := restartSegment .b (restartSegment .a (restartDropped p s))
  relit (t.forSlots t.listedSlots restartTable)

theorem serveRestartHub_restarted (p : PortId) (s : State) :
    serveRestartHub p s = answer p .done [] (restarted p s) := rfl

theorem restarted_env (p : PortId) (s : State) : (restarted p s).env = s.env := by
  have h : (restartDropped p s).env = s.env := by simp [restartDropped, State.env]
  rw [← h]
  simp [restarted, relit, restartLine, restartTable, restartSegment]

/-- R38, R58, R94, R137: a slot that a restart leaves, its due record and its draft's state given. -/
def Slot.rested (x : Slot) (due : DueRecord) (st : DraftState) : Slot :=
  let y : Slot := { x.closeAbandoned with due := due, draft := { x.draft with state := st } }
  if x.table = .unlisted then y else { y.absented with game := none }

/-- R94, R137: what a restart makes of a slot's due record and draft state. -/
structure Rests (s t : State) (i : SlotIx) (due : DueRecord) (st : DraftState) : Prop where
  slot : t.slot i = (s.slot i).rested due st
  kept : due.closing = false ∧ due.fault = (s.slot i).due.fault ∧ due.meter = (s.slot i).due.meter
    ∧ due.check = (s.slot i).due.check
  resend : due.resend = true ↔ (s.slot i).due.resend = true
    ∨ ∃ g x b, (s.seg g).exchange = some x ∧ x.slot = i ∧ x.frame = .faultPoll b
  free : st ≠ .delivering
  settled : (s.slot i).draft.state = .delivering → ∀ e, s.entry i = some e →
    st = if e.withdrawal then .edited else .queued

/-- R11, R18, R179: what Restart Hub leaves before it is answered. -/
structure RestartLeaves (p : PortId) (s t : State) : Prop where
  clear : s.segA.inputs.asserted = false → s.segB.inputs.asserted = false →
    t.alerts = s.alerts ∧ t.overrun = s.overrun
      ∧ t.hubFaults = (s.hubFaults.finish (keyNoisy .a)).finish (keyNoisy .b)
  opened : ∀ g kind, (s.seg g).inputs.level kind = true → s.hubFaults.records.length ≤ 6 →
    t.hubFaults.Opened (keyLine g kind)
  store : ({ s.store with groups := s.store.groups.map fun f => { f with abandoned := true } } : Store).Holds t.store
  queue : t.queue = (s.queue.filter fun e => !(e.withdrawal && (s.slot e.slot).draft.state == .delivering)).map
    fun e => { e with withdrawPort := none }
  port : ∀ q, t.port q = (s.port q).restarted (if q = p then some 3 else none)
  seg : ∀ g, t.seg g = { s.seg g with
    haltPending := false, haltWaiters := [], exchange := none, delivery := none, driverOn := false
    garble := 0, noisy := false, collisions := 0, pointer := none, lineSpeed := (s.seg g).params.speed
    state := if (s.seg g).inputs.asserted then .faulted else .starting }
  slot : ∀ i, ∃ due st, Rests s t i due st

theorem restarted_leaves {p : PortId} {s : State} (h : Coherent s) (hlive : s.store.state ≠ .loading) :
    RestartLeaves p s (restarted p s) := by
  set d := restartDropped p s with hd
  obtain ⟨hside, hseg, hqueue, hslot⟩ := restartSegments_facts (restartDropped_coherent h p hlive)
    (restartDropped_unanswered p s) hlive
  rw [← hd] at hside hseg hqueue hslot
  set b := restartSegment .b (restartSegment .a d) with hb
  obtain ⟨hside', hseg', hqueue', hslot'⟩ := restartTables_facts (s := b)
    (fun i => by obtain ⟨st, hst⟩ := hslot i; rw [hst.slot, hd, slot_restartDropped]; rfl)
    (fun g => by rw [hseg])
  set c := b.forSlots b.listedSlots restartTable with hc
  have hrest : restarted p s = relit c := rfl
  have hall : Aside d c := hside.trans hside'
  obtain ⟨hfaults, halerts, hoverrun⟩ := restartDropped_hubFaults p s
  have hcseg (g : SegId) : c.seg g = { s.seg g with
      haltPending := false, haltWaiters := [], exchange := none, delivery := none, driverOn := false } := by
    rw [hseg', hseg, hd, seg_restartDropped]
  have hcfaults : c.hubFaults = s.hubFaults := hall.hubFaults.trans hfaults
  rw [hrest]
  refine ⟨fun ha hb => ?_, fun g kind hl hroom => ?_, ?_, ?_, fun q => ?_, fun g => ?_, fun i => ?_⟩
  · obtain ⟨h1, h2, h3⟩ := relit_clear c (by rw [show c.segA = _ from hcseg .a]; exact ha)
      (by rw [show c.segB = _ from hcseg .b]; exact hb)
    rw [h1, h2, h3, hcfaults, hall.alerts, hall.overrun]
    exact ⟨halerts, hoverrun, rfl⟩
  · exact relit_opened c (by rw [hcfaults]; exact hroom) (by rw [hcseg]; exact hl)
  · rw [relit_store]
    exact hall.store
  · rw [relit_queue, hqueue', hqueue, hd, restartDropped_queue, List.filter_map]
    refine congrArg _ (List.filter_congr fun e _ => ?_)
    simp only [Function.comp_apply, slot_restartDropped]
    rfl
  · rw [relit_port, hall.port, hd, port_restartDropped]
  · rw [seg_relit, hcseg]
  · obtain ⟨st, hst⟩ := hslot i
    have hslots : d.slot i = (s.slot i).closeAbandoned := slot_restartDropped p s i
    obtain ⟨ka, fa, ma, ca, ra⟩ := dueLeft_facts (d.seg .a).exchange i (d.slot i).due
    obtain ⟨kb, fb, mb, cb, rb⟩ := dueLeft_facts (d.seg .b).exchange i (dueLeft (d.seg .a).exchange i (d.slot i).due)
    refine ⟨_, st, ?_, ⟨?_, fb.trans (fa.trans ?_), mb.trans (ma.trans ?_), cb.trans (ca.trans ?_)⟩, ?_, hst.free,
      fun hdel e he => ?_⟩
    · rw [slot_congr (relit_slots c), hslot', hst.slot]
      rw [hslots]
      rfl
    · rw [kb, ka, hslots]
      rfl
    · rw [hslots]; rfl
    · rw [hslots]; rfl
    · rw [hslots]; rfl
    · rw [rb, ra, hslots, hd, seg_restartDropped, seg_restartDropped, or_assoc]
      refine or_congr_right ⟨?_, ?_⟩
      · rintro (⟨x, b, hx⟩ | ⟨x, b, hx⟩)
        · exact ⟨.a, x, b, hx⟩
        · exact ⟨.b, x, b, hx⟩
      · rintro ⟨_ | _, x, b, hx⟩
        · exact .inl ⟨x, b, hx⟩
        · exact .inr ⟨x, b, hx⟩
    · refine hst.settled (by rw [hslots]; exact hdel) { e with withdrawPort := none } ?_
      rw [hd, entry_restartDropped, he]
      rfl

end Sys2Proof.Machine

namespace Sys2Proof.Machine

/-- R184: a port that answers the restart's own request. -/
theorem restarted_answer_facts (x : Port) :
    let y := (x.restarted (some 3)).answer .done []
    y.reservation = none ∧ y.closeAll = none ∧ y.receiver = .hunting ∧ y.plugged = x.plugged ∧ y.request = some 3
      ∧ (x.transmitting = none → y.transmitting = some { kind := 3, status := .done, body := [], own := true }) := by
  cases hx : x.transmitting <;> simp [Port.answer, Port.hand, Port.restarted, hx]

/-- R38, R58, R94: the fields of a slot after a restart. -/
theorem rested_facts (x : Slot) (due : DueRecord) (st : DraftState) (hdue : due.closing = false) :
    let y := x.rested due st
    y.close = .idle ∧ y.book = x.book ∧ y.active = x.active ∧ y.identity = x.identity ∧ y.model = x.model
      ∧ y.localCheck = x.localCheck ∧ y.outcome = x.outcome ∧ y.reg = x.reg ∧ y.question = x.question
      ∧ y.confirmed = x.confirmed ∧ y.due.closing = false ∧ y.draft.values = x.draft.values ∧ y.draft.state = st
      ∧ y.faults = (if x.table = .caution then x.faults.finish keyCaution else x.faults)
      ∧ (x.table ≠ .unlisted → y.table = .absent ∧ y.score = 0 ∧ y.silent = 0 ∧ y.goodProbes = 0
          ∧ y.game = none ∧ y.join = none
          ∧ y.due = { due with probe := Config.timerCeiling, more := false }
          ∧ y.readback = x.readback.map fun _ => { next := 1, held := [] }) := by
  by_cases h : x.table = .unlisted
  · simp [Slot.rested, h, Slot.closeAbandoned, hdue]
  · have hy : x.rested due st = { Slot.absented { x.closeAbandoned with
        due := due, draft := { x.draft with state := st } } with game := none } := if_neg h
    dsimp only
    rw [hy]
    exact ⟨rfl, rfl, rfl, rfl, rfl, rfl, rfl, rfl, rfl, rfl, hdue, rfl, rfl, rfl,
      fun _ => ⟨rfl, rfl, rfl, rfl, rfl, rfl, rfl, rfl⟩⟩

/-- Settles O56, by the restart's stages: what is dropped, the segments, the tables, the lines and the answer. -/
theorem restartHub : Obligations.RestartHub := by
  unfold Obligations.RestartHub
  intro p s htakes hq hcoherent
  dsimp only
  set u := s.modPort p fun y => { y with request := some 3 } with hu
  have hfree : frameRefusal p s = none := by
    simp only [State.takes, Bool.and_eq_true, Option.isNone_iff_eq_none] at htakes
    exact htakes.2
  have hleaves : RestartLeaves p u (restarted p u) :=
    restarted_leaves ((modPort_quiet p _ s).coherent ((coherent_iff s).mp hcoherent))
      (by rw [hu, modPort_store]; exact live_of_frameRefusal hfree)
  obtain ⟨hclear, hopened, hstore, hqueue, hport, hseg, hslot⟩ := hleaves
  have henv : (pumpStore (answer p .done [] (restarted p u))).env = s.env := by
    rw [pumpStore_env, answer_env, restarted_env, hu, modPort_env]
  simp only [State.env, Prod.mk.injEq] at henv
  obtain ⟨hclock, hunset, hwatch, hnode, -⟩ := henv
  obtain ⟨hgroups, hbad, hflying⟩ := pumpStore_holds (answer p .done [] (restarted p u))
  rw [answer_store] at hgroups hbad hflying
  have hustore : u.store = s.store := modPort_store ..
  rw [hustore] at hstore
  have hserve : effect (.restartHub p) s = answer p .done [] (restarted p u) := (takeRequest_taken htakes _).trans (serveRestartHub_restarted p u)
  refine ⟨pumpStore (answer p .done [] (restarted p u)), by rw [exec_eq, hserve], hclock, hunset, fun ha hb => ?_,
    fun g kind hl hroom => ?_, hwatch, hnode, ?_, ?_, fun q => ?_, fun w hw => ?_, ?_, fun q => ?_, fun ht => ?_,
    fun g => ?_, fun i => ?_⟩
  · obtain ⟨h1, h2, h3⟩ := hclear (by simpa [hu] using ha) (by simpa [hu] using hb)
    simp only [pumpStore_alerts, pumpStore_overrun, pumpStore_hubFaults, answer_alerts, answer_overrun,
      answer_hubFaults, h1, h2, h3, keyNoisy_eq]
    simp [hu]
  · obtain ⟨y, hy, hstate⟩ := hopened g kind (by simpa [hu] using hl) (by simpa [hu] using hroom)
    exact ⟨y, by rw [pumpStore_hubFaults, answer_hubFaults, ← keyLine_eq]; exact hy, hstate⟩
  · rw [pumpStore_state, answer_store, hstore.state]
  · rw [hgroups, hstore.groups]
  · rw [hbad, hstore.bad]
    rfl
  · have hall := hstore.trans (hflying (by rw [hstore.inFlight]; simp [hw]))
    exact ⟨hall.inFlight.trans hw, fun q => hall.generation q⟩
  · rw [pumpStore_queue, answer_queue, hqueue]
    simp [hu]
  · rw [port_pumpStore]
    by_cases hqp : q = p
    · subst hqp
      rw [port_answer_same, hport, if_pos rfl]
      obtain ⟨h1, h2, h3, h4, h5, -⟩ := restarted_answer_facts (u.port q)
      exact ⟨h1, h2, h3, h4.trans (by rw [hu, port_modPort_same]), h5⟩
    · rw [port_answer_other _ _ _ hqp, hport, if_neg hqp, hu, port_modPort_other _ _ hqp]
      exact ⟨rfl, rfl, rfl, rfl, rfl⟩
  · rw [port_pumpStore, port_answer_same, hport, if_pos rfl]
    exact (restarted_answer_facts (u.port p)).2.2.2.2.2 (by rw [hu, port_modPort_same]; exact ht)
  · rw [seg_pumpStore, seg_answer, hseg, hu, seg_modPort]
    exact ⟨rfl, rfl, rfl, rfl, rfl, rfl, rfl, rfl, rfl, rfl, rfl⟩
  · obtain ⟨due, st, hrests⟩ := hslot i
    have hus : u.slot i = s.slot i := slot_modPort ..
    have hux (g : SegId) : u.seg g = s.seg g := seg_modPort ..
    obtain ⟨hrested, ⟨hclosing, hfault, hmeter, hcheck⟩, hresend, hfree, hsettled⟩ := hrests
    rw [hus] at hrested hfault hmeter hcheck hresend hsettled
    simp only [hux] at hresend
    rw [slot_pumpStore, slot_answer, hrested]
    obtain ⟨h1, h2, h3, h4, h5, h6, h7, h8, h9, h10, h11, h12, h13, h14, hlisted⟩ :=
      rested_facts (s.slot i) due st hclosing
    refine ⟨h1, h2, h3, h4, h5, h6, h7, h8, h9, h10, h11, h12, by rw [h13]; exact hfree, h14, fun ht => ?_,
      fun hd e he => ?_⟩
    · obtain ⟨k1, k2, k3, k4, k5, k6, k7, k8⟩ := hlisted ht
      rw [k7]
      exact ⟨k1, k2, k3, k4, k5, k6, rfl, rfl, hfault, hmeter, hcheck, hresend, k8⟩
    · rw [h13]
      exact hsettled hd e (by rw [State.entry, hu, modPort_queue]; exact he)

end Sys2Proof.Machine

namespace Sys2Proof.Machine

/-! ## The order of the scheduler (R30 to R34) -/

/-- R4, R30: the exchange that a frame handed over for a slot makes. -/
def State.handed (s : State) (i : SlotIx) (f : HubFrame) (a : Asker) : Exchange :=
  { slot := i, address := (s.slot i).addr, frame := f, asker := a, phase := .waiting, received := [] }

section
variable {g : SegId} {i : SlotIx} {s : State}

/-- R30: a frame other than a Check Query is handed over. -/
theorem sendFrame_eq {f : HubFrame} (a : Asker) (hf : ∀ q, f ≠ .checkQuery q) :
    sendFrame g i f a s = s.setSeg g { s.seg g with exchange := some (s.handed i f a) } := by
  cases f with
  | checkQuery q => exact absurd rfl (hf q)
  | _ => rfl

/-- R30, R121: a Check Query that is handed over advances its slot's question counter. -/
theorem sendFrame_checkQuery (q : BitVec 4) (a : Asker) :
    sendFrame g i (.checkQuery q) a s
      = (s.setSeg g { s.seg g with exchange := some (s.handed i (.checkQuery q) a) }).setSlot i
          { s.slot i with question := (s.slot i).question + 1 } := by
  simp [sendFrame, modSeg_def, modSlot_def, State.handed]

/-- R30: at no opportunity nothing is chosen. -/
theorem choose_idle (h : ¬ (s.seg g).opportunity = true) : choose g s = s := by
  rw [choose, if_pos (by simpa using h)]

/-- R31: the delivery in flight comes first. -/
theorem choose_delivery {d : DeliveryRecord} (h : (s.seg g).opportunity = true) (hd : (s.seg g).delivery = some d) :
    choose g s = sendDelivery g d s := by
  rw [choose, if_neg (by simp [h])]
  simp only [hd]

/-- R31, R32: a closing poll comes next. -/
theorem choose_closing (h : (s.seg g).opportunity = true) (hd : (s.seg g).delivery = none)
    (hc : nextClosing g s = some i) : choose g s = sendFrame g i .meterPoll .collection s := by
  rw [choose, if_neg (by simp [h])]
  simp only [hd, hc]

/-- R31, R123: the next Item Frame of a delivery. -/
theorem sendDelivery_items {d : DeliveryRecord} (h : d.phase = .items) :
    sendDelivery g d s = s.setSeg g { s.seg g with
      exchange := some (s.handed d.slot (.itemFrame d.nextItems) .delivery) } := by
  simp only [sendDelivery, h]
  exact sendFrame_eq _ (by simp)

/-- R31, R124: the Check Query of a delivery. -/
theorem sendDelivery_check {d : DeliveryRecord} (h : d.phase = .check) :
    sendDelivery g d s = (s.setSeg g { s.seg g with
        delivery := some { d with question := some (s.slot d.slot).question }
        exchange := some (s.handed d.slot (.checkQuery (s.slot d.slot).question) .delivery) }).setSlot d.slot
      { s.slot d.slot with question := (s.slot d.slot).question + 1 } := by
  simp only [sendDelivery, h]
  rw [sendFrame_checkQuery, modSeg_def, setSeg_setSeg, seg_setSeg_same, slot_setSeg]
  simp [State.handed]

end

/-! ### The least slot that something holds of -/

/-- In a rising list the first slot found is the least. -/
theorem find_least_iff {l : List SlotIx} (hl : l.Pairwise (· < ·)) (p : SlotIx → Bool) (i : SlotIx) :
    l.find? p = some i ↔ i ∈ l ∧ p i = true ∧ ∀ j ∈ l, p j = true → i ≤ j := by
  induction l with
  | nil => simp
  | cons a l ih =>
    obtain ⟨ha, hl⟩ := List.pairwise_cons.mp hl
    by_cases hp : p a = true
    · rw [List.find?_cons_of_pos hp, Option.some_inj]
      constructor
      · rintro rfl
        exact ⟨List.mem_cons_self, hp, fun j hj _ => (List.mem_cons.mp hj).elim (fun h => h.ge) fun h => (ha j h).le⟩
      · rintro ⟨hi, -, hleast⟩
        refine (List.mem_cons.mp hi).elim Eq.symm fun h => ?_
        exact absurd (hleast a List.mem_cons_self hp) (not_le.mpr (ha i h))
    · rw [List.find?_cons_of_neg hp, ih hl]
      simp only [List.mem_cons, forall_eq_or_imp]
      constructor
      · rintro ⟨hi, hpi, hleast⟩
        exact ⟨.inr hi, hpi, fun h => absurd h hp, hleast⟩
      · rintro ⟨rfl | hi, hpi, -, hleast⟩
        · exact absurd hpi hp
        · exact ⟨hi, hpi, hleast⟩

theorem slotsOf_rising (g : SegId) (s : State) : (s.slotsOf g).Pairwise (· < ·) :=
  (List.pairwise_lt_finRange 16).filter _

/-- R32: the slot of the closing poll is the lowest one marked. -/
theorem nextClosing_eq {g : SegId} {i : SlotIx} {s : State} (hl : (s.slot i).table ≠ .unlisted)
    (hg : (s.slot i).seg = g) (hc : (s.slot i).due.closing = true)
    (hleast : ∀ j : SlotIx, j < i → (s.slot j).table ≠ .unlisted → (s.slot j).seg = g → (s.slot j).due.closing = false) :
    nextClosing g s = some i := by
  refine (find_least_iff (slotsOf_rising g s) _ i).mpr ⟨mem_slotsOf.mpr ⟨hl, hg⟩, hc, fun j hj hcj => ?_⟩
  obtain ⟨hlj, hgj⟩ := mem_slotsOf.mp hj
  by_contra hji
  exact absurd hcj (by simp [hleast j (not_le.mp hji) hlj hgj])

/-! ### The entry picked (R33) -/

/-- R33: an entry comes before another, or is at the same place. -/
def DeliveryEntry.Before (e f : DeliveryEntry) : Prop := toLex (e.priority, e.slot) ≤ toLex (f.priority, f.slot)

theorem before_iff (e f : DeliveryEntry) :
    e.Before f ↔ e.priority < f.priority ∨ (e.priority = f.priority ∧ e.slot ≤ f.slot) := Prod.Lex.toLex_le_toLex

theorem sooner_before (e f : DeliveryEntry) : (sooner e f).Before e ∧ (sooner e f).Before f := by
  have hcases : (f.priority < e.priority ∨ f.priority = e.priority ∧ f.slot < e.slot)
      ↔ toLex (f.priority, f.slot) < toLex (e.priority, e.slot) := by
    rw [Prod.Lex.toLex_lt_toLex]
  unfold sooner
  split
  · next h => exact ⟨(hcases.mp h).le, le_refl _⟩
  · next h => exact ⟨le_refl _, not_lt.mp fun hlt => h (hcases.mpr hlt)⟩

theorem foldl_sooner_before (es : List DeliveryEntry) (e : DeliveryEntry) :
    (es.foldl sooner e).Before e ∧ ∀ f ∈ es, (es.foldl sooner e).Before f := by
  induction es generalizing e with
  | nil => exact ⟨le_refl _, by simp⟩
  | cons a es ih =>
    obtain ⟨hfirst, hrest⟩ := ih (sooner e a)
    obtain ⟨he, ha⟩ := sooner_before e a
    exact ⟨le_trans hfirst he, List.forall_mem_cons.mpr ⟨le_trans hfirst ha, hrest⟩⟩

theorem pickOf_before {es : List DeliveryEntry} {e : DeliveryEntry} (h : pickOf es = some e) : ∀ f ∈ es, e.Before f := by
  cases es with
  | nil => cases h
  | cons a es =>
    obtain rfl := Option.some.inj h
    exact List.forall_mem_cons.mpr (foldl_sooner_before es a)

theorem pickOf_none (es : List DeliveryEntry) : pickOf es = none ↔ es = [] := by
  cases es <;> simp [pickOf]

/-- R33: what makes an entry eligible. -/
theorem eligible_iff (g : SegId) (s : State) (e : DeliveryEntry) : eligible g s e = true ↔
    (s.slot e.slot).seg = g ∧ (s.slot e.slot).draft.state = .queued
      ∧ ((s.slot e.slot).table = .active ∨ (s.slot e.slot).table = .caution) ∧ (s.slot e.slot).game = some .attract := by
  simp [eligible, Slot.inService, Slot.inAttract, and_assoc]

/-! ### The slot visited (R34) -/

/-- R34: with no pointer the lowest slot is visited; else the lowest above the pointer, then the lowest of the others. -/
theorem find_visitOrder {l : List SlotIx} (hl : l.Pairwise (· < ·)) (p : SlotIx → Bool) (pointer : Option SlotIx)
    (i : SlotIx) : (visitOrder pointer l).find? p = some i → (i ∈ l ∧ p i = true) ∧ match pointer with
      | none => ∀ j, j ∈ l ∧ p j = true → i ≤ j
      | some k => (k < i → ∀ j, j ∈ l ∧ p j = true → k < j → i ≤ j)
          ∧ (i ≤ k → ∀ j, j ∈ l ∧ p j = true → j ≤ k ∧ i ≤ j) := by
  intro h
  have hmem : i ∈ l ∧ p i = true := ⟨mem_visitOrder (List.mem_of_find?_eq_some h), List.find?_some h⟩
  refine ⟨hmem, ?_⟩
  cases pointer with
  | none => exact fun j ⟨hj, hpj⟩ => ((find_least_iff hl p i).mp h).2.2 j hj hpj
  | some k =>
    have habove := find_least_iff (hl.filter fun j => decide (k < j)) p
    have hbelow := find_least_iff (hl.filter fun j => decide (j ≤ k)) p
    simp only [List.mem_filter, decide_eq_true_eq] at habove hbelow
    rw [visitOrder, List.find?_append, Option.or_eq_some_iff] at h
    rcases h with h | ⟨hnone, h⟩
    · obtain ⟨⟨-, hki⟩, -, hleast⟩ := (habove i).mp h
      exact ⟨fun _ j ⟨hj, hpj⟩ hkj => hleast j ⟨hj, hkj⟩ hpj, fun hik => absurd hki (not_lt.mpr hik)⟩
    · obtain ⟨⟨-, hik⟩, -, hleast⟩ := (hbelow i).mp h
      refine ⟨fun hki => absurd hki (not_lt.mpr hik), fun _ j ⟨hj, hpj⟩ => ?_⟩
      have hjk : j ≤ k := by
        by_contra hkj
        simp only [List.find?_eq_none, List.mem_filter, decide_eq_true_eq] at hnone
        exact hnone j ⟨hj, not_le.mp hkj⟩ hpj
      exact ⟨hjk, hleast j ⟨hj, hjk⟩ hpj⟩

theorem mem_visitOrder_iff (pointer : Option SlotIx) (l : List SlotIx) (i : SlotIx) :
    i ∈ visitOrder pointer l ↔ i ∈ l := by
  refine ⟨mem_visitOrder, fun h => ?_⟩
  cases pointer with
  | none => exact h
  | some k => simpa [visitOrder, h] using lt_or_ge k i

/-- Settles O60: the branches of the choice; the fold of the pick; the first slot found in the order of the visits. -/
theorem schedulerOrder : Obligations.SchedulerOrder := by
  unfold Obligations.SchedulerOrder
  refine ⟨fun g s => ?_, fun g s => ?_⟩
  · intro y ready sends
    have hopen : y.opportunity = true ↔ ready := opportunity_iff y
    refine ⟨fun h => choose_idle (hopen.not.mpr h), fun d h hd hp => ?_, fun d h hd hp => ?_,
      fun i h hd hl hg hc hleast => ?_⟩
    · exact (choose_delivery (hopen.mpr h) hd).trans (sendDelivery_items hp)
    · exact (choose_delivery (hopen.mpr h) hd).trans (sendDelivery_check hp)
    · exact (choose_closing (hopen.mpr h) hd (nextClosing_eq hl hg hc hleast)).trans (sendFrame_eq _ (by simp))
  · intro fits due
    have hdue (i : SlotIx) : (i ∈ s.slotsOf g ∧ (dueExchange (s.seg g).params (s.slot i)).isSome = true) ↔ due i := by
      rw [mem_slotsOf, and_assoc]
    refine ⟨fun e he => ?_, ?_, fun i hi => ?_, ?_⟩
    · obtain ⟨hmem, helig⟩ := pickEntry_mem he
      exact ⟨hmem, (eligible_iff g s e).mp helig, fun f hf hfits =>
        (before_iff e f).mp (pickOf_before he f (List.mem_filter.mpr ⟨hf, (eligible_iff g s f).mpr hfits⟩))⟩
    · rw [pickEntry, pickOf_none, List.filter_eq_nil_iff]
      exact forall₂_congr fun e _ => (eligible_iff g s e).not
    · have hfound := find_visitOrder (slotsOf_rising g s) _ _ _ hi
      simp only [hdue] at hfound
      exact hfound
    · rw [nextVisit, List.find?_eq_none]
      simp only [mem_visitOrder_iff, ← hdue, not_and]

end Sys2Proof.Machine

namespace Sys2Proof.Machine

/-! ## Set Clock and the tick (R81 to R83) -/

/-- Chapter 11: the four bytes of a 32-bit number, high byte first. -/
theorem be4_toNat (v : BitVec 32) :
    be4 v.toNat = [v.extractLsb' 24 8, v.extractLsb' 16 8, v.extractLsb' 8 8, v.extractLsb' 0 8] := by
  have hbyte (k n : Nat) (h : n % 256 = v.toNat / 2 ^ k % 256) : BitVec.ofNat 8 n = v.extractLsb' k 8 := by
    refine BitVec.eq_of_toNat_eq ?_
    rw [BitVec.toNat_ofNat, BitVec.extractLsb'_toNat, Nat.shiftRight_eq_div_pow]
    exact h
  simp only [be4, be2, List.cons_append, List.nil_append]
  rw [hbyte 24, hbyte 16, hbyte 8, hbyte 0] <;> omega

theorem setClock_modPort (p : PortId) (f : Port → Port) (v : BitVec 32) (s : State) :
    { s.modPort p f with clock := v, clockUnset := false } = { s with clock := v, clockUnset := false }.modPort p f := by
  cases p <;> rfl

/-- R82: Set Clock in the taking. -/
theorem serveSetClock_held (p : PortId) (v : BitVec 32) (s : State) :
    serveSetClock p v (s.modPort p fun x => { x with request := some 2 })
      = answered p 2 .done (be4 v.toNat) { s with clock := v, clockUnset := false } := by
  rw [serveSetClock, setClock_modPort, answer_held]

/-- R37: a second on the timers of a due record. -/
theorem tick_due (x : Slot) : x.tick.due = if x.table = .unlisted then x.due else x.due.tick := by
  by_cases h : x.table = .unlisted <;> simp [Slot.tick, Slot.listed, h]

/-- R37, R83: a second on the timers of a slot. -/
theorem tick_eq (x : Slot) : x.tick = { x with
    due := if x.table = .unlisted then x.due else x.due.tick
    close := x.close.tick } := by
  rw [← tick_due]
  rfl

@[simp] theorem chooseBoth_store (s : State) : (chooseBoth s).store = s.store := by
  rw [chooseBoth, choose_store, choose_store]

/-- Settles O42: Set Clock through its answer in the taking; the tick slot by slot, before the choosers. -/
theorem clockRules : Obligations.ClockRules := by
  unfold Obligations.ClockRules
  refine ⟨fun p v s htakes hq => ?_, fun s hq => ⟨s.slots.map Slot.tick, ?_, fun i => ?_⟩⟩
  · rw [← be4_toNat]
    exact exec_taken htakes rfl (serveSetClock_held p v s) (by rw [answered_store]; exact hq)
  · have hclock : BitVec.ofNat 32 (s.clock.toNat + 1) = s.clock + 1 := by
      refine BitVec.eq_of_toNat_eq ?_
      simp [BitVec.toNat_add]
    rw [hclock]
    exact exec_of_quiet rfl ((congrArg Store.quiet (chooseBoth_store _)).trans hq)
  · rw [Vector.getElem_map]
    refine (tick_eq (s.slot i)).trans ?_
    cases (s.slot i).close <;> rfl

end Sys2Proof.Machine

namespace Sys2Proof.Machine

/-! ## The check word (R125) -/

/-- R125: the weighted sum, item by item. -/
theorem weightedSum_eq (n : Nat) (values : List Nat) :
    weightedSum n values = ((List.range values.length).map fun k => (n + k) * (values.getD k 0 + 1)).sum := by
  induction values generalizing n with
  | nil => rfl
  | cons v vs ih =>
    rw [weightedSum, ih, List.length_cons, List.range_succ_eq_map, List.map_cons, List.sum_cons, List.map_map]
    simp [Function.comp_def, Nat.add_right_comm, Nat.add_assoc]

/-- R125: the weight of an item in the sum. -/
theorem weightedSum_set (n k v : Nat) {values : List Nat} (h : k < values.length) :
    weightedSum n (values.set k v) = weightedSum n (values.set k 0) + (n + k) * v := by
  induction values generalizing n k with
  | nil => cases h
  | cons a as ih =>
    cases k with
    | zero =>
      simp only [List.set_cons_zero, weightedSum]
      ring
    | succ k =>
      simp only [List.set_cons_succ, weightedSum, ih (n + 1) k (Nat.lt_of_succ_lt_succ h)]
      ring

/-- R125: the question shows in the check word. -/
theorem checkWord_question (values : List Nat) {q r : BitVec 4} (h : q ≠ r) : checkWord values q ≠ checkWord values r := by
  have hne : q.toNat ≠ r.toNat := fun e => h (BitVec.eq_of_toNat_eq e)
  have hq := q.isLt
  have hr := r.isLt
  unfold checkWord
  omega

/-! ## The change list (R122) -/

/-- R122: the changes of two images whose first item has a number one above `n`. -/
def changesFrom (n : Nat) (active draft : List Nat) : List (Nat × Nat) :=
  (((List.zip active draft).zipIdx n).filter fun x => x.1.1 != x.1.2).map fun x => (x.2 + 1, x.1.2)

theorem changeList_eq (active draft : List Nat) : changeList active draft = changesFrom 0 active draft := rfl

theorem changesFrom_cons (n a d : Nat) (active draft : List Nat) :
    changesFrom n (a :: active) (d :: draft)
      = (if a = d then [] else [(n + 1, d)]) ++ changesFrom (n + 1) active draft := by
  by_cases h : a = d <;> simp [changesFrom, h]

/-- R122: writing the changes into the first image, from an item on, gives the second. -/
theorem foldl_set_changesFrom (before : List Nat) {active draft : List Nat} (h : active.length = draft.length) :
    (changesFrom before.length active draft).foldl (fun l x => l.set (x.1 - 1) x.2) (before ++ active)
      = before ++ draft := by
  induction active generalizing before draft with
  | nil =>
    rw [List.length_eq_zero_iff.mp h.symm]
    rfl
  | cons a active ih =>
    cases draft with
    | nil => cases h
    | cons d draft =>
      have hnext := ih (before ++ [d]) (Nat.succ.inj h)
      rw [List.length_append, List.append_assoc, List.append_assoc] at hnext
      rw [changesFrom_cons, List.foldl_append]
      by_cases had : a = d
      · rw [if_pos had, List.foldl_nil, had]
        exact hnext
      · rw [if_neg had, List.foldl_cons, List.foldl_nil]
        simpa using hnext

/-- R122: the changes come in rising item number. -/
theorem changesFrom_rising (n : Nat) (active draft : List Nat) :
    (changesFrom n active draft).Pairwise fun x y => x.1 < y.1 := by
  refine List.pairwise_map.mpr (List.Pairwise.filter _ ?_)
  refine (List.pairwise_map (f := fun x : (Nat × Nat) × Nat => x.2) (R := (· < ·))).mp ?_ |>.imp fun h => Nat.succ_lt_succ h
  rw [List.zipIdx_map_snd]
  exact List.pairwise_lt_range'

/-- R122: a change is one: the first image has another value there. -/
theorem changeList_differs {active draft : List Nat} {x : Nat × Nat} (h : x ∈ changeList active draft) :
    active[x.1 - 1]? ≠ some x.2 := by
  obtain ⟨⟨⟨a, d⟩, k⟩, hmem, rfl⟩ := List.mem_map.mp h
  obtain ⟨hzip, hne⟩ := List.mem_filter.mp hmem
  obtain ⟨ha, -⟩ := List.getElem?_zip_eq_some.mp (List.mem_zipIdx_iff_getElem?.mp hzip)
  simpa [ha] using hne

/-! ## The start of a delivery (R122) -/

/-- R122: the record of a delivery that starts. -/
def Slot.startRecord (x : Slot) (i : SlotIx) : DeliveryRecord :=
  let changes := changeList (x.active.getD []) x.draft.values
  { slot := i, changes := changes, acked := 0, phase := if changes.isEmpty then .check else .items, question := none }

/-- R122, R114: a slot whose delivery has started. -/
def Slot.started (x : Slot) : Slot :=
  { x with
    draft := { x.draft with state := .delivering }
    readback := x.readback.map fun _ => { next := 1, held := [] } }

section
variable {g : SegId} {s : State}

theorem startDelivery_eq (i : SlotIx) : startDelivery g i s
    = (s.setSeg g { s.seg g with delivery := some ((s.slot i).startRecord i) }).setSlot i (s.slot i).started := by
  simp [startDelivery, setDraftState, modSlot_def, modSeg_def, setSeg_setSlot, Slot.startRecord, Slot.started,
    Slot.withReadbackReset]

/-- R31, R33: with no delivery in flight and no closing poll due, the delivery picked starts and sends its first frame. -/
theorem choose_pick {e : DeliveryEntry} (h : (s.seg g).opportunity = true) (hd : (s.seg g).delivery = none)
    (hc : nextClosing g s = none) (he : pickEntry g s = some e) :
    choose g s = sendDelivery g ((s.slot e.slot).startRecord e.slot) (startDelivery g e.slot s) := by
  have hstarted : ((startDelivery g e.slot s).seg g).delivery = some ((s.slot e.slot).startRecord e.slot) := by
    rw [startDelivery_eq, seg_setSlot, seg_setSeg_same]
  rw [choose, if_neg (by simp [h])]
  simp only [hd, hc, he, hstarted]

/-- R32: no closing poll is due where no slot of the segment is marked. -/
theorem nextClosing_none (h : ∀ j : SlotIx, (s.slot j).table ≠ .unlisted → (s.slot j).seg = g → (s.slot j).due.closing = false) :
    nextClosing g s = none := by
  refine List.find?_eq_none.mpr fun j hj => ?_
  obtain ⟨hl, hg⟩ := mem_slotsOf.mp hj
  simp [h j hl hg]

/-- R122, R123: a delivery with changes starts with its first Item Frame. -/
theorem sendDelivery_start_items {i : SlotIx} {changes : List (Nat × Nat)}
    (h : changeList ((s.slot i).active.getD []) (s.slot i).draft.values = changes) (hne : changes ≠ []) :
    sendDelivery g ((s.slot i).startRecord i) (startDelivery g i s)
      = (s.setSeg g { s.seg g with
          delivery := some { slot := i, changes := changes, acked := 0, phase := .items, question := none }
          exchange := some (s.handed i (.itemFrame (changes.take 8)) .delivery) }).setSlot i (s.slot i).started := by
  have hrecord : (s.slot i).startRecord i
      = { slot := i, changes := changes, acked := 0, phase := .items, question := none } := by
    simp [Slot.startRecord, h, hne]
  rw [sendDelivery_items (by rw [hrecord]), startDelivery_eq, setSeg_setSlot, setSeg_setSeg, hrecord]
  simp [State.handed, DeliveryRecord.nextItems, Slot.started]

/-- R122, R124: a delivery without changes starts with its Check Query. -/
theorem sendDelivery_start_check {i : SlotIx} (h : changeList ((s.slot i).active.getD []) (s.slot i).draft.values = []) :
    sendDelivery g ((s.slot i).startRecord i) (startDelivery g i s)
      = (s.setSeg g { s.seg g with
          delivery := some
            { slot := i, changes := [], acked := 0, phase := .check, question := some (s.slot i).question }
          exchange := some (s.handed i (.checkQuery (s.slot i).question) .delivery) }).setSlot i
          { (s.slot i).started with question := (s.slot i).question + 1 } := by
  have hrecord : (s.slot i).startRecord i
      = { slot := i, changes := [], acked := 0, phase := .check, question := none } := by
    simp [Slot.startRecord, h]
  rw [sendDelivery_check (by rw [hrecord]), startDelivery_eq, setSeg_setSlot, setSeg_setSeg, hrecord]
  simp [State.handed, Slot.started]

end

/-! ## Item Acks (R123, R131) -/

/-- R123: the delivery record after a usable Item Ack of count `n` for a frame of `k` items. -/
def DeliveryRecord.afterAck (d : DeliveryRecord) (k n : Nat) : DeliveryRecord :=
  if n = k then
    { d with acked := d.acked + 1, phase := if d.changes.length ≤ 8 * (d.acked + 1) then .check else .items }
  else { d with phase := .check }

theorem afterAck_slot (d : DeliveryRecord) (k n : Nat) : (d.afterAck k n).slot = d.slot := by
  unfold DeliveryRecord.afterAck
  split <;> rfl

section
variable {g : SegId} {s : State}

/-- R123: a usable Item Ack moves the delivery record, and an item taken marks the slot for a check. -/
theorem takeItemAck_eq {i : SlotIx} {d : DeliveryRecord} (k n : Nat) (gs : GameState)
    (hd : (s.seg g).delivery = some d) :
    takeItemAck g i k n gs s
      = (let t := (s.setSeg g { s.seg g with delivery := some (d.afterAck k n) }).setSlot i
          { s.slot i with localCheck := (s.slot i).localCheck || decide (1 ≤ n) }
         if gs = .attract then t else suspendDelivery g t) := by
  have hmark : (if 1 ≤ n then s.modSlot i fun x => { x with localCheck := true } else s)
      = s.setSlot i { s.slot i with localCheck := (s.slot i).localCheck || decide (1 ≤ n) } := by
    by_cases hn : 1 ≤ n
    · simp [hn, modSlot_def]
    · rw [if_neg hn, decide_eq_false hn, Bool.or_false]
      exact (setSlot_slot s i).symm
  rw [takeItemAck, hmark]
  simp [modSeg_def, setSeg_setSlot, hd, DeliveryRecord.afterAck]

/-- R130: without a withdrawal mark a suspended delivery returns to the queue. -/
theorem suspendDelivery_unmarked {d : DeliveryRecord} {e : DeliveryEntry} (hd : (s.seg g).delivery = some d)
    (he : s.entry d.slot = some e) (hw : e.withdrawal = false) :
    suspendDelivery g s = (s.setSeg g { s.seg g with delivery := none }).setSlot d.slot
      { s.slot d.slot with draft := { (s.slot d.slot).draft with state := .queued } } := by
  rw [suspendDelivery_some hd, returnToQueue_eq, returned_entry, he]
  simp [hw, returned, setDraftState, modSlot_def, modSeg_def, setSeg_setSlot]

/-- R9, R30: after a Good answer of an Active table the asking block leaves a state on, and the scheduler chooses. -/
theorem exec_answer_taken {v : State} {x : Exchange} {gs : GameState} {rest : List Byte}
    (hq : v.store.quiet = true) (hx : (s.seg g).exchange = some x) (ht : (s.slot x.slot).table = .active)
    (hscore : (s.slot x.slot).score < 64) (hp : x.phase = .window) (hr : x.received = []) (hrest : rest.length ≤ 318)
    (hv : askerTakes g x (.good gs rest) ((cleared g s).setSlot x.slot ((s.slot x.slot).answeredGood gs)) = v)
    (hpending : (v.seg g).haltPending = false) (hnoisy : (v.seg g).noisy = false) :
    exec (.answerComplete g gs .accepted rest) s
      = .next (choose g (v.setSeg g { v.seg g with garble := (v.seg g).garble - 1 })) := by
  refine exec_of_quiet ((answerComplete_window hx hp hr hrest).trans ((endExchange_of_handOn hx
    ((handOn_good gs rest ht hscore).trans (by rw [hv, garbleFall_clear hnoisy]))).trans ?_)) ?_
  · rw [seg_setSeg_same, if_neg (by simp [hpending])]
  · rw [choose_store, setSeg_store]
    exact hq

end

theorem askerTakes_itemAck {g : SegId} {s : State} {x : Exchange} {items : List (Nat × Nat)} {n : Byte} (gs : GameState)
    (hf : x.frame = .itemFrame items) (hn : n.toNat ≤ items.length) :
    askerTakes g x (.good gs [n]) s = takeItemAck g x.slot items.length n.toNat gs s := by
  simp [askerTakes, hf, takeItemFrame, ExOutcome.usable, ExOutcome.bodyOf, ExOutcome.gameState, parseItemAck, byteAt, hn]

/-- Settles O59: the sum by its items and the list by its first item; the start and the Item Acks by what they make of
the segment and the slot. -/
theorem checkWordAndChangeList : Obligations.CheckWordAndChangeList := by
  unfold Obligations.CheckWordAndChangeList
  refine ⟨fun values q q' h => checkWord_question values h, fun values q => ?_, fun values k v q h => ?_,
    fun active draft h => ⟨foldl_set_changesFrom [] h, changesFrom_rising 0 active draft, fun x => changeList_differs⟩,
    ?_, ?_⟩
  · rw [checkWord, weightedSum_eq]
    simp only [Nat.add_comm 1]
  · rw [checkWord, checkWord, weightedSum_set 1 k v h, Nat.add_comm 1 k]
    omega
  · intro g s e active hq hstate hidle hdelivery hpending hclosing hpick hactive i y changes started sends after
    set u : State := { s.setSeg g { s.seg g with state := .running } with
      hubFaults := s.hubFaults.finish { cls := 131, code := 2, subject := some (segByte g) } } with hu
    have hseg : u.seg g = { s.seg g with state := .running } := seg_setSeg_same s g _
    have hslot (j : SlotIx) : u.slot j = s.slot j := slot_setSeg s g _ j
    have hupick : pickEntry g u = some e := by
      rw [← hpick]
      cases g <;> rfl
    have hchosen : choose g u = sendDelivery g ((s.slot i).startRecord i) (startDelivery g i u) := by
      rw [choose_pick ((opportunity_iff _).mpr (by simp [hseg, hidle, hpending])) (by rw [hseg]; exact hdelivery)
        (nextClosing_none fun j => by rw [hslot]; exact hclosing j) hupick, hslot]
    have hafter (z : Segment) (v : Slot) : (u.setSeg g z).setSlot i v = after z v := by
      cases g <;> rfl
    have hquiet : (choose g u).store.quiet = true := by
      rw [choose_store]
      exact (congrArg Store.quiet (setSeg_store s g _)).trans hq
    have hexec : exec (.startIdleElapsed g) s = .next (choose g u) :=
      exec_of_quiet (startIdleElapsed_starting hstate) hquiet
    have hchanges : changeList ((u.slot i).active.getD []) (u.slot i).draft.values = changes := by
      rw [hslot, hactive]
      rfl
    refine ⟨fun hne => hexec.trans (congrArg _ ?_), fun hnil => hexec.trans (congrArg _ ?_)⟩
    · rw [hchosen, ← hslot, sendDelivery_start_items hchanges hne, hafter, hslot, hseg]
      simp only [State.handed, hslot]
      rfl
    · rw [hchosen, ← hslot, sendDelivery_start_check (hchanges.trans hnil), hafter, hslot, hseg]
      simp only [State.handed, hslot]
      rfl
  · intro g s x d e items gs n hq hx hpending hnoisy hd hdslot hp hr hf hn he hw ht hscore y z w
    set u : State := (cleared g s).setSlot x.slot (y.answeredGood gs) with hu
    have huseg : u.seg g = { s.seg g with exchange := none, driverOn := false } := by
      rw [hu, seg_setSlot, cleared_eq, seg_setSeg_same]
    have htakes := (askerTakes_itemAck (s := u) gs hf hn).trans
      (takeItemAck_eq items.length n.toNat gs (by rw [huseg]; exact hd))
    set v : State := (u.setSeg g { u.seg g with delivery := some (d.afterAck items.length n.toNat) }).setSlot x.slot
      { u.slot x.slot with localCheck := (u.slot x.slot).localCheck || decide (1 ≤ n.toNat) } with hv
    have hveq : v = (s.setSeg g { s.seg g with
        exchange := none, driverOn := false, delivery := some (d.afterAck items.length n.toNat) }).setSlot x.slot w := by
      rw [hv, huseg, hu, cleared_eq]
      simp only [setSeg_setSlot, setSeg_setSeg, setSlot_setSlot, slot_setSlot_same]
      rfl
    have hack (hgs : gs = .attract) : exec (.answerComplete g gs .accepted [n]) s
        = .next (choose g ((s.setSeg g { z with delivery := some (d.afterAck items.length n.toNat) }).setSlot x.slot w)) := by
      rw [if_pos hgs, hveq] at htakes
      rw [exec_answer_taken (by simpa using hq) hx ht hscore hp hr (by simp) htakes (by simpa using hpending)
        (by simpa using hnoisy), seg_setSlot, seg_setSeg_same, setSeg_setSlot, setSeg_setSeg]
    refine ⟨fun hgs hall hlast => ?_, fun hgs hall hmore => ?_, fun hgs hshort => ?_, fun hgs => ?_⟩
    · rw [hack hgs, DeliveryRecord.afterAck, if_pos hall, if_pos hlast]
    · rw [hack hgs, DeliveryRecord.afterAck, if_pos hall, if_neg (by omega)]
    · rw [hack hgs, DeliveryRecord.afterAck, if_neg (by omega)]
    · have hback := suspendDelivery_unmarked (g := g) (s := v) (d := d.afterAck items.length n.toNat) (e := e)
        (by simp [hveq]) (by rw [afterAck_slot, hdslot, hveq]; simpa [State.entry] using he) hw
      rw [afterAck_slot, hdslot, hveq, seg_setSlot, seg_setSeg_same, setSeg_setSlot, setSeg_setSeg, setSlot_setSlot,
        slot_setSlot_same] at hback
      rw [if_neg hgs, hveq, hback] at htakes
      rw [exec_answer_taken (by simpa using hq) hx ht hscore hp hr (by simp) htakes (by simpa using hpending)
        (by simpa using hnoisy), seg_setSlot, seg_setSeg_same, setSeg_setSlot, setSeg_setSeg]

end Sys2Proof.Machine

namespace Sys2Proof.Machine

/-! ## What the end of an exchange leaves of a slot after the asking block (R9, R15, R30) -/

/-- A slot but for its draft, its readback and its question counter, which the start and the suspension of a delivery
and a frame handed over may change. -/
def Slot.Drafted (x y : Slot) : Prop := ∃ d r q, y = { x with draft := d, readback := r, question := q }

theorem Slot.Drafted.refl (x : Slot) : x.Drafted x := ⟨x.draft, x.readback, x.question, rfl⟩

theorem Slot.Drafted.trans {x y z : Slot} (h : x.Drafted y) (k : y.Drafted z) : x.Drafted z := by
  obtain ⟨d, r, q, rfl⟩ := h
  obtain ⟨d', r', q', rfl⟩ := k
  exact ⟨d', r', q', rfl⟩

theorem Slot.Questioned.drafted {x y : Slot} (h : x.Questioned y) : x.Drafted y := by
  obtain ⟨q, rfl⟩ := h
  exact ⟨x.draft, x.readback, q, rfl⟩

theorem Slot.Drafted.due {x y : Slot} (h : x.Drafted y) : y.due = x.due := by
  obtain ⟨d, r, q, rfl⟩ := h
  rfl

theorem Slot.Drafted.faults {x y : Slot} (h : x.Drafted y) : y.faults = x.faults := by
  obtain ⟨d, r, q, rfl⟩ := h
  rfl

section
variable (g : SegId) (s : State) (j : SlotIx)

theorem slot_startDelivery (i : SlotIx) : (s.slot j).Drafted ((startDelivery g i s).slot j) := by
  by_cases h : j = i
  · subst h
    rw [startDelivery_eq, slot_setSlot_same]
    exact ⟨_, _, _, rfl⟩
  · rw [slot_startDelivery_other g s h]
    exact .refl _

theorem slot_routineVisit : (s.slot j).Drafted ((routineVisit g s).slot j) := by
  unfold routineVisit
  split
  · exact .refl _
  · next i _ =>
    split
    · exact .refl _
    · next f a _ =>
      have h := (slot_sendFrame g i j f a (s.modSeg g fun y => { y with pointer := some i })).drafted
      rwa [slot_modSeg] at h

/-- R30: what the scheduler's choice may change of a slot. -/
theorem slot_choose : (s.slot j).Drafted ((choose g s).slot j) := by
  unfold choose
  split
  · exact .refl _
  · split
    · next d _ => exact ((sendDelivery_facts g d s).1 j).drafted
    · split
      · exact (slot_sendFrame g _ j _ _ s).drafted
      · split
        · next e _ =>
          dsimp only
          split
          · next d _ => exact (slot_startDelivery g s j e.slot).trans ((sendDelivery_facts g d _).1 j).drafted
          · exact slot_startDelivery g s j e.slot
        · exact slot_routineVisit g s j

/-- R15, R130: what a halt may change of a slot. -/
theorem slot_haltNow : (s.slot j).Drafted ((haltNow g s).slot j) := by
  unfold haltNow
  dsimp only
  rw [slot_congr (answerAll_facts _ _).1, slot_suspendDelivery, slot_modSeg]
  exact ⟨_, _, _, rfl⟩

theorem slot_garbleFall : (garbleFall g s).slot j = s.slot j := by
  unfold garbleFall
  dsimp only
  split
  · rw [endCondition_zero]
    exact (slot_modSeg ..).trans (slot_modSeg ..)
  · exact slot_modSeg ..

end

/-- R8, R45: a Good answer of an Active table: what follows the asking block leaves every slot but for its draft, its
readback and its question counter. -/
theorem exec_answer_drafted {g : SegId} {s v : State} {x : Exchange} {gs : GameState} {rest : List Byte}
    (hx : (s.seg g).exchange = some x) (ht : (s.slot x.slot).table = .active) (hscore : (s.slot x.slot).score < 64)
    (hp : x.phase = .window) (hr : x.received = []) (hrest : rest.length ≤ 318)
    (hv : askerTakes g x (.good gs rest) ((cleared g s).setSlot x.slot ((s.slot x.slot).answeredGood gs)) = v) :
    ∃ t, exec (.answerComplete g gs .accepted rest) s = .next t ∧ ∀ j, (v.slot j).Drafted (t.slot j) := by
  refine ⟨_, exec_eq _ s, fun j => ?_⟩
  have hend : effect (.answerComplete g gs .accepted rest) s
      = if ((garbleFall g v).seg g).haltPending then haltNow g (garbleFall g v) else choose g (garbleFall g v) :=
    (answerComplete_window hx hp hr hrest).trans
      (endExchange_of_handOn hx ((handOn_good gs rest ht hscore).trans (by rw [hv])))
  rw [slot_pumpStore, hend, ← slot_garbleFall g v j]
  split
  · exact slot_haltNow g _ j
  · exact slot_choose g _ j

/-! ## Fault Reports (R25, R26, R154) -/

/-- R154: a roster after a change entry of a Fault Report: only a table class is recorded. -/
def FaultRoster.afterChange (r : FaultRoster) (c : FaultChange) (now : Stamp) : FaultRoster :=
  if 128 ≤ c.key.cls.toNat then r
  else if c.raised then (r.enter c.key .table .condition now).1
  else r.finish c.key

theorem slot_takeFaultChange (i : SlotIx) (c : FaultChange) (s : State) :
    (takeFaultChange i c s).slot i = { s.slot i with faults := (s.slot i).faults.afterChange c s.now } := by
  unfold takeFaultChange FaultRoster.afterChange
  split
  · rfl
  · split
    · have hroster := roster_enterFault (rosterOfSlot i) c.key .table .condition s
      rw [roster_rosterOfSlot, roster_rosterOfSlot] at hroster
      rw [slot_enterFault, hroster]
    · have hroster := roster_putRoster (rosterOfSlot i) ((s.roster (rosterOfSlot i)).finish c.key) s
      rw [roster_rosterOfSlot, roster_rosterOfSlot] at hroster
      rw [roster_rosterOfSlot, slot_putRoster, hroster]

section
variable {r : FaultRoster} {k : FaultKey} {origin : Origin} {kind : EntryKind} {now : Stamp}

/-- R154 to R156: an entry whose key has no record, room given. -/
theorem find_enter_first (h : r.find k = none) (hroom : r.records.length < Config.rosterCapacity) :
    (r.enter k origin kind now).1.find k = some (.first k origin kind now) := by
  have hfirst : (FaultRecord.first k origin kind now).key = k := rfl
  simp only [FaultRoster.enter, h, hroom, if_true, FaultRoster.add]
  rw [FaultRoster.find, List.find?_append, show r.records.find? (fun x => x.key == k) = none from h]
  simp [hfirst]

/-- R154 to R156: an entry whose key has a record. -/
theorem find_enter_held {x : FaultRecord} (h : r.find k = some x) :
    (r.enter k origin kind now).1.find k = some (x.again kind now) := by
  have hkey : (fun y : FaultRecord => y.key == k) ∘ (fun y => if y.key == k then y.again kind now else y)
      = fun y => y.key == k := by
    funext y
    by_cases hy : y.key = k <;> simp [hy, FaultRecord.again]
  simp only [FaultRoster.enter, h]
  rw [FaultRoster.find, List.find?_map, hkey, show r.records.find? (fun y => y.key == k) = some x from h]
  simp [find_key h]

end

/-- R25, R26, R37, R154: a usable Fault Report of one change, from an Active table. -/
theorem exec_faultReport {g : SegId} {s : State} {x : Exchange} {gs : GameState} {rest : List Byte} {more b : Bool}
    {c : FaultChange} (hx : (s.seg g).exchange = some x) (hp : x.phase = .window) (hr : x.received = [])
    (hrest : rest.length ≤ 318) (hf : x.frame = .faultPoll b) (ht : (s.slot x.slot).table = .active)
    (hscore : (s.slot x.slot).score < 64) (hparse : parseFaultReport rest = some { more := more, changes := [c] }) :
    ∃ t, exec (.answerComplete g gs .accepted rest) s = .next t
      ∧ (t.slot x.slot).due = { (s.slot x.slot).due with fault := 0, resend := false, more := more }
      ∧ (t.slot x.slot).faults = (s.slot x.slot).faults.afterChange c s.now := by
  set u : State := (cleared g s).setSlot x.slot ((s.slot x.slot).answeredGood gs) with hu
  have htakes : askerTakes g x (.good gs rest) u = takeFaultReport x.slot { more := more, changes := [c] } u := by
    simp [askerTakes, hf, ExOutcome.usable, ExOutcome.bodyOf, hparse]
  obtain ⟨t, hexec, hslot⟩ := exec_answer_drafted hx ht hscore hp hr hrest htakes
  have hnow : u.now = s.now := by rw [hu, now_setSlot, cleared_eq, now_setSeg]
  have hleft : (takeFaultReport x.slot { more := more, changes := [c] } u).slot x.slot
      = { (s.slot x.slot).answeredGood gs with
          faults := (s.slot x.slot).faults.afterChange c s.now
          due := { (s.slot x.slot).due with fault := 0, resend := false, more := more } } := by
    simp only [takeFaultReport, List.foldl_cons, List.foldl_nil, slot_modSlot_same, slot_takeFaultChange, hnow]
    rw [hu, slot_setSlot_same]
    rfl
  have h := hslot x.slot
  rw [hleft] at h
  exact ⟨t, hexec, h.due, h.faults⟩

/-- Settles O28: the slot after the report, and what its one change makes of the roster. -/
theorem faultReportEnters : Obligations.FaultReportEnters := by
  unfold Obligations.FaultReportEnters
  refine ⟨fun g s x gs rest more k b hx hp hr hrest hf ht hscore hparse => ?_,
    fun g s x gs rest more k b hx hp hr hrest hf ht hscore hparse => ?_⟩
  · obtain ⟨t, hexec, hdue, hfaults⟩ := exec_faultReport (gs := gs) hx hp hr hrest hf ht hscore hparse
    refine ⟨t, hexec, by rw [hdue], by rw [hdue], by rw [hdue], fun hcls hroom => ?_, fun hcls => ?_⟩
    · rw [FaultRoster.afterChange, if_neg (by simpa using hcls), if_pos rfl] at hfaults
      rw [hfaults]
      cases hfind : (s.slot x.slot).faults.find k with
      | none =>
        refine ⟨_, find_enter_first hfind (hroom.resolve_left (by simp [hfind])), rfl, rfl, rfl,
          fun _ => ⟨rfl, rfl, rfl⟩, by simp⟩
      | some z =>
        refine ⟨_, find_enter_held hfind, rfl, rfl, rfl, by simp, fun y hy => ?_⟩
        obtain rfl := Option.some.inj hy
        exact ⟨Nat.min_comm _ _, rfl, rfl⟩
    · rw [hfaults, FaultRoster.afterChange, if_pos hcls]
  · obtain ⟨t, hexec, hdue, hfaults⟩ := exec_faultReport (gs := gs) hx hp hr hrest hf ht hscore hparse
    refine ⟨t, hexec, by rw [hdue], by rw [hdue], ?_⟩
    rw [hfaults, FaultRoster.afterChange]
    by_cases hcls : 128 ≤ k.cls.toNat
    · rw [if_pos hcls]
      simp [Nat.not_lt.mpr hcls]
    · rw [if_neg hcls, if_neg (by simp)]
      simp [FaultRoster.finish, Nat.not_le.mp hcls]

end Sys2Proof.Machine

namespace Sys2Proof.Machine

/-! ## Pages asked for within a command (R169, R170) -/

section
variable {t : Store} {p : PageIx} {c : List Byte}

theorem lowestDeferred_none (t : Store) : t.lowestDeferred = none ↔ ∀ q, (t.page q).deferred = false := by
  have hmem (q : PageIx) : (q, t.page q) ∈ List.zip allPages t.pages.toList := by
    refine List.mem_iff_getElem.mpr ⟨q.val, by simp [allPages], ?_⟩
    simp [allPages, Store.page]
  unfold Store.lowestDeferred
  rw [Option.map_eq_none_iff, List.find?_eq_none]
  constructor
  · intro h q
    simpa using h _ (hmem q)
  · rintro h ⟨q, m⟩ hx
    obtain ⟨k, hk, hget⟩ := List.mem_iff_getElem.mp hx
    have hpage : t.page q = m := by
      simp only [List.getElem_zip, allPages, List.getElem_finRange, Prod.mk.injEq] at hget
      obtain ⟨rfl, rfl⟩ := hget
      simp [Store.page]
    simp [← hpage, h q]

/-- R169: what asking for a page leaves of the store, whether the page waits already, takes a place or is deferred. -/
theorem askWrite_leaves (t : Store) (p : PageIx) (c : List Byte) :
    (t.askWrite p c).formatted = t.formatted ∧ (t.askWrite p c).nodeMismatch = t.nodeMismatch
      ∧ (t.askWrite p c).load = t.load ∧ (∀ q, q ≠ p → (t.askWrite p c).page q = t.page q)
      ∧ t.waiting.map WriteEntry.page <+: (t.askWrite p c).waiting.map WriteEntry.page
      ∧ (t.askWrite p c).waiting.length ≤ t.waiting.length + 1 := by
  have hwait (f : WriteEntry → WriteEntry) (hf : ∀ e, (f e).page = e.page) :
      (t.waiting.map f).map WriteEntry.page = t.waiting.map WriteEntry.page := by
    rw [List.map_map]
    exact List.map_congr_left fun e _ => hf e
  unfold Store.askWrite
  split
  · exact ⟨rfl, rfl, rfl, fun _ _ => rfl, List.prefix_rfl, Nat.le_succ _⟩
  · split
    · refine ⟨rfl, rfl, rfl, fun _ _ => rfl, ?_, by simp⟩
      rw [hwait _ fun e => by split <;> rfl]
    · split
      · exact ⟨rfl, rfl, rfl, fun _ _ => rfl, by simp, by simp⟩
      · exact ⟨rfl, rfl, rfl, fun q hq => page_modPage_other t _ hq, List.prefix_rfl, Nat.le_succ _⟩

/-- R169: an entry that waits after a page was asked for is of that page, with the content asked for, or waited. -/
theorem mem_askWrite (hw : t.writing = true) {e : WriteEntry} (h : e ∈ (t.askWrite p c).waiting) :
    (e.page = p ∧ e.snapshot = c) ∨ (e.page ≠ p ∧ e ∈ t.waiting) := by
  rw [Store.askWrite, if_neg (by simp [hw])] at h
  split at h
  · obtain ⟨a, ha, rfl⟩ := List.mem_map.mp h
    by_cases hp : a.page = p
    · exact .inl (by simp [hp])
    · exact .inr (by simp [hp, ha])
  · next hany =>
    have hother (ha : e ∈ t.waiting) : e.page ≠ p := fun hp => hany (List.any_eq_true.mpr ⟨e, ha, by simp [hp]⟩)
    split at h
    · rcases List.mem_append.mp h with ha | ha
      · exact .inr ⟨hother ha, ha⟩
      · obtain rfl := List.mem_singleton.mp ha
        exact .inl ⟨rfl, rfl⟩
    · exact .inr ⟨hother h, h⟩

/-- R169: the entries of other pages stay, in their order. -/
theorem askWrite_waitingBut {ps : List PageIx} (hp : p ∈ ps) : (t.askWrite p c).waitingBut ps = t.waitingBut ps := by
  unfold Store.askWrite Store.waitingBut
  split
  · rfl
  · split
    · rw [List.filter_map, List.filter_congr (q := fun e => !ps.contains e.page)
        (fun e _ => by simp only [Function.comp_apply]; split <;> rfl)]
      refine (List.map_congr_left fun e he => ?_).trans (List.map_id _)
      have hne : e.page ≠ p := fun h => by simpa [h, hp] using (List.mem_filter.mp he).2
      rw [if_neg (by simpa using hne), id]
    · split
      · simp [hp]
      · rfl

/-- R169: a page is deferred anew only with the queue full. -/
theorem askWrite_deferred (t : Store) (p : PageIx) (c : List Byte) :
    (∀ q, ((t.askWrite p c).page q).deferred = (t.page q).deferred) ∨ Config.writeCapacity ≤ t.waiting.length := by
  unfold Store.askWrite
  split
  · exact .inl fun _ => rfl
  · split
    · exact .inl fun _ => rfl
    · split
      · exact .inl fun _ => rfl
      · next h => exact .inr (not_lt.mp h)

end

/-- R169: between two stores the writes of some pages were asked for, one after the other, with the contents given, and
the Store Controller has not worked yet. -/
structure Store.Asked (before after : Store) (c : PageIx → List Byte) (ps : List PageIx) : Prop
    extends before.Holds after where
  formatted : after.formatted = before.formatted
  nodeMismatch : after.nodeMismatch = before.nodeMismatch
  load : after.load = before.load
  still : before.writing = false ∨ ps = [] → after = before
  other : ∀ p, p ∉ ps → after.page p = before.page p
  others : after.waitingBut ps = before.waitingBut ps
  order : before.waiting.map WriteEntry.page <+: after.waiting.map WriteEntry.page
  content : before.writing = true → ∀ e ∈ after.waiting, e.page ∈ ps → e.snapshot = c e.page
  bound : before.writing = true → ∀ p ∈ ps, after.bound p (c p) = true
  length : after.waiting.length ≤ before.waiting.length + ps.length
  deferred : (∀ p, (after.page p).deferred = (before.page p).deferred)
    ∨ (Config.writeCapacity ≤ after.waiting.length ∧ Config.writeCapacity < before.waiting.length + ps.length)

section
variable {t u : Store} {c d : PageIx → List Byte} {ps : List PageIx}

theorem Store.Asked.refl (t : Store) (c : PageIx → List Byte) : t.Asked t c [] where
  toHolds := .refl t
  formatted := rfl
  nodeMismatch := rfl
  load := rfl
  still _ := rfl
  other _ _ := rfl
  others := rfl
  order := List.prefix_rfl
  content _ _ _ h := nomatch h
  bound _ _ h := nomatch h
  length := le_rfl
  deferred := .inl fun _ => rfl

/-- R169: one more page is asked for; the contents of the other pages asked for stay. -/
theorem Store.Asked.ask (h : t.Asked u c ps) (p : PageIx) (hd : ∀ q ∈ ps, q ≠ p → d q = c q) :
    t.Asked (u.askWrite p (d p)) d (p :: ps) := by
  obtain ⟨hformatted, hmismatch, hload, hother, horder, hlength⟩ := askWrite_leaves u p (d p)
  have hwriting : u.writing = t.writing := h.toHolds.writing
  have hlong : u.waiting.length ≤ (u.askWrite p (d p)).waiting.length := by
    simpa using horder.length_le
  refine ⟨h.toHolds.trans (askWrite_holds ..), hformatted.trans h.formatted, hmismatch.trans h.nodeMismatch,
    hload.trans h.load, ?_, fun q hq => ?_, ?_, h.order.trans horder, fun hw e he hp => ?_, fun hw q hq => ?_, ?_, ?_⟩
  · rintro (hw | hnil)
    · rw [Store.askWrite, if_pos (by simp [hwriting, hw]), h.still (.inl hw)]
    · cases hnil
  · obtain ⟨hqp, hqps⟩ := not_or.mp (List.mem_cons.not.mp hq)
    rw [hother q hqp, h.other q hqps]
  · have hbut (v : Store) : v.waitingBut (p :: ps) = (v.waitingBut ps).filter fun e => e.page ≠ p := by
      simp [Store.waitingBut, List.filter_filter]
    rw [askWrite_waitingBut List.mem_cons_self, hbut, hbut, h.others]
  · rcases mem_askWrite (hwriting.trans hw) he with ⟨rfl, hs⟩ | ⟨hne, hu⟩
    · exact hs
    · have hmem := (List.mem_cons.mp hp).resolve_left hne
      rw [hd _ hmem hne]
      exact h.content hw e hu hmem
  · by_cases hqp : q = p
    · rw [hqp]
      exact askWrite_bound (hwriting.trans hw)
    · have hmem := (List.mem_cons.mp hq).resolve_left hqp
      rw [hd q hmem hqp]
      exact askWrite_bound_other _ hqp (h.bound hw q hmem)
  · have := h.length
    rw [List.length_cons]
    omega
  · have := h.length
    rw [List.length_cons]
    rcases h.deferred with hsame | ⟨hfull, hmany⟩
    · rcases askWrite_deferred u p (d p) with hnow | hfull
      · exact .inl fun q => (hnow q).trans (hsame q)
      · exact .inr ⟨hfull.trans hlong, by omega⟩
    · exact .inr ⟨hfull.trans hlong, by omega⟩

/-- The contents matter of the pages asked for alone. -/
theorem Store.Asked.congr (h : t.Asked u c ps) (hd : ∀ q ∈ ps, d q = c q) : t.Asked u d ps :=
  { h with
    content := fun hw e he hp => (h.content hw e he hp).trans (hd _ hp).symm
    bound := fun hw p hp => by rw [hd p hp]; exact h.bound hw p hp }

/-- R169, R170: with no write in flight a quiet store has no page waiting and none deferred. -/
theorem idle_of_quiet (h : t.quiet = true) (hw : t.writing = true) (hi : t.inFlight = none) :
    t.waiting = [] ∧ ∀ p, (t.page p).deferred = false := by
  simp only [Store.quiet, hw, hi, Bool.not_true, Bool.false_or, Option.isSome_none, Bool.and_eq_true, Bool.or_eq_true,
    decide_eq_true_eq, List.isEmpty_iff, Option.isNone_iff_eq_none, lowestDeferred_none] at h
  obtain ⟨hwaiting, hfull | hdeferred⟩ := h
  · simp [hwaiting] at hfull
  · exact ⟨hwaiting, hdeferred⟩

/-- R169, R170: what the Store Controller has to do after pages were asked for of a quiet store: nothing, or nothing but
to issue a write. -/
theorem Store.Asked.settled (h : t.Asked u c ps) (hq : t.quiet = true) (hps : ps.length ≤ Config.writeCapacity) :
    u.quiet = true ∨ ∀ p, (u.page p).deferred = false := by
  by_cases hw : t.writing = true
  · cases hi : t.inFlight with
    | none =>
      obtain ⟨hwaiting, hnone⟩ := idle_of_quiet hq hw hi
      rcases h.deferred with hsame | ⟨-, hmany⟩
      · exact .inr fun p => (hsame p).trans (hnone p)
      · simp only [hwaiting, List.length_nil, Nat.zero_add] at hmany
        exact absurd hps (not_le.mpr hmany)
    | some w =>
      left
      have hlong : t.waiting.length ≤ u.waiting.length := by simpa using h.order.length_le
      have hflying : u.inFlight.isSome = true := by rw [h.inFlight, hi]; rfl
      simp only [Store.quiet, hw, hi, Bool.not_true, Bool.false_or, Option.isSome_some, Bool.true_or, Bool.true_and,
        Bool.or_eq_true, decide_eq_true_eq, Option.isNone_iff_eq_none, lowestDeferred_none] at hq
      simp only [Store.quiet, hflying, Bool.true_or, Bool.true_and, Bool.or_eq_true, decide_eq_true_eq,
        Option.isNone_iff_eq_none, lowestDeferred_none]
      right
      rcases hq with hfull | hnone
      · exact .inl (hfull.trans hlong)
      · exact h.deferred.symm.imp And.left fun hsame p => (hsame p).trans (hnone p)
  · left
    simp [Store.quiet, h.toHolds.writing, hw]

theorem issue_deferred (t : Store) (q : PageIx) : (t.issue.page q).deferred = (t.page q).deferred := by
  unfold Store.issue
  split
  · rfl
  · split
    · rfl
    · next e rest _ =>
      have hmarks (f : PageMarks → PageMarks) (hf : ∀ m, (f m).deferred = m.deferred) :
          ((t.modPage e.page f).page q).deferred = (t.page q).deferred := by
        by_cases hq : q = e.page
        · rw [hq, page_modPage_same, hf]
        · rw [page_modPage_other t f hq]
      exact hmarks (fun m => { m with generation := (t.page e.page).generation + 1 }) fun _ => rfl

theorem fillPlaces_undeferred (n : Nat) {s : State} (h : ∀ q, (s.store.page q).deferred = false) :
    fillPlaces n s = s := by
  have hnone : fillPlace s = none := by simp [fillPlace, (lowestDeferred_none _).mpr h]
  cases n with
  | zero => rfl
  | succ n => simp only [fillPlaces, hnone]

/-- R169, R170: after pages were asked for of a quiet store, the Store Controller issues a write at most. -/
theorem Store.Asked.pump {s : State} (h : t.Asked s.store c ps) (hq : t.quiet = true)
    (hps : ps.length ≤ Config.writeCapacity) : pumpStore s = s.modStore Store.issue := by
  rcases h.settled hq hps with hquiet | hnone
  · rw [pumpStore_of_quiet hquiet, State.modStore, issue_of_quiet hquiet]
  · rw [pumpStore, fillPlaces_undeferred _ hnone, fillPlaces_undeferred]
    exact fun q => (issue_deferred s.store q).trans (hnone q)

/-- R170: an idle store that makes writes issues the first entry that waits. -/
theorem issue_cons {e : WriteEntry} {rest : List WriteEntry} (hw : t.writing = true) (hi : t.inFlight = none)
    (he : t.waiting = e :: rest) : t.issue = { t.modPage e.page (fun m =>
      { m with generation := (t.page e.page).generation + 1 }) with
        waiting := rest
        inFlight := some { page := e.page, generation := (t.page e.page).generation + 1, snapshot := e.snapshot
                           tags := e.tags, attempt := 1 } } := by
  rw [Store.issue, if_neg (by simp [hw, hi])]
  simp only [he]

theorem issue_leaves (t : Store) : t.issue.formatted = t.formatted ∧ t.issue.nodeMismatch = t.nodeMismatch
    ∧ t.issue.load = t.load := by
  unfold Store.issue
  split
  · exact ⟨rfl, rfl, rfl⟩
  · split <;> exact ⟨rfl, rfl, rfl⟩

/-- R169, R170: with no write in flight, the first page asked for of a quiet store waits in front. -/
theorem Store.Asked.first (h : t.Asked u c ps) (hq : t.quiet = true) (hw : t.writing = true) (hi : t.inFlight = none)
    (hps : ps ≠ []) : ∃ e rest, u.waiting = e :: rest ∧ ∀ x ∈ u.waiting, x.page ∈ ps := by
  obtain ⟨hwaiting, hnone⟩ := idle_of_quiet hq hw hi
  have hmine : ∀ x ∈ u.waiting, x.page ∈ ps := by
    have hbut : u.waitingBut ps = [] := by rw [h.others, Store.waitingBut, hwaiting, List.filter_nil]
    intro x hx
    simpa using List.filter_eq_nil_iff.mp hbut x hx
  cases hu : u.waiting with
  | cons e rest => exact ⟨e, rest, rfl, hu ▸ hmine⟩
  | nil =>
    obtain ⟨p, hp⟩ := List.exists_mem_of_ne_nil ps hps
    have hdeferred : (u.page p).deferred = false := by
      rcases h.deferred with hsame | ⟨hfull, -⟩
      · exact (hsame p).trans (hnone p)
      · simp [hu] at hfull
    have hbound := bound_iff.mp (h.bound hw p hp)
    simp [hu, h.inFlight, hi, hdeferred] at hbound

/-- R169, R170: pages asked for of a quiet store, and a write issued: what the statements say of the two stores. -/
theorem Store.Asked.askedFor {e : State} (h : t.Asked u (pageBody e) ps) (hq : t.quiet = true) :
    t.askedFor u.issue e ps := by
  obtain ⟨hformatted, hmismatch, hload⟩ := issue_leaves u
  have hstill (hs : t.writing = false ∨ ps = []) : u.issue = t := by rw [h.still hs, issue_of_quiet hq]
  refine ⟨(issue_state u).trans h.state, hformatted.trans h.formatted, hmismatch.trans h.nodeMismatch,
    (issue_groups u).trans h.groups, hload.trans h.load, hstill, fun hw => ?_⟩
  have hbound (p : PageIx) (hp : p ∈ ps) := issue_bound (h.bound hw p hp)
  have hbad (p : PageIx) := (issue_bad u p).trans (h.bad p)
  by_cases hps : ps = []
  · rw [hstill (.inr hps)] at hbound ⊢
    exact ⟨hbound, fun _ => rfl, fun _ _ => rfl, rfl, List.prefix_rfl, fun _ => ⟨rfl, fun _ => rfl⟩,
      fun _ hne => absurd hps hne⟩
  cases hi : t.inFlight with
  | some w =>
    rw [issue_flying (by rw [h.inFlight, hi]; rfl)] at hbound hbad ⊢
    exact ⟨hbound, hbad, h.other, h.others, h.order, fun _ => ⟨h.inFlight.trans hi, h.generation⟩, fun hnone => nomatch hnone⟩
  | none =>
    obtain ⟨hwaiting, -⟩ := idle_of_quiet hq hw hi
    obtain ⟨a, rest, hfirst, hmine⟩ := h.first hq hw hi hps
    have ha : a.page ∈ ps := hmine a (by simp [hfirst])
    have hissue := issue_cons (h.toHolds.writing.trans hw) (h.inFlight.trans hi) hfirst
    have hpage (p : PageIx) (hp : p ≠ a.page) : u.issue.page p = u.page p := by
      rw [hissue]
      exact page_modPage_other u
        (fun m => { m with generation := (u.page a.page).generation + 1 }) hp
    refine ⟨hbound, hbad, fun p hp => ?_, ?_, by simp [hwaiting], fun hsome => (nomatch hsome),
      fun _ _ => ⟨a.page, ha, ⟨a.tags, ?_⟩, ?_, fun q hq => ?_⟩⟩
    · rw [hpage p (fun hpa => hp (hpa ▸ ha)), h.other p hp]
    · have hrest : ∀ x ∈ rest, x.page ∈ ps := fun x hx => hmine x (hfirst ▸ List.mem_cons_of_mem a hx)
      rw [hissue]
      simpa [Store.waitingBut, hwaiting] using hrest
    · rw [hissue, h.generation, h.content hw a (by simp [hfirst]) ha]
    · rw [hissue, ← h.generation a.page]
      exact congrArg PageMarks.generation (page_modPage_same u a.page
        fun m => { m with generation := (u.page a.page).generation + 1 })
    · rw [hpage q hq, h.generation]

/-- The pages asked for may be listed in another order, and more than once. -/
theorem Store.askedFor.congr {e : State} {qs : List PageIx} (h : t.askedFor u e ps) (hm : ∀ p, p ∈ qs ↔ p ∈ ps) :
    t.askedFor u e qs := by
  have hnil : qs = [] ↔ ps = [] := by simp [List.eq_nil_iff_forall_not_mem, hm]
  have hbut (v : Store) : v.waitingBut qs = v.waitingBut ps := by simp [Store.waitingBut, hm]
  simpa only [Store.askedFor, hnil, hbut, hm, ne_eq] using h

end

/-! ### Commands that ask for pages -/

/-- Between two states pages were asked for; but for the store, the second is `e`. -/
def Asking (s t e : State) (ps : List PageIx) : Prop :=
  t = { e with store := t.store } ∧ s.store.Asked t.store (pageBody e) ps

/-- An operation that neither reads nor changes the store. -/
def StoreBlind (f : State → State) : Prop := ∀ (s : State) (u : Store), f { s with store := u } = { f s with store := u }

theorem setSlot_blind (i : SlotIx) (x : Slot) : StoreBlind fun s => s.setSlot i x := fun _ _ => rfl

theorem modSlot_blind (i : SlotIx) (f : Slot → Slot) : StoreBlind fun s => s.modSlot i f := fun _ _ => rfl

theorem modPort_blind (p : PortId) (f : Port → Port) : StoreBlind fun s => s.modPort p f := fun _ _ => by
  cases p <;> rfl

theorem answer_blind (p : PortId) (status : Status) (body : List Byte) : StoreBlind (answer p status body) :=
  modPort_blind p _

/-- R167: the ports and the queue are no part of a page. -/
theorem pageBody_of_slots {s t : State} (hslots : t.slots = s.slots) (hnode : t.node = s.node) (hwatch : t.watch = s.watch)
    (p : PageIx) : pageBody t p = pageBody s p := by
  unfold pageBody formatBody rosterBody State.slot
  rw [hslots, hnode, hwatch]

theorem pageBody_answer (p : PortId) (status : Status) (body : List Byte) (s : State) (q : PageIx) :
    pageBody (answer p status body s) q = pageBody s q := pageBody_of_slots (by simp) (by simp) (by simp) q

section
variable {s t e : State} {ps : List PageIx}

theorem Asking.refl (h : e.store = s.store) : Asking s e e [] := ⟨rfl, h ▸ .refl _ _⟩

/-- A part of the state changes; the contents of the pages asked for stay. -/
theorem Asking.change (h : Asking s t e ps) {f : State → State} (hf : StoreBlind f)
    (hbody : ∀ p ∈ ps, pageBody (f e) p = pageBody e p) : Asking s (f t) (f e) ps := by
  have heq : f t = { f e with store := t.store } := (congrArg f h.1).trans (hf e t.store)
  have hstore : (f t).store = t.store := by rw [heq]
  exact ⟨by rw [hstore]; exact heq, by rw [hstore]; exact h.2.congr hbody⟩

/-- R169: a part of the state changes, and the page whose content it may change is asked for. -/
theorem Asking.ask (h : Asking s t e ps) (p : PageIx) {f : State → State} (hf : StoreBlind f)
    (hbody : ∀ q ∈ ps, q ≠ p → pageBody (f e) q = pageBody e q) :
    Asking s (enqueuePage p (f t)) (f e) (p :: ps) := by
  have heq : f t = { f e with store := t.store } := (congrArg f h.1).trans (hf e t.store)
  have hstore : (f t).store = t.store := by rw [heq]
  have hpage : pageBody (f t) p = pageBody (f e) p := by rw [heq]; rfl
  refine ⟨?_, ?_⟩
  · rw [enqueuePage_eq, hpage, heq]
    rfl
  · rw [enqueuePage_eq, modStore_store, hpage, hstore]
    exact h.2.ask p hbody

/-- R169: pages are asked for, and nothing else changes. -/
theorem Asking.pages (h : Asking s t e ps) (qs : List PageIx) : Asking s (enqueuePages qs t) e (qs.reverse ++ ps) := by
  unfold enqueuePages
  induction qs generalizing t ps with
  | nil => exact h
  | cons q qs ih => simpa using ih (h.ask q (f := id) (fun _ _ => rfl) fun _ _ _ => rfl)

/-- The command asked for the pages, and the Store Controller has worked. -/
theorem Asking.pumped (h : Asking s t e ps) (hq : s.store.quiet = true) (hps : ps.length ≤ Config.writeCapacity) :
    pumpStore t = { e with store := t.store.issue } ∧ s.store.askedFor t.store.issue e ps := by
  refine ⟨?_, h.2.askedFor hq⟩
  rw [h.2.pump hq hps]
  conv_lhs => rw [h.1]
  rfl

theorem nextAsking_of {c : Instr} {qs : List PageIx} (he : effect c s = t) (h : Asking s t e ps)
    (hq : s.store.quiet = true) (hps : ps.length ≤ Config.writeCapacity) (hm : ∀ p, p ∈ qs ↔ p ∈ ps) :
    nextAsking c s e qs := by
  obtain ⟨hpump, hasked⟩ := h.pumped hq hps
  exact ⟨_, by rw [exec_eq, he, hpump], hasked.congr hm⟩

end

end Sys2Proof.Machine

namespace Sys2Proof.Machine

/-! ## Write Roster Entry (R40, R41) -/

theorem slotOf_number {b : Byte} {i : SlotIx} (h : b.toNat = i.val + 1) : slotOf b = some i := by
  have hi := i.isLt
  rw [slotOf, dif_pos (by omega)]
  simp [h]

section
variable {p : PortId} {slot : Byte} {i : SlotIx} {e : RosterArg} {s : State}

/-- R40 step 3. -/
theorem placeTaken_iff : placeTaken i e s = true ↔
    ¬ ∀ j, j ≠ i → (s.slot j).table ≠ .unlisted → (s.slot j).seg = e.seg → (s.slot j).addr ≠ e.addr.toNat := by
  simp [placeTaken, mem_listedSlots, and_assoc, and_left_comm]

theorem placeTaken_hold (kind : Byte) : placeTaken i e (holdRequest p kind s) = placeTaken i e s := by
  have hslots (j : SlotIx) : (holdRequest p kind s).slot j = s.slot j := slot_modPort ..
  simp only [placeTaken, State.listedSlots, hslots]

theorem rosterSegmentRuns_hold (kind : Byte) : rosterSegmentRuns i e (holdRequest p kind s) = rosterSegmentRuns i e s := by
  have hslot : (holdRequest p kind s).slot i = s.slot i := slot_modPort ..
  have hsegs (g : SegId) : (holdRequest p kind s).seg g = s.seg g := seg_modPort ..
  simp only [rosterSegmentRuns, hslot, hsegs]

/-- R40: the range checks that the request passes. -/
theorem rosterArgOk_of {x : Slot} (hitem : e.regItem.toNat ≤ 64) (haddr : 1 ≤ e.addr.toNat ∧ e.addr.toNat ≤ 8)
    (hid : x.table ≠ .unlisted → ∀ r, x.identity = some r → e.regItem.toNat ≤ r.ranges.length) :
    rosterArgOk e x = true := by
  cases hx : x.identity with
  | none => simp [rosterArgOk, hitem, haddr, hx]
  | some r =>
    by_cases hl : x.table = .unlisted
    · simp [rosterArgOk, hitem, haddr, Slot.listed, hl]
    · simp [rosterArgOk, hitem, haddr, hx, hid hl r hx]

theorem serveWriteRosterEntry_taken (hslot : slotOf slot = some i) (h : placeTaken i e s = true) :
    serveWriteRosterEntry p slot e s = refuseRequest p .badRequest s := by
  simp [serveWriteRosterEntry, hslot, h]

theorem serveWriteRosterEntry_runs (hslot : slotOf slot = some i) (hok : rosterArgOk e (s.slot i) = true)
    (hfree : placeTaken i e s = false) (h : rosterSegmentRuns i e s = true) :
    serveWriteRosterEntry p slot e s = refuseRequest p .segmentRunning s := by
  simp [serveWriteRosterEntry, hslot, hok, hfree, h]

theorem serveWriteRosterEntry_written (hslot : slotOf slot = some i) (hok : rosterArgOk e (s.slot i) = true)
    (hfree : placeTaken i e s = false) (h : rosterSegmentRuns i e s = false) :
    serveWriteRosterEntry p slot e s
      = (let t := if (s.slot i).listed then editSlot i e s else listSlot i e s
         answer p .done (rosterField (t.slot i)) t) := by
  simp only [serveWriteRosterEntry, hslot, hok, hfree, h, Bool.not_true, Bool.or_self, Bool.false_eq_true, if_false]

end

/-- R40: a slot just listed. -/
def Slot.newEntry (x : Slot) (e : RosterArg) : Slot :=
  { Slot.unlisted.withEntry e with
    table := .absent, due := DueRecord.listed, close := x.close, question := x.question }

section
variable {i : SlotIx} {e : RosterArg} {s : State}

/-- R40: the listing of a slot and its five pages. -/
theorem listSlot_asking : Asking s (listSlot i e s) (s.setSlot i ((s.slot i).newEntry e)) (slotPages i).reverse := by
  have h := (Asking.refl (s := s) (e := s.setSlot i ((s.slot i).newEntry e)) rfl).pages (slotPages i)
  rwa [List.append_nil] at h

/-- R58: a table becomes Absent by a request, with nothing of it in flight, in a readback or closing. -/
theorem absentByRequest_still (htable : (s.slot i).table ≠ .caution) (hreadback : (s.slot i).readback = none)
    (hdelivery : (s.seg (s.slot i).seg).delivery = none) (hclose : ∀ q o n, (s.slot i).close ≠ .polling q o n) :
    absentByRequest i s = s.setSlot i { (s.slot i).nowAbsent with
      due := { (s.slot i).due with probe := Config.timerCeiling, more := false } } := by
  set y : Slot := { (s.slot i).nowAbsent with
    due := { (s.slot i).due with probe := Config.timerCeiling, more := false } } with hy
  have hown : suspendOwn i (s.setSlot i y) = s.setSlot i y := suspendOwn_of_other (by
    rw [slot_setSlot_same, seg_setSlot, hy]
    simp [Slot.nowAbsent, Segment.target, hdelivery])
  have hreset : (s.setSlot i y).modSlot i Slot.withReadbackReset = s.setSlot i y := by
    rw [modSlot_def, slot_setSlot_same, setSlot_setSlot, hy]
    simp [Slot.withReadbackReset, Slot.nowAbsent, hreadback]
  have hpolling : endPolling i false (s.setSlot i y) = s.setSlot i y := by
    have hkept : ((s.setSlot i y).slot i).close = (s.slot i).close := by rw [slot_setSlot_same, hy]; rfl
    unfold endPolling
    rw [hkept]
    cases hc : (s.slot i).close with
    | polling q o n => exact absurd hc (hclose q o n)
    | idle => rfl
    | storing _ _ _ _ => rfl
  rw [absentByRequest, if_neg htable]
  change leaveService i (s.setSlot i y) = s.setSlot i y
  rw [leaveService_eq, hown, hreset, hpolling]

theorem dropOutcome_none (h : (s.slot i).outcome = none) : dropOutcome i s = s := by
  simp [dropOutcome, h]

/-- R74: the window counters are reset, and the book page is asked for. -/
theorem resetWindow_asking {y : Slot} (hy : y.outcome = none) : Asking s (resetWindow i (dropOutcome i (s.setSlot i y)))
    (s.setSlot i { y with book := { y.book with paid := 0, award := 0 } }) [bookPage i] := by
  have hdrop : dropOutcome i (s.setSlot i y) = s.setSlot i y := dropOutcome_none (by rw [slot_setSlot_same]; exact hy)
  have h := (Asking.refl (s := s) (e := s.setSlot i y) rfl).ask (bookPage i)
    (modSlot_blind i fun x => { x with book := { x.book with paid := 0, award := 0 } }) (by simp)
  rw [hdrop]
  simpa only [resetWindow, modSlot_def, slot_setSlot_same, setSlot_setSlot] using h

/-- R41: a listed slot that is written, at its place or at another, asks for its roster page, and with another regulated
item for its book page. -/
theorem editSlot_asking {y : Slot} (hitem : (s.slot i).regItem ≠ e.regItem.toNat → y.outcome = none)
    (hy : (if (s.slot i).seg = e.seg ∧ (s.slot i).addr = e.addr.toNat then s.modSlot i fun x => x.withEntry e
      else (absentByRequest i (s.modSlot i fun x => x.withEntry e)).modSlot i fun x =>
        { x with game := none, due := DueRecord.listed }) = s.setSlot i y) :
    Asking s (editSlot i e s)
      (s.setSlot i { y with
        book := if (s.slot i).regItem ≠ e.regItem.toNat then { y.book with paid := 0, award := 0 } else y.book })
      (rosterPage i :: if (s.slot i).regItem ≠ e.regItem.toNat then [bookPage i] else []) := by
  unfold editSlot
  dsimp only
  rw [hy]
  by_cases hsame : (s.slot i).regItem = e.regItem.toNat
  · rw [if_pos hsame, if_neg (not_not.mpr hsame), if_neg (not_not.mpr hsame)]
    exact (Asking.refl (s := s) (e := s.setSlot i y) rfl).ask (rosterPage i) (f := id) (fun _ _ => rfl) (by simp)
  · rw [if_neg hsame, if_pos hsame, if_pos hsame]
    exact (resetWindow_asking (hitem hsame)).ask (rosterPage i) (f := id) (fun _ _ => rfl) fun _ _ _ => rfl

end

/-- R183, R184: a command whose block asks for pages and then answers. -/
theorem nextAsking_answered {p : PortId} {s v w : State} {c : Instr} {r : Request} {status : Status}
    {body : List Byte} {ps qs : List PageIx} (htakes : s.takes p = true) (hc : effect c = takeRequest p r)
    (hserve : serve p r (holdRequest p (requestKind r) s) = answer p status body v)
    (h : Asking s v (holdRequest p (requestKind r) w) ps) (hq : s.store.quiet = true)
    (hps : ps.length ≤ Config.writeCapacity) (hm : ∀ p, p ∈ qs ↔ p ∈ ps) :
    nextAsking c s (answered p (requestKind r) status body w) qs := by
  refine nextAsking_of ((congrFun hc s).trans ((takeRequest_taken htakes r).trans hserve)) ?_ hq hps hm
  rw [← answer_held]
  exact h.change (answer_blind p status body) fun q _ => pageBody_answer p status body _ q

/-- R40, R41: a request that is accepted writes the slot, asks for pages and answers with the slot's fields. -/
theorem nextAsking_written {p : PortId} {slot : Byte} {i : SlotIx} {e : RosterArg} {s : State} {y : Slot}
    {ps qs : List PageIx} (htakes : s.takes p = true) (hq : s.store.quiet = true) (hslot : slot.toNat = i.val + 1)
    (hok : rosterArgOk e (s.slot i) = true) (hfree : placeTaken i e s = false) (hruns : rosterSegmentRuns i e s = false)
    (h : Asking (holdRequest p 5 s)
      (if (s.slot i).listed then editSlot i e (holdRequest p 5 s) else listSlot i e (holdRequest p 5 s))
      ((holdRequest p 5 s).setSlot i y) ps) (hps : ps.length ≤ Config.writeCapacity) (hm : ∀ p, p ∈ qs ↔ p ∈ ps) :
    nextAsking (.writeRosterEntry p slot e) s (answered p 5 .done (rosterField y) (s.setSlot i y)) qs := by
  have hheldSlot : (holdRequest p 5 s).slot i = s.slot i := slot_modPort ..
  have hserve := serveWriteRosterEntry_written (p := p) (s := holdRequest p 5 s) (slotOf_number hslot)
    (by rw [hheldSlot]; exact hok) ((placeTaken_hold 5).trans hfree) ((rosterSegmentRuns_hold 5).trans hruns)
  rw [hheldSlot] at hserve
  dsimp only at hserve
  set t := if (s.slot i).listed then editSlot i e (holdRequest p 5 s) else listSlot i e (holdRequest p 5 s)
  have hfield : t.slot i = y := by
    rw [h.1]
    exact slot_setSlot_same _ i y
  rw [hfield] at hserve
  refine nextAsking_answered (r := .writeRosterEntry slot e) htakes rfl hserve ?_ hq hps hm
  have hstore : (holdRequest p 5 s).store = s.store := modPort_store ..
  have hheld : (holdRequest p 5 s).setSlot i y = holdRequest p 5 (s.setSlot i y) := setSlot_modPort ..
  exact ⟨hheld ▸ h.1, by rw [← hstore]; exact hheld ▸ h.2⟩

/-- Settles O32: the request's checks; what listing and editing make of the slot, and the pages they ask for. -/
theorem writeRosterEntry : Obligations.WriteRosterEntry := by
  unfold Obligations.WriteRosterEntry
  refine ⟨fun p slot i e s htakes hq hslot hunlisted hitem haddr => ?_,
    fun p slot i e s htakes hq hslot hlisted hitem haddr hid hfree hnew hold => ?_⟩
  · intro free new
    have hok : rosterArgOk e (s.slot i) = true := rosterArgOk_of hitem haddr fun hl => absurd hunlisted hl
    have hslots (j : SlotIx) : (holdRequest p 5 s).slot j = s.slot j := slot_modPort ..
    refine ⟨fun hfree hhalted => ?_, fun hfree hruns => ?_, fun htaken => ?_⟩
    · refine nextAsking_written (y := (s.slot i).newEntry e) htakes hq hslot hok
        (Bool.eq_false_iff.mpr fun h => placeTaken_iff.mp h hfree)
        (by simp [rosterSegmentRuns, hhalted, Slot.listed, hunlisted]) ?_ (by simp [slotPages, Config.writeCapacity])
        (ps := (slotPages i).reverse) fun q => (List.mem_reverse (as := slotPages i)).symm
      rw [if_neg (by simp [Slot.listed, hunlisted])]
      have h := listSlot_asking (i := i) (e := e) (s := holdRequest p 5 s)
      rwa [hslots] at h
    · refine exec_taken htakes rfl ((serveWriteRosterEntry_runs (s := holdRequest p 5 s) (slotOf_number hslot)
        (by rw [hslots]; exact hok) ?_ ?_).trans (answer_held p 5 .segmentRunning [] s))
        (by rw [answered_store]; exact hq)
      · exact (placeTaken_hold 5).trans (Bool.eq_false_iff.mpr fun h => placeTaken_iff.mp h hfree)
      · exact (rosterSegmentRuns_hold 5).trans (by simp [rosterSegmentRuns, hruns])
    · exact exec_taken htakes rfl ((serveWriteRosterEntry_taken (s := holdRequest p 5 s) (slotOf_number hslot)
        ((placeTaken_hold 5).trans (placeTaken_iff.mpr htaken))).trans (answer_held p 5 .badRequest [] s))
        (by rw [answered_store]; exact hq)
  · intro x moved item written placed houtcome hstill
    have hslots (j : SlotIx) : (holdRequest p 5 s).slot j = s.slot j := slot_modPort ..
    have hsegs (g : SegId) : (holdRequest p 5 s).seg g = s.seg g := seg_modPort ..
    have hwrites {y : Slot} (hy : y.outcome = x.outcome) (hbook : y.book = x.book)
        (hu : (if x.seg = e.seg ∧ x.addr = e.addr.toNat then (holdRequest p 5 s).modSlot i fun x => x.withEntry e
          else (absentByRequest i ((holdRequest p 5 s).modSlot i fun x => x.withEntry e)).modSlot i fun x =>
            { x with game := none, due := DueRecord.listed }) = (holdRequest p 5 s).setSlot i y) :
        nextAsking (.writeRosterEntry p slot e) s
          (answered p 5 .done
            (rosterField { y with book := if item then { x.book with paid := 0, award := 0 } else x.book })
            (s.setSlot i { y with book := if item then { x.book with paid := 0, award := 0 } else x.book }))
          (rosterPage i :: if item then [bookPage i] else []) := by
      refine nextAsking_written (ps := rosterPage i :: if item then [bookPage i] else []) htakes hq hslot
        (rosterArgOk_of hitem haddr fun _ => hid) (Bool.eq_false_iff.mpr fun h => placeTaken_iff.mp h hfree)
        (by simp [rosterSegmentRuns, hnew, hold]) ?_ (by split <;> simp [Config.writeCapacity]) fun q => Iff.rfl
      rw [if_pos ((listed_iff _).mpr hlisted)]
      have h := editSlot_asking (i := i) (e := e) (s := holdRequest p 5 s) (y := y)
        (by rw [hslots, hy]; exact houtcome) (by rw [hslots]; exact hu)
      rw [hslots, hbook] at h
      exact h
    refine ⟨fun hsame => ?_, fun hmoved => ?_⟩
    · refine hwrites (y := x.withEntry e) rfl rfl ?_
      rw [if_pos (not_not.mp hsame), modSlot_def, hslots]
    · refine hwrites (y := { (x.withEntry e).nowAbsent with game := none, due := DueRecord.listed }) rfl rfl ?_
      obtain ⟨htable, hreadback, hdelivery, hclose⟩ := hstill hmoved
      rw [if_neg hmoved, absentByRequest_still, modSlot_def, modSlot_def]
      · simp only [slot_setSlot_same, setSlot_setSlot, hslots]
        rfl
      all_goals rw [slot_modSlot_same, hslots]
      · exact htable
      · exact hreadback
      · rw [seg_modSlot, hsegs]
        exact hdelivery
      · exact hclose

end Sys2Proof.Machine

namespace Sys2Proof.Machine

/-! ## The choice and the store (R30) -/

section
variable {g : SegId} {s : State} {u : Store}

theorem seg_setStore (g : SegId) (s : State) (u : Store) : ({ s with store := u } : State).seg g = s.seg g := by
  cases g <;> rfl

theorem sendFrame_blind (g : SegId) (i : SlotIx) (f : HubFrame) (a : Asker) : StoreBlind (sendFrame g i f a) :=
  fun _ _ => by cases g <;> cases f <;> rfl

theorem modSeg_setStore (f : Segment → Segment) :
    ({ s with store := u } : State).modSeg g f = { s.modSeg g f with store := u } := by
  cases g <;> rfl

theorem sendDelivery_blind (g : SegId) (d : DeliveryRecord) : StoreBlind (sendDelivery g d) := fun s u => by
  unfold sendDelivery
  split
  · exact sendFrame_blind g d.slot _ _ s u
  · dsimp only
    rw [modSeg_setStore]
    exact sendFrame_blind g d.slot _ _ _ u

theorem startDelivery_blind (g : SegId) (i : SlotIx) : StoreBlind (startDelivery g i) := fun _ _ => by
  cases g <;> rfl

theorem routineVisit_blind (g : SegId) : StoreBlind (routineVisit g) := fun s u => by
  have hvisit : nextVisit g { s with store := u } = nextVisit g s := by cases g <;> rfl
  have hslot (i : SlotIx) : ({ s with store := u } : State).slot i = s.slot i := rfl
  unfold routineVisit
  rw [hvisit]
  cases nextVisit g s with
  | none => rfl
  | some i =>
    simp only [seg_setStore, hslot, modSeg_setStore]
    cases dueExchange (s.seg g).params (s.slot i) with
    | none => rfl
    | some fa =>
      obtain ⟨f, asker⟩ := fa
      exact sendFrame_blind g i f asker _ u

/-- R30: the choice neither reads nor changes the store. -/
theorem choose_blind (g : SegId) : StoreBlind (choose g) := fun s u => by
  have hclosing : nextClosing g { s with store := u } = nextClosing g s := rfl
  have hpick : pickEntry g { s with store := u } = pickEntry g s := rfl
  unfold choose
  rw [seg_setStore, hclosing, hpick]
  split
  · rfl
  · split
    · next d _ => exact sendDelivery_blind g d s u
    · split
      · next i _ => exact sendFrame_blind g i _ _ s u
      · split
        · next e _ =>
          dsimp only
          rw [startDelivery_blind g e.slot s u, seg_setStore]
          split
          · next d _ => exact sendDelivery_blind g d _ u
          · rfl
        · exact routineVisit_blind g s u

/-- R30: a command whose block asks for pages, and then the scheduler chooses. -/
theorem nextChoosing_of {c : Instr} {t e : State} {ps qs : List PageIx} (he : effect c s = choose g t)
    (h : Asking s t e ps) (hq : s.store.quiet = true) (hps : ps.length ≤ Config.writeCapacity)
    (hm : ∀ p, p ∈ qs ↔ p ∈ ps) : nextChoosing c s g e qs := by
  obtain ⟨hpump, hasked⟩ := h.pumped hq hps
  have hissue : pumpStore t = { t with store := t.store.issue } := h.2.pump hq hps
  have hchosen : pumpStore (choose g t) = choose g { t with store := t.store.issue } := by
    have hasks : s.store.Asked (choose g t).store (pageBody e) ps := by rw [choose_store]; exact h.2
    rw [choose_blind g t t.store.issue, hasks.pump hq hps, State.modStore, choose_store]
  exact ⟨_, by rw [exec_eq, he, hchosen, ← hissue, hpump], hasked.congr hm⟩

end

/-! ## Discard Draft (R109, R145) -/

section
variable {p : PortId} {i : SlotIx} {s : State}

/-- A port that holds no reservation of the slot. -/
def Port.unreserved (i : SlotIx) (x : Port) : Port := if x.reservation = some i then { x with reservation := none } else x

theorem clearReservations_eq (i : SlotIx) (s : State) : clearReservations i s
    = { s with collector := s.collector.unreserved i, office := s.office.unreserved i } := rfl

theorem unreserved_requested (i : SlotIx) (kind : Byte) (x : Port) :
    ({ x with request := some kind } : Port).unreserved i = { x.unreserved i with request := some kind } := by
  unfold Port.unreserved
  by_cases h : x.reservation = some i <;> simp [h]

theorem unreserved_unreserved (i : SlotIx) (x : Port) : (x.unreserved i).unreserved i = x.unreserved i := by
  unfold Port.unreserved
  by_cases h : x.reservation = some i <;> simp [h]

theorem clearReservations_hold (kind : Byte) :
    clearReservations i (holdRequest p kind s) = holdRequest p kind (clearReservations i s) := by
  cases p
  · simp only [clearReservations_eq, holdRequest, State.modPort, State.setPort, State.port, unreserved_requested]
  · simp only [clearReservations_eq, holdRequest, State.modPort, State.setPort, State.port, unreserved_requested]

theorem clearReservations_clear : clearReservations i (clearReservations i s) = clearReservations i s := by
  simp only [clearReservations_eq, unreserved_unreserved]

theorem modSlot_hold (kind : Byte) (f : Slot → Slot) :
    (holdRequest p kind s).modSlot i f = holdRequest p kind (s.modSlot i f) := by
  cases p <;> rfl

theorem joinQueue_hold (kind : Byte) (priority : Nat) (origin : EntryOrigin) :
    joinQueue i priority origin (holdRequest p kind s) = holdRequest p kind (joinQueue i priority origin s) := by
  cases p <;> rfl

/-- R109: the draft of a slot is discarded. -/
def State.discarded (s : State) (i : SlotIx) : State := clearReservations i (s.setSlot i (s.slot i).withCleanDraft)

theorem slot_discarded : (s.discarded i).slot i = (s.slot i).withCleanDraft := slot_setSlot_same s i _

theorem discardDraft_held (kind : Byte) : discardDraft p i (holdRequest p kind s)
    = choose (s.slot i).seg (answer p .done [] (offerOutcome i (holdRequest p kind (s.discarded i)))) := by
  have hslot : (holdRequest p kind s).slot i = s.slot i := slot_modPort ..
  rw [discardDraft, hslot, modSlot_hold, clearReservations_hold]
  rfl

theorem serveDiscardDraft_discards {slot : Byte} (hslot : slotOf slot = some i) (hl : (s.slot i).table ≠ .unlisted)
    (hd : (s.slot i).draft.state = .clean ∨ (s.slot i).draft.state = .edited) :
    serveDiscardDraft p slot s = discardDraft p i s := by
  rcases hd with hd | hd <;> simp [serveDiscardDraft, hslot, (listed_iff _).mpr hl, hd]

theorem serveDiscardDraft_refuses {slot : Byte} (hslot : slotOf slot = some i) (hl : (s.slot i).table ≠ .unlisted)
    (hd : (s.slot i).draft.state = .queued ∨ (s.slot i).draft.state = .delivering) :
    serveDiscardDraft p slot s = refuseRequest p .refusedInState s := by
  rcases hd with hd | hd <;> simp [serveDiscardDraft, hslot, (listed_iff _).mpr hl, hd]

theorem offerOutcome_none (h : (s.slot i).outcome = none) : offerOutcome i s = s := by
  simp [offerOutcome, h]

theorem offerOutcome_differs {level : Nat} (h : (s.slot i).outcome = some level)
    (hlevel : (s.slot i).activeLevel ≠ some level) (hd : (s.slot i).draft.state = .clean) :
    offerOutcome i s = applyOutcome i level s := by
  simp [offerOutcome, h, hlevel, hd]

theorem offerOutcome_equal {level : Nat} (h : (s.slot i).outcome = some level)
    (hlevel : (s.slot i).activeLevel = some level) :
    offerOutcome i s = enqueuePage (settingsPage i) (s.modSlot i fun x => { x with outcome := none }) := by
  simp [offerOutcome, h, hlevel, dropOutcome]

theorem activeLevel_withCleanDraft {x : Slot} {values : List Nat} (ha : x.active = some values) (hr : 1 ≤ x.regItem) :
    x.withCleanDraft.activeLevel = values[x.regItem - 1]? :=
  activeLevel_of (x := x.withCleanDraft) ha (Nat.one_le_iff_ne_zero.mp hr)

/-- R183, R184: Discard Draft in the taking, as far as its answer and the choice after it. -/
theorem effect_discardDraft {slot : Byte} (htakes : s.takes p = true) (hslot : slot.toNat = i.val + 1)
    (hl : (s.slot i).table ≠ .unlisted) (hd : (s.slot i).draft.state = .clean ∨ (s.slot i).draft.state = .edited) :
    effect (.discardDraft p slot) s
      = choose (s.slot i).seg (answer p .done [] (offerOutcome i (holdRequest p 17 (s.discarded i)))) := by
  have hheld : (holdRequest p 17 s).slot i = s.slot i := slot_modPort ..
  refine (takeRequest_taken htakes (.discardDraft slot)).trans ?_
  change serveDiscardDraft p slot (holdRequest p 17 s) = _
  rw [serveDiscardDraft_discards (slotOf_number hslot) (by rwa [hheld]) (by rwa [hheld]), discardDraft_held]

/-- R145: Discard Draft with a pending outcome, whose offer asks for the settings page. -/
theorem nextChoosing_discardDraft {slot : Byte} {w : State} (htakes : s.takes p = true) (hq : s.store.quiet = true)
    (hslot : slot.toNat = i.val + 1) (hl : (s.slot i).table ≠ .unlisted) (hd : (s.slot i).draft.state = .edited)
    (h : Asking s (offerOutcome i (holdRequest p 17 (s.discarded i))) (holdRequest p 17 w) [settingsPage i]) :
    nextChoosing (.discardDraft p slot) s (s.slot i).seg (answered p 17 .done [] w) [settingsPage i] := by
  have hanswered := h.change (answer_blind p .done []) fun q _ => pageBody_answer p .done [] _ q
  have hheld : answer p .done [] (holdRequest p 17 w) = answered p 17 .done [] w := answer_held ..
  rw [hheld] at hanswered
  exact nextChoosing_of (effect_discardDraft htakes hslot hl (.inr hd)) hanswered hq (by simp [Config.writeCapacity])
    fun _ => Iff.rfl

/-- R110: a pending outcome that differs from the Active value is queued in the Clean draft. -/
theorem asking_applied {level : Nat} {values : List Nat} (ha : (s.slot i).active = some values)
    (ho : (s.slot i).outcome = some level) (hr : 1 ≤ (s.slot i).regItem)
    (hlevel : values[(s.slot i).regItem - 1]? ≠ some level) :
    Asking s (offerOutcome i (holdRequest p 17 (s.discarded i)))
      (holdRequest p 17 (clearReservations i (joinQueue i (s.slot i).reg.priority .regulation (s.setSlot i
        { s.slot i with
          draft := { values := values.set ((s.slot i).regItem - 1) level, touched := values.map fun _ => false
                     state := .queued, baseMoved := false }
          confirmed := false, outcome := none })))) [settingsPage i] := by
  have hslot : (holdRequest p 17 (s.discarded i)).slot i = (s.slot i).withCleanDraft :=
    (slot_modPort ..).trans slot_discarded
  have happly := offerOutcome_differs (s := holdRequest p 17 (s.discarded i)) (i := i) (level := level)
    (by rw [hslot]; exact ho) (by rw [hslot, activeLevel_withCleanDraft ha hr]; exact hlevel) (by rw [hslot]; rfl)
  have hqueued : clearReservations i (joinQueue i (s.slot i).withCleanDraft.reg.priority .regulation
      ((holdRequest p 17 (s.discarded i)).modSlot i fun x =>
        { x with
          draft := { x.draft with values := x.draft.values.set (x.regItem - 1) level, state := .queued }
          confirmed := false, outcome := none }))
      = holdRequest p 17 (clearReservations i (clearReservations i (joinQueue i (s.slot i).reg.priority .regulation
        (s.setSlot i { s.slot i with
          draft := { values := values.set ((s.slot i).regItem - 1) level, touched := values.map fun _ => false
                     state := .queued, baseMoved := false }
          confirmed := false, outcome := none })))) := by
    rw [modSlot_hold, joinQueue_hold, clearReservations_hold, modSlot_def, slot_discarded]
    congr 2
    simp [Slot.withCleanDraft, Draft.cleanOver, ha, State.discarded, clearReservations_eq, joinQueue, State.setSlot]
  rw [happly, applyOutcome, hslot, hqueued, clearReservations_clear]
  exact (Asking.refl (by simp [joinQueue])).ask (settingsPage i) (f := id) (fun _ _ => rfl) (by simp)

/-- R145: a pending outcome equal to the Active value is dropped. -/
theorem asking_dropped {level : Nat} {values : List Nat} (ha : (s.slot i).active = some values)
    (ho : (s.slot i).outcome = some level) (hr : 1 ≤ (s.slot i).regItem)
    (hlevel : values[(s.slot i).regItem - 1]? = some level) :
    Asking s (offerOutcome i (holdRequest p 17 (s.discarded i)))
      (holdRequest p 17 (clearReservations i (s.setSlot i
        { s.slot i with
          draft := { values := values, touched := values.map fun _ => false, state := .clean, baseMoved := false }
          outcome := none }))) [settingsPage i] := by
  have hslot : (holdRequest p 17 (s.discarded i)).slot i = (s.slot i).withCleanDraft :=
    (slot_modPort ..).trans slot_discarded
  have hdrop := offerOutcome_equal (s := holdRequest p 17 (s.discarded i)) (i := i) (level := level)
    (by rw [hslot]; exact ho) (by rw [hslot]; exact (activeLevel_withCleanDraft ha hr).trans hlevel)
  have hdropped : (holdRequest p 17 (s.discarded i)).modSlot i (fun x => { x with outcome := none })
      = holdRequest p 17 (clearReservations i (s.setSlot i { s.slot i with
          draft := { values := values, touched := values.map fun _ => false, state := .clean, baseMoved := false }
          outcome := none })) := by
    rw [modSlot_hold, modSlot_def, slot_discarded]
    congr 1
    simp [Slot.withCleanDraft, Draft.cleanOver, ha, State.discarded, clearReservations_eq, State.setSlot]
  rw [hdrop, hdropped]
  exact (Asking.refl (by simp)).ask (settingsPage i) (f := id) (fun _ _ => rfl) (by simp)

end

/-- Settles O39: the draft is discarded, and the offer of a pending outcome by whether it is the Active value. -/
theorem discardDraftAndPendingOutcome : Obligations.DiscardDraft := by
  unfold Obligations.DiscardDraft
  refine ⟨fun p slot i s htakes hq hslot hl => ⟨fun hd ho => ?_, fun hd => ?_⟩,
    fun p slot i level values s htakes hq hslot hl hd ha ho hr _ hlevel => ?_,
    fun p slot i level values s htakes hq hslot hl hd ha ho hr hlevel => ?_⟩
  · have hnone : ((holdRequest p 17 (s.discarded i)).slot i).outcome = none := by
      rw [holdRequest, slot_modPort, slot_discarded]
      exact ho
    have he := effect_discardDraft htakes hslot hl hd
    rw [offerOutcome_none hnone, holdRequest, answer_held] at he
    exact exec_of_quiet he (by rw [choose_store, answered_store]; exact hq)
  · have hheld : (holdRequest p 17 s).slot i = s.slot i := slot_modPort ..
    exact exec_taken htakes rfl ((serveDiscardDraft_refuses (s := holdRequest p 17 s) (slotOf_number hslot)
      (by rwa [hheld]) (by rwa [hheld])).trans (answer_held p 17 .refusedInState [] s))
      (by rw [answered_store]; exact hq)
  · exact nextChoosing_discardDraft htakes hq hslot hl hd (asking_applied ha ho hr hlevel)
  · exact nextChoosing_discardDraft htakes hq hslot hl hd (asking_dropped ha ho hr hlevel)

end Sys2Proof.Machine

namespace Sys2Proof.Machine

/-! ## A join readback over a range whose ends are swapped (R54) -/

/-- A Joining table with one item, at the only step of its readback. The item's range is 5 to 3: no record that the hub
takes carries such a range (R23), but nothing in the statement excludes it. -/
def Slot.swappedRange : Slot :=
  { Slot.unlisted with
    table := .joining, join := some (.readback 1 [])
    identity := some { model := 1, revision := 0, meters := [], ranges := [(5, 3)] } }

/-- The table's readback request is in flight on segment A. -/
def State.readsSwapped : State :=
  (State.reset.modSeg .a fun y =>
    { y with
      state := .running
      exchange := some { slot := 0, address := 1, frame := .readbackRequest 1, asker := .roster, phase := .window
                         received := [] } }).setSlot 0 Slot.swappedRange

/-- The table's answer: one item, number 1, of value 5. -/
def answersFive : Instr := .answerComplete .a .attract .accepted [1, 1, 0, 5]

/-- R54: a value of 5 is above the range's upper end of 3, so the model enters Settings/Out of range, though clamping
gives 5 back. -/
theorem records_answersFive :
    (nextOf (exec answersFive State.readsSwapped)).map (fun t => (t.slot 0).faults.records.length) = some 1 := by
  decide +kernel

/-- R30: the choice leaves the rosters of the slots alone. -/
theorem records_of_choose {o : Host.Outcome State Fault Refusal} {g : SegId} {s : State} (h : o = .next (choose g s))
    (i : SlotIx) : (nextOf o).map (fun t => (t.slot i).faults.records.length) = some (s.slot i).faults.records.length := by
  rw [h, nextOf, Option.map_some, (slot_choose g s i).faults]

/-- Refutes O27: the clause on the last frame of a join readback takes "clamping changed no value" for "no value was
outside its range". Over a range with its ends swapped the two differ: the clause leaves the slot's roster as it was,
and the model enters a record. The clause lacks the hypothesis that the ranges of `r` are in order. -/
theorem not_joinSteps : ¬ Obligations.JoinSteps := by
  intro h
  obtain ⟨-, -, hreadback, -⟩ := h.1 .a State.readsSwapped _ (by decide +kernel) rfl rfl rfl
  obtain ⟨-, -, hlast⟩ := hreadback 1 1 [] [5] _ .attract [1, 1, 0, 5] rfl rfl rfl rfl rfl rfl rfl
    (by decide +kernel) (by decide)
  obtain ⟨u, hexec, -⟩ := (hlast rfl (by decide) rfl).1 rfl rfl
  have hkept : (nextOf (exec answersFive State.readsSwapped)).map (fun t => (t.slot 0).faults.records.length)
      = some 0 := records_of_choose hexec 0
  exact absurd (records_answersFive.symm.trans hkept) (by decide)

end Sys2Proof.Machine

namespace Sys2Proof.Machine

/-! ## The link-state rule (R45 to R48) -/

/-- What the link-state rule decides of a slot: its state, its score, its two counts and its probe timer. -/
def Slot.link (x : Slot) : TableState × Nat × Nat × Nat × Nat := (x.table, x.score, x.silent, x.goodProbes, x.due.probe)

/-- Between two states a slot kept what the link-state rule decides, and every other slot stayed as it was. -/
structure LinkKept (i : SlotIx) (s t : State) : Prop where
  link : (t.slot i).link = (s.slot i).link
  other : ∀ j, j ≠ i → t.slot j = s.slot j

section
variable {i : SlotIx} {s t u : State}

theorem LinkKept.refl (i : SlotIx) (s : State) : LinkKept i s s := ⟨rfl, fun _ _ => rfl⟩

theorem LinkKept.trans (h : LinkKept i s t) (k : LinkKept i t u) : LinkKept i s u :=
  ⟨k.link.trans h.link, fun j hj => (k.other j hj).trans (h.other j hj)⟩

theorem LinkKept.ite {c : Prop} [Decidable c] (ht : LinkKept i s t) (hu : LinkKept i s u) :
    LinkKept i s (if c then t else u) := by
  split <;> assumption

/-- R151: an entry to a slot's roster leaves the other slots alone. -/
theorem slot_putRoster_other {j : SlotIx} (hj : j ≠ i) (r : FaultRoster) (s : State) :
    (putRoster (rosterOfSlot i) r s).slot j = s.slot j := by
  have hne : rosterOfSlot j ≠ rosterOfSlot i := fun h => hj (Fin.ext (by simpa [rosterOfSlot] using h))
  have hroster := roster_putRoster_other r s hne
  rw [roster_rosterOfSlot, roster_rosterOfSlot] at hroster
  rw [slot_putRoster, hroster]

theorem slot_enterFault_other {j : SlotIx} (hj : j ≠ i) (k : FaultKey) (origin : Origin) (kind : EntryKind) (s : State) :
    (enterFault (rosterOfSlot i) k origin kind s).slot j = s.slot j := by
  unfold enterFault
  dsimp only
  split
  · rw [slot_offerEntry, slot_putRoster_other hj]
  · exact slot_putRoster_other hj _ s

theorem openCondition_linkKept (k : FaultKey) (s : State) : LinkKept i s (openCondition (rosterOfSlot i) k s) :=
  ⟨by rw [openCondition, slot_enterFault]; rfl, fun _ hj => slot_enterFault_other hj k _ _ s⟩

theorem endCondition_linkKept (k : FaultKey) (s : State) : LinkKept i s (endCondition (rosterOfSlot i) k s) :=
  ⟨by rw [slot_endCondition]; rfl, fun _ hj => slot_putRoster_other hj _ s⟩

theorem presenceAlert_linkKept (code : Byte) (s : State) : LinkKept i s (presenceAlert i code s) :=
  ⟨by rw [slot_presenceAlert], fun _ _ => slot_presenceAlert ..⟩

theorem suspendOwn_linkKept (i : SlotIx) (s : State) : LinkKept i s (suspendOwn i s) := by
  by_cases h : (s.seg (s.slot i).seg).target = some i
  · obtain ⟨hslot, hother, -⟩ := returnToQueue_facts (s.slot i).seg i s
    rw [suspendOwn_of_target h]
    exact ⟨by rw [hslot]; rfl, hother⟩
  · rw [suspendOwn_of_other h]
    exact .refl i s

theorem endPolling_linkKept (final : Bool) (s : State) : LinkKept i s (endPolling i final s) := by
  obtain ⟨⟨_, _, _, hslot, -⟩, hother, -⟩ := endPolling_facts i final s
  exact ⟨by rw [hslot]; rfl, hother⟩

/-- R57: the notices of a table that leaves Active and Caution. -/
theorem leaveService_linkKept (i : SlotIx) (s : State) : LinkKept i s (leaveService i s) := by
  have hreset (v : State) : LinkKept i v (v.modSlot i Slot.withReadbackReset) :=
    ⟨by rw [slot_modSlot_same]; rfl, fun _ hj => slot_modSlot_other v _ hj⟩
  rw [leaveService_eq]
  exact ((suspendOwn_linkKept i s).trans (hreset _)).trans (endPolling_linkKept false _)

/-- R46: what the eighth silence makes of the slot. -/
theorem absentBySilence_link (i : SlotIx) (s : State) : ((absentBySilence i s).slot i).link = (.absent, 0, 0, 0, 0)
    ∧ ∀ j, j ≠ i → (absentBySilence i s).slot j = s.slot j := by
  set t := s.modSlot i fun x => { x.nowAbsent with due := { x.due with probe := 0 } } with ht
  have hkept : LinkKept i t (absentBySilence i s) := by
    have hu : LinkKept i t (presenceAlert i 1 (if (s.slot i).table = .caution then
        endCondition (rosterOfSlot i) keyCaution t else t)) :=
      (LinkKept.ite (endCondition_linkKept keyCaution t) (.refl i t)).trans (presenceAlert_linkKept 1 _)
    exact .ite (hu.trans (leaveService_linkKept i _)) hu
  refine ⟨hkept.link.trans ?_, fun j hj => (hkept.other j hj).trans (slot_modSlot_other s _ hj)⟩
  rw [ht, slot_modSlot_same]
  rfl

/-- R48: what the isolation makes of the slot. -/
theorem isolate_link (i : SlotIx) (score : Nat) (s : State) :
    ((isolate i score s).slot i).link = (.isolated, score, 0, 0, 0)
      ∧ ∀ j, j ≠ i → (isolate i score s).slot j = s.slot j := by
  have hkept : LinkKept i _ (isolate i score s) :=
    ((endCondition_linkKept keyCaution _).trans (openCondition_linkKept keyIsolated _)).trans (leaveService_linkKept i _)
  refine ⟨hkept.link.trans ?_, fun j hj => (hkept.other j hj).trans (slot_modSlot_other s _ hj)⟩
  rw [slot_modSlot_same]
  rfl

variable {o : ExOutcome}

theorem linkScore_silent (h : 8 ≤ nextSilent (s.slot i).silent o) : linkScore i o s = absentBySilence i s := if_pos h

theorem linkScore_isolates (hn : nextSilent (s.slot i).silent o < 8) (h : 160 ≤ nextScore (s.slot i).score o) :
    linkScore i o s = isolate i (nextScore (s.slot i).score o) s := by
  simp only [linkScore]
  rw [if_neg (not_le.mpr hn), if_pos h]

theorem openCondition_faults {y : Slot} (h : s.slot i = y) (n : Fin 17) (k : FaultKey) :
    ∃ r, (openCondition n k s).slot i = { y with faults := r } := h ▸ ⟨_, slot_enterFault ..⟩

theorem endCondition_faults {y : Slot} (h : s.slot i = y) (n : Fin 17) (k : FaultKey) :
    ∃ r, (endCondition n k s).slot i = { y with faults := r } := h ▸ ⟨_, slot_endCondition ..⟩

/-- R45, R47: a slot in Active or Caution after an outcome, below the last silence and the isolation. -/
def Slot.scored (x : Slot) (o : ExOutcome) : Slot :=
  { x with
    table := if 64 ≤ nextScore x.score o then .caution else .active
    score := nextScore x.score o, silent := nextSilent x.silent o }

/-- R47: below the last silence and the isolation the rule changes besides the roster of the slot alone. -/
theorem linkScore_settles (ht : (s.slot i).table = .active ∨ (s.slot i).table = .caution)
    (hn : nextSilent (s.slot i).silent o < 8) (h : nextScore (s.slot i).score o < 160) :
    (∃ r, (linkScore i o s).slot i = { (s.slot i).scored o with faults := r })
      ∧ ∀ j, j ≠ i → (linkScore i o s).slot j = s.slot j := by
  simp only [linkScore]
  rw [if_neg (not_le.mpr hn), if_neg (not_le.mpr h)]
  split
  · next hup =>
    refine ⟨openCondition_faults ?_ _ _, fun j hj => ?_⟩
    · rw [slot_modSlot_same, slot_modSlot_same, Slot.scored, if_pos hup.1]
    · rw [(openCondition_linkKept keyCaution _).other j hj, slot_modSlot_other _ _ hj, slot_modSlot_other _ _ hj]
  · next hup =>
    split
    · next hdown =>
      refine ⟨endCondition_faults ?_ _ _, fun j hj => ?_⟩
      · rw [slot_modSlot_same, slot_modSlot_same, Slot.scored, if_neg (not_le.mpr hdown.1)]
      · rw [(endCondition_linkKept keyCaution _).other j hj, slot_modSlot_other _ _ hj, slot_modSlot_other _ _ hj]
    · next hdown =>
      refine ⟨⟨(s.slot i).faults, ?_⟩, fun j hj => slot_modSlot_other s _ hj⟩
      have htable : (s.slot i).table = if 64 ≤ nextScore (s.slot i).score o then .caution else .active := by
        split
        · next hge => exact ht.resolve_left fun ha => hup ⟨hge, ha⟩
        · next hlt => exact ht.resolve_right fun hc => hdown ⟨not_le.mp hlt, hc⟩
      rw [slot_modSlot_same, Slot.scored, ← htable]

end

/-- Settles O20: the branches of the rule by the silences and the score; what each makes of the slot. -/
theorem linkStateRule : Obligations.LinkStateRule := by
  unfold Obligations.LinkStateRule
  intro i o s ht x y score silent
  have hscore : score = nextScore x.score o := by
    cases o with
    | silent => exact Nat.min_comm ..
    | garbled => exact Nat.min_comm ..
    | refused gs => rfl
    | good gs rest => rfl
  have hsilent : silent = nextSilent x.silent o := by cases o <;> rfl
  clear_value score silent
  subst hscore hsilent
  refine ⟨fun hn => ?_, fun hn h => ?_, fun hn h hlt => ?_, fun hn h => ?_, fun j hj => ?_⟩
  · have hlink := (absentBySilence_link i s).1
    rw [← linkScore_silent hn] at hlink
    simpa only [Slot.link, Prod.mk.injEq] using hlink
  · have hlink := (isolate_link i (nextScore x.score o) s).1
    rw [← linkScore_isolates hn h] at hlink
    simpa only [Slot.link, Prod.mk.injEq] using hlink
  · obtain ⟨⟨r, hslot⟩, -⟩ := linkScore_settles ht hn hlt
    simp only [y, hslot, Slot.scored]
    exact ⟨if_pos h, rfl, rfl, rfl⟩
  · obtain ⟨⟨r, hslot⟩, -⟩ := linkScore_settles ht hn (h.trans (by decide))
    simp only [y, hslot, Slot.scored]
    exact ⟨if_neg (not_le.mpr h), rfl, rfl, rfl⟩
  · by_cases hn : 8 ≤ nextSilent x.silent o
    · rw [linkScore_silent hn]
      exact (absentBySilence_link i s).2 j hj
    · by_cases h : 160 ≤ nextScore x.score o
      · rw [linkScore_isolates (not_le.mp hn) h]
        exact (isolate_link i _ s).2 j hj
      · exact (linkScore_settles ht (not_le.mp hn) (not_le.mp h)).2 j hj

end Sys2Proof.Machine

namespace Sys2Proof.Machine

/-! ## Remove Table (R42) -/

section
variable {p : PortId} {slot : Byte} {i : SlotIx} {s : State}

theorem endPolling_idle (h : ∀ q o n, (s.slot i).close ≠ .polling q o n) (final : Bool) : endPolling i final s = s := by
  unfold endPolling
  split
  · next q o n hc => exact absurd hc (h q o n)
  · rfl
  · rfl

/-- R42, R138: what a removal keeps of a slot. -/
def Slot.removed (x : Slot) : Slot := { Slot.unlisted with reg := x.reg, close := x.close }

/-- R42: the slot emptied, its entry and the reservations on it gone. -/
def State.emptied (s : State) (i : SlotIx) : State :=
  clearReservations i { s.setSlot i (s.slot i).removed with queue := s.queue.filter fun e => e.slot != i }

theorem emptied_hold (kind : Byte) : (holdRequest p kind s).emptied i = holdRequest p kind (s.emptied i) := by
  have hslot : (holdRequest p kind s).slot i = s.slot i := slot_modPort ..
  rw [State.emptied, hslot, State.emptied, ← clearReservations_hold]
  cases p <;> rfl

/-- R42: without a close in Polling, a removal empties the slot and asks for its five pages. -/
theorem removeSlot_eq (h : ∀ q o n, (s.slot i).close ≠ .polling q o n) :
    removeSlot i s = enqueuePages (slotPages i) (s.emptied i) := by
  rw [removeSlot, endPolling_idle h]
  rfl

theorem removeSlot_asking {t : State} (hstore : s.store = t.store) (h : ∀ q o n, (s.slot i).close ≠ .polling q o n) :
    Asking t (removeSlot i s) (s.emptied i) (slotPages i).reverse := by
  have hpages := (Asking.refl (s := t) (e := s.emptied i) hstore).pages (slotPages i)
  rwa [List.append_nil, ← removeSlot_eq h] at hpages

theorem serveRemoveTable_runs (hslot : slotOf slot = some i) (hl : (s.slot i).table ≠ .unlisted)
    (hg : (s.seg (s.slot i).seg).state ≠ .halted) :
    serveRemoveTable p slot s = refuseRequest p .segmentRunning s := by
  simp [serveRemoveTable, hslot, (listed_iff _).mpr hl, hg]

theorem serveRemoveTable_removes (hslot : slotOf slot = some i) (hl : (s.slot i).table ≠ .unlisted)
    (hg : (s.seg (s.slot i).seg).state = .halted) : serveRemoveTable p slot s = answer p .done [] (removeSlot i s) := by
  simp [serveRemoveTable, hslot, (listed_iff _).mpr hl, hg]

end

/-- Settles O33: the slot emptied and its pages asked for, or the refusal while the segment is not Halted. -/
theorem removeTableEmptiesSlot : Obligations.RemoveTableEmptiesSlot := by
  unfold Obligations.RemoveTableEmptiesSlot
  intro p slot i s htakes hq hslot hl
  have hheld : (holdRequest p 6 s).slot i = s.slot i := slot_modPort ..
  have hseg : (holdRequest p 6 s).seg (s.slot i).seg = s.seg (s.slot i).seg := seg_modPort ..
  refine ⟨fun hg hclose => ?_, fun hg => ?_⟩
  · have hasks := removeSlot_asking (i := i) (s := holdRequest p 6 s) (modPort_store ..) (by rwa [hheld])
    rw [emptied_hold] at hasks
    exact nextAsking_answered (r := .removeTable slot) htakes rfl
      (serveRemoveTable_removes (s := holdRequest p 6 s) (slotOf_number hslot) (by rwa [hheld]) (by rwa [hheld, hseg])) hasks hq
      (by simp [slotPages, Config.writeCapacity]) fun q => (List.mem_reverse (as := slotPages i)).symm
  · exact exec_taken htakes rfl ((serveRemoveTable_runs (s := holdRequest p 6 s) (slotOf_number hslot)
      (by rwa [hheld]) (by rwa [hheld, hseg])).trans (answer_held p 6 .segmentRunning [] s))
      (by rw [answered_store]; exact hq)

end Sys2Proof.Machine

namespace Sys2Proof.Machine

/-! ## Requests answered in the taking (R183, R184) -/

theorem effect_requestCommand (p : PortId) (r : Request) : effect (requestCommand p r) = takeRequest p r := by
  cases r <;> rfl

section
variable {p : PortId} {s w : State} {status : Status} {body : List Byte} {b : Byte} {i : SlotIx} {r : Request}

/-- R182 to R184: a request that its block answers at once, asking for no page. -/
theorem exec_answered (htakes : s.takes p = true) (hq : s.store.quiet = true) (hw : w.store = s.store)
    (hserve : serve p r (holdRequest p (requestKind r) s) = answer p status body (holdRequest p (requestKind r) w)) :
    exec (requestCommand p r) s = .next (answered p (requestKind r) status body w) :=
  exec_taken htakes (effect_requestCommand p r) (hserve.trans (answer_held ..)) (by rw [answered_store, hw]; exact hq)

/-- R184, R187: a request that its block refuses: nothing but its own port changes. -/
theorem exec_refused (htakes : s.takes p = true) (hq : s.store.quiet = true)
    (hserve : serve p r (holdRequest p (requestKind r) s) = refuseRequest p status (holdRequest p (requestKind r) s)) :
    exec (requestCommand p r) s = .next (answered p (requestKind r) status [] s) :=
  exec_answered htakes hq rfl hserve

theorem slot_holdRequest (p : PortId) (kind : Byte) (s : State) (j : SlotIx) : (holdRequest p kind s).slot j = s.slot j :=
  slot_modPort ..

/-! ## Slot fields (R40 to R42, R79, R84, R104 to R109, R133, R140, R158, R159) -/

/-- The slot field of a request that speaks of one slot. A slot of 0 is All in Read Roster and Close Period. -/
def namedSlot : Request → Option Byte
  | .readRoster slot => if slot = 0 then none else some slot
  | .writeRosterEntry slot _ => some slot
  | .removeTable slot => some slot
  | .setRegulation slot _ => some slot
  | .readAudits slot _ => some slot
  | .closePeriod slot => if slot = 0 then none else some slot
  | .readSettings slot => some slot
  | .readDraft slot _ => some slot
  | .setItems slot _ => some slot
  | .submitDraft slot _ => some slot
  | .discardDraft slot => some slot
  | .withdrawDelivery slot => some slot
  | _ => none

/-- The slot of a request that is refused first of all while that slot is Unlisted. -/
def listedSlot : Request → Option Byte
  | .removeTable slot => some slot
  | .setRegulation slot _ => some slot
  | .readAudits slot _ => some slot
  | .closePeriod slot => if slot = 0 then none else some slot
  | .readSettings slot => some slot
  | .readDraft slot _ => some slot
  | .discardDraft slot => some slot
  | .withdrawDelivery slot => some slot
  | _ => none

theorem slotOf_none (h : b = 0 ∨ 16 < b.toNat) : slotOf b = none := by
  refine dif_neg fun hb => ?_
  rcases h with rfl | h
  · exact absurd hb.1 (by decide)
  · omega

/-- A slot field outside 1 to 16. -/
theorem serve_badSlot (hr : namedSlot r = some b) (hb : slotOf b = none) :
    serve p r s = refuseRequest p .badRequest s := by
  cases r with
  | readRoster slot =>
    obtain ⟨h0, rfl⟩ : slot ≠ 0 ∧ slot = b := by simpa [namedSlot] using hr
    simp only [serve, serveReadRoster, if_neg h0, hb]
  | closePeriod slot =>
    obtain ⟨h0, rfl⟩ : slot ≠ 0 ∧ slot = b := by simpa [namedSlot] using hr
    simp only [serve, serveClosePeriod, if_neg h0, hb]
  | writeRosterEntry slot e => cases hr; simp only [serve, serveWriteRosterEntry, hb]
  | removeTable slot => cases hr; simp only [serve, serveRemoveTable, hb]
  | setRegulation slot a => cases hr; simp only [serve, serveSetRegulation, hb]
  | readAudits slot view => cases hr; simp only [serve, serveReadAudits, hb]
  | readSettings slot => cases hr; simp only [serve, serveReadSettings, hb]
  | readDraft slot reserve => cases hr; simp only [serve, serveReadDraft, hb]
  | setItems slot pairs => cases hr; simp only [serve, serveSetItems, setItemsRefusal, hb]
  | submitDraft slot priority => cases hr; simp only [serve, serveSubmitDraft, hb]
  | discardDraft slot => cases hr; simp only [serve, serveDiscardDraft, hb]
  | withdrawDelivery slot => cases hr; simp only [serve, serveWithdrawDelivery, hb]
  | _ => cases hr

/-- A request for an Unlisted slot. -/
theorem serve_notListed (hr : listedSlot r = some b) (hb : slotOf b = some i) (hl : (s.slot i).table = .unlisted) :
    serve p r s = refuseRequest p .notListed s := by
  have hl : (s.slot i).listed = false := by simp [Slot.listed, hl]
  cases r with
  | closePeriod slot =>
    obtain ⟨h0, rfl⟩ : slot ≠ 0 ∧ slot = b := by simpa [listedSlot] using hr
    simp only [serve, serveClosePeriod, if_neg h0, hb, hl, Bool.not_false, if_true]
  | removeTable slot => cases hr; simp [serve, serveRemoveTable, hb, hl]
  | setRegulation slot a => cases hr; simp [serve, serveSetRegulation, hb, hl]
  | readAudits slot view => cases hr; simp [serve, serveReadAudits, hb, hl]
  | readSettings slot => cases hr; simp [serve, serveReadSettings, hb, hl]
  | readDraft slot reserve => cases hr; simp [serve, serveReadDraft, hb, hl]
  | discardDraft slot => cases hr; simp [serve, serveDiscardDraft, hb, hl]
  | withdrawDelivery slot => cases hr; simp [serve, serveWithdrawDelivery, hb, hl]
  | _ => cases hr

/-! ### Roster fields (R158, R159) -/

theorem rosterOf_number (h : b.toNat = i.val + 1) : rosterOf b = some (rosterOfSlot i) := by
  rw [rosterOf, dif_pos (by omega)]
  exact congrArg some (Fin.ext h)

theorem rosterReadable_slot (i : SlotIx) (s : State) : rosterReadable (rosterOfSlot i) s = (s.slot i).listed := by
  rw [rosterReadable, dif_neg (by simp [rosterOfSlot])]
  rfl

theorem serveReadFaults_unlisted (hb : rosterOf b = some (rosterOfSlot i)) (hl : (s.slot i).table = .unlisted) :
    serveReadFaults p b s = refuseRequest p .notListed s := by
  simp [serveReadFaults, hb, rosterReadable_slot, Slot.listed, hl]

theorem serveAcknowledgeFaults_unlisted (hb : rosterOf b = some (rosterOfSlot i)) (hl : (s.slot i).table = .unlisted)
    (key : Option FaultKey) : serveAcknowledgeFaults p b key s = refuseRequest p .notListed s := by
  simp [serveAcknowledgeFaults, hb, rosterReadable_slot, Slot.listed, hl]

end

/-- Settles O16, by the slot field of each request. -/
theorem slotFieldIsChecked : Obligations.SlotFieldIsChecked := by
  unfold Obligations.SlotFieldIsChecked
  refine ⟨fun p slot s htakes hq hrange => ?_, fun p slot i s htakes hq hslot hl => ?_⟩
  · have hbad (r : Request) (hr : namedSlot r = some slot) :
        exec (requestCommand p r) s = .next (answered p (requestKind r) .badRequest [] s) :=
      exec_refused htakes hq (serve_badSlot hr (slotOf_none hrange))
    exact ⟨fun e => hbad (.writeRosterEntry slot e) rfl, hbad (.removeTable slot) rfl,
      fun a => hbad (.setRegulation slot a) rfl, fun v => hbad (.readAudits slot v) rfl,
      fun h0 => hbad (.closePeriod slot) (if_neg h0), hbad (.readSettings slot) rfl,
      fun o => hbad (.readDraft slot o) rfl, fun l => hbad (.setItems slot l) rfl,
      fun q => hbad (.submitDraft slot q) rfl, hbad (.discardDraft slot) rfl, hbad (.withdrawDelivery slot) rfl⟩
  · have hunlisted (kind : Byte) : ((holdRequest p kind s).slot i).table = .unlisted := by
      rw [slot_holdRequest, hl]
    have hrefused (r : Request) (hr : listedSlot r = some slot) :
        exec (requestCommand p r) s = .next (answered p (requestKind r) .notListed [] s) :=
      exec_refused htakes hq (serve_notListed hr (slotOf_number hslot) (hunlisted _))
    have h0 : slot ≠ 0 := by
      rintro rfl
      simp at hslot
    exact ⟨hrefused (.removeTable slot) rfl, fun a => hrefused (.setRegulation slot a) rfl,
      fun v => hrefused (.readAudits slot v) rfl, hrefused (.closePeriod slot) (if_neg h0),
      hrefused (.readSettings slot) rfl, fun o => hrefused (.readDraft slot o) rfl,
      hrefused (.discardDraft slot) rfl, hrefused (.withdrawDelivery slot) rfl,
      exec_refused (r := .readFaults slot) htakes hq (serveReadFaults_unlisted (rosterOf_number hslot) (hunlisted _)),
      fun k => exec_refused (r := .acknowledgeFaults slot k) htakes hq
        (serveAcknowledgeFaults_unlisted (rosterOf_number hslot) (hunlisted _) k)⟩

end Sys2Proof.Machine

namespace Sys2Proof.Machine

/-! ## Requests that read (R43, R79, R80, R104, R105, R158, R188) -/

section
variable {p : PortId} {s : State} {i : SlotIx} {b : Byte}

theorem serveReadRoster_slot (hb : slotOf b = some i) (h0 : b ≠ 0) :
    serveReadRoster p b s = answer p .done (rosterField (s.slot i)) s := by
  simp only [serveReadRoster, if_neg h0, hb]

theorem serveReadAudits_listed (hb : slotOf b = some i) (hl : (s.slot i).table ≠ .unlisted) (view : AuditView) :
    serveReadAudits p b view s = answer p .done (auditBody s (s.slot i) view) s := by
  simp [serveReadAudits, hb, (listed_iff _).mpr hl]

theorem serveReadSettings_listed (hb : slotOf b = some i) (hl : (s.slot i).table ≠ .unlisted) :
    serveReadSettings p b s = answer p .done (settingsAnswer i (s.slot i)) s := by
  simp [serveReadSettings, hb, (listed_iff _).mpr hl]

/-- R105: the state whose draft Read Draft answers with. -/
def State.reserving (s : State) (p : PortId) (i : SlotIx) (reserve : Bool) : State :=
  if reserve then s.modPort p fun x => { x with reservation := some i } else s

theorem serveReadDraft_listed (hb : slotOf b = some i) (hl : (s.slot i).table ≠ .unlisted) (reserve : Bool) :
    serveReadDraft p b reserve s
      = answer p .done (draftAnswer i (s.reserving p i reserve)) (s.reserving p i reserve) := by
  simp [serveReadDraft, hb, (listed_iff _).mpr hl, State.reserving]

theorem serveReadFaults_zero : serveReadFaults p 0 s = answer p .done (faultsAnswer s.hubFaults) s := rfl

theorem serveReadFaults_listed (hb : rosterOf b = some (rosterOfSlot i)) (hl : (s.slot i).table ≠ .unlisted) :
    serveReadFaults p b s = answer p .done (faultsAnswer (s.slot i).faults) s := by
  simp [serveReadFaults, hb, rosterReadable_slot, (listed_iff _).mpr hl, roster_rosterOfSlot]

theorem reserving_hold (kind : Byte) (reserve : Bool) :
    (holdRequest p kind s).reserving p i reserve = holdRequest p kind (s.reserving p i reserve) := by
  cases reserve
  · rfl
  · cases p <;> rfl

/-! The request in progress is in no body but that of Read Status. -/

theorem auditBody_hold (kind : Byte) (x : Slot) (view : AuditView) :
    auditBody (holdRequest p kind s) x view = auditBody s x view := by
  have hstore : storeStateField (holdRequest p kind s) = storeStateField s := by
    rw [storeStateField, holdRequest, modPort_store]
    rfl
  cases view <;> exact congrArg _ hstore

theorem draftAnswer_hold (kind : Byte) : draftAnswer i (holdRequest p kind s) = draftAnswer i s := by
  cases p <;> rfl

end

/-- Settles O41: each request that reads, by the equation of its block. -/
theorem readsAnswerOnly : Obligations.ReadsAnswerOnly := by
  unfold Obligations.ReadsAnswerOnly
  intro p slot i s htakes hq hslot
  have hslotOf := slotOf_number hslot
  have hrosterOf := rosterOf_number hslot
  have hheld (kind : Byte) (j : SlotIx) := slot_holdRequest p kind s j
  have hdone {r : Request} {w : State} {body : List Byte} (hw : w.store = s.store)
      (hserve : serve p r (holdRequest p (requestKind r) s) = answer p .done body (holdRequest p (requestKind r) w)) :
      exec (requestCommand p r) s = .next (answered p (requestKind r) .done body w) :=
    exec_answered htakes hq hw hserve
  have h0 : slot ≠ 0 := by
    rintro rfl
    simp at hslot
  refine ⟨hdone (r := .readStatus) rfl rfl, hdone (r := .readRoster 0) rfl ?_, hdone (r := .readRoster slot) rfl ?_,
    hdone (r := .readFaults 0) rfl ?_, fun hl => ?_⟩
  · simp only [serve, serveReadRoster, if_pos, hheld]
  · exact (serveReadRoster_slot hslotOf h0).trans (by rw [hheld])
  · refine serveReadFaults_zero.trans ?_
    rw [holdRequest, modPort_hubFaults]
  have hlisted (kind : Byte) : ((holdRequest p kind s).slot i).table ≠ .unlisted := by rwa [hheld]
  have hdraft (reserve : Bool) : exec (.readDraft p slot reserve) s
      = .next (answered p 14 .done (draftAnswer i (s.reserving p i reserve)) (s.reserving p i reserve)) := by
    refine hdone (r := .readDraft slot reserve) (by cases reserve <;> simp [State.reserving])
      ((serveReadDraft_listed hslotOf (hlisted _) reserve).trans ?_)
    rw [reserving_hold, draftAnswer_hold]
  refine ⟨fun view => hdone (r := .readAudits slot view) rfl ?_, hdone (r := .readSettings slot) rfl ?_, hdraft false,
    hdraft true, hdone (r := .readFaults slot) rfl ?_⟩
  · exact (serveReadAudits_listed hslotOf (hlisted _) view).trans (by rw [auditBody_hold, hheld])
  · exact (serveReadSettings_listed hslotOf (hlisted _)).trans (by rw [hheld])
  · exact (serveReadFaults_listed hrosterOf (hlisted _)).trans (by rw [hheld])

end Sys2Proof.Machine

namespace Sys2Proof.Machine

/-! ## Fields of a page's body (chapter 11, page layouts) -/

/-- A run of bytes lies in a body at an offset. -/
def LiesAt (body : List Byte) (off : Nat) (part : List Byte) : Prop := part <+: body.drop off

@[simp] theorem length_be1 (n : Nat) : (be1 n).length = 1 := rfl

@[simp] theorem length_be2 (n : Nat) : (be2 n).length = 2 := rfl

@[simp] theorem length_mark (b : Bool) : (mark b).length = 1 := rfl

@[simp] theorem length_flatMap_be2 (l : List Nat) : (l.flatMap be2).length = 2 * l.length := by
  simp [List.length_flatMap, Nat.mul_comm]

section
variable {body part l m : List Byte} {off lo hi n page : Nat} {b : Byte}

theorem liesAt_padBody (l : List Byte) : LiesAt (padBody l) 0 l := List.prefix_append ..

/-- A body laid out as one field after another. -/
theorem liesAt_append : LiesAt body off (l ++ m) ↔ LiesAt body off l ∧ LiesAt body (off + l.length) m := by
  simp only [LiesAt, ← List.drop_drop]
  constructor
  · rintro ⟨t, ht⟩
    rw [← ht]
    exact ⟨⟨m ++ t, by simp⟩, ⟨t, by simp⟩⟩
  · rintro ⟨⟨t, ht⟩, h⟩
    rw [← ht, List.drop_left] at h
    rw [← ht]
    exact (List.prefix_append_right_inj l).mpr h

/-- Members of one length, one after another. -/
theorem liesAt_flatMap {α : Type} {f : α → List Byte} {xs : List α} (hf : ∀ x, (f x).length = n)
    (h : LiesAt body off (xs.flatMap f)) {k : Nat} (hk : k < xs.length) : LiesAt body (off + n * k) (f xs[k]) := by
  induction xs generalizing off k with
  | nil => exact absurd hk (Nat.not_lt_zero k)
  | cons x xs ih =>
    obtain ⟨hx, hxs⟩ := liesAt_append.mp (List.flatMap_cons ▸ h)
    cases k with
    | zero => exact hx
    | succ k =>
      rw [hf] at hxs
      have hmember := ih hxs (Nat.lt_of_succ_lt_succ hk)
      rwa [Nat.add_assoc, Nat.add_comm n, ← Nat.mul_succ] at hmember

theorem getD_of_liesAt (h : LiesAt body off [b]) : body.getD off 0 = b := by
  have hget := List.prefix_iff_getElem?.mp h 0 Nat.zero_lt_one
  rw [List.getElem?_drop, Nat.add_zero] at hget
  rw [List.getD_eq_getElem?_getD, hget]
  rfl

theorem byteAt_of_liesAt (h : LiesAt body off (be1 n)) (hn : n ≤ 255) : byteAt body off = n := by
  rw [byteAt, getD_of_liesAt h, BitVec.toNat_ofNat, Nat.mod_eq_of_lt (by omega)]

theorem halfAt_of_liesAt (h : LiesAt body off (be2 n)) (hn : n ≤ 65535) : halfAt body off = n := by
  have h : LiesAt body off ([BitVec.ofNat 8 (n / 256)] ++ [BitVec.ofNat 8 n]) := h
  obtain ⟨hhi, hlo⟩ := liesAt_append.mp h
  rw [List.length_singleton] at hlo
  rw [halfAt, byteAt, byteAt, getD_of_liesAt hhi, getD_of_liesAt hlo, BitVec.toNat_ofNat, BitVec.toNat_ofNat]
  omega

theorem ranged_byteAt (h : LiesAt body off (be1 n)) (hn : lo ≤ n ∧ n ≤ hi) (hhi : hi ≤ 255) :
    ranged lo hi page off (byteAt body off) = n := by
  rw [byteAt_of_liesAt h (hn.2.trans hhi)]
  exact if_pos hn

theorem ranged_halfAt (h : LiesAt body off (be2 n)) (hn : lo ≤ n ∧ n ≤ hi) (hhi : hi ≤ 65535) :
    ranged lo hi page off (halfAt body off) = n := by
  rw [halfAt_of_liesAt h (hn.2.trans hhi)]
  exact if_pos hn

theorem markAt_of_liesAt {x : Bool} (h : LiesAt body off (mark x)) : markAt page body off = x := by
  have h : LiesAt body off (be1 x.toNat) := by cases x <;> exact h
  rw [markAt, ranged_byteAt h ⟨Nat.zero_le _, x.toNat_le⟩ (by decide)]
  cases x <;> rfl

/-! ## Roster pages (R39, R138) -/

theorem length_limitBytes (x : Limit) : (limitBytes x).length = 3 := by cases x <;> rfl

theorem limitAt_of_liesAt {x : Limit} (h : LiesAt body off (limitBytes x)) (hx : x.inRange lo) :
    limitAt lo page body off = x := by
  cases x with
  | follow =>
    obtain ⟨hmark, -⟩ := liesAt_append.mp h
    rw [limitAt, markAt_of_liesAt hmark, if_pos rfl]
  | value v =>
    obtain ⟨hmark, hv⟩ := liesAt_append.mp h
    rw [length_mark] at hv
    rw [limitAt, markAt_of_liesAt hmark, if_neg Bool.false_ne_true, ranged_halfAt hv hx le_rfl]

theorem length_rosterBytes (x : Slot) : (rosterBytes x).length = 30 := by
  simp [rosterBytes, length_limitBytes]

/-- R39: the numbers of a slot's roster page are in their ranges. -/
def Slot.rosterable (x : Slot) : Prop :=
  (1 ≤ x.addr ∧ x.addr ≤ 8) ∧ x.model ≤ 65535 ∧ x.regItem ≤ 64 ∧ (∀ c : Fin 4, x.coins[c.val] ≤ 65535)
    ∧ x.note ≤ 65535 ∧ x.reg.inRange

/-- R39, R58: what its roster page holds of a slot. -/
def Slot.rostered (x : Slot) : Slot :=
  { Slot.unlisted with
    table := if x.listed then .absent else .unlisted
    seg := x.seg, addr := x.addr, model := x.model, regItem := x.regItem, coins := x.coins, note := x.note
    due := if x.listed then DueRecord.listed else DueRecord.discarded
    reg := x.reg }

theorem listed_rostered (x : Slot) : x.rostered.listed = x.listed := by
  unfold Slot.rostered
  cases x.listed <;> rfl

theorem seg_of_segNumber (g : SegId) : (if segNumber g = 0 then SegId.a else SegId.b) = g := by cases g <;> rfl

theorem slotFrom_of_liesAt {x : Slot} (h : LiesAt body off (rosterBytes x)) (hx : x.rosterable) :
    slotFrom page body off = x.rostered := by
  simp only [rosterBytes, liesAt_append, and_assoc, List.length_append, length_mark, length_be1, length_be2,
    length_flatMap_be2, length_limitBytes, Vector.length_toList, Nat.reduceMul, Nat.reduceAdd] at h
  obtain ⟨hlisted, hseg, haddr, hmodel, hitem, hcoins, hnote, henabled, htarget, hdeadband, hwindow, hstep, hlmin, hlmax,
    hpriority⟩ := h
  obtain ⟨raddr, rmodel, ritem, rcoins, rnote, rtarget, rdeadband, rwindow, rstep, rlmin, rlmax, rpriority⟩ := hx
  have hsegBound : 0 ≤ segNumber x.seg ∧ segNumber x.seg ≤ 1 := by cases x.seg <;> decide
  have hcoin : (Vector.ofFn fun c : Fin 4 => halfAt body (off + 6 + 2 * c.val)) = x.coins := by
    refine Vector.ext fun c hc => ?_
    have hpart := liesAt_flatMap (fun _ => length_be2 _) hcoins (k := c) (by simpa using hc)
    rw [Vector.getElem_toList] at hpart
    rw [Vector.getElem_ofFn]
    exact halfAt_of_liesAt hpart (rcoins ⟨c, hc⟩)
  simp only [slotFrom, markAt_of_liesAt hlisted, ranged_byteAt hseg hsegBound (by decide),
    ranged_byteAt haddr raddr (by decide), halfAt_of_liesAt hmodel rmodel,
    ranged_byteAt hitem ⟨Nat.zero_le _, ritem⟩ (by decide), hcoin, halfAt_of_liesAt hnote rnote,
    markAt_of_liesAt henabled, ranged_halfAt htarget rtarget (by decide),
    ranged_byteAt hdeadband ⟨Nat.zero_le _, rdeadband⟩ (by decide), ranged_halfAt hwindow rwindow (by decide),
    ranged_byteAt hstep rstep (by decide), limitAt_of_liesAt hlmin rlmin, limitAt_of_liesAt hlmax rlmax,
    ranged_byteAt hpriority ⟨Nat.zero_le _, rpriority⟩ (by decide), seg_of_segNumber]
  rfl

theorem rosterSlots_getElem (k j : Fin 4) : (rosterSlots k)[j.val]'(j.isLt) = ⟨4 * k.val + j.val, by omega⟩ := by
  fin_cases j <;> rfl

/-- R39: a slot lies in its place of its roster page. -/
theorem liesAt_rosterBody (s : State) (k j : Fin 4) : LiesAt (padBody (rosterBody s k)) (30 * j.val)
    (rosterBytes (s.slot ⟨4 * k.val + j.val, by omega⟩)) := by
  have h := liesAt_flatMap (f := fun i => rosterBytes (s.slot i)) (fun _ => length_rosterBytes _)
    (liesAt_padBody (rosterBody s k)) (k := j.val) j.isLt
  rwa [Nat.zero_add, rosterSlots_getElem] at h

/-! ## Settings pages (R98, R149) -/

/-- R98: a slot's settings page gives its Active image and its pending outcome to a slot of the same model. -/
theorem settingsFrom_of_liesAt {x y : Slot} (h : LiesAt body 0 (settingsBody x)) (hmodel : y.model = x.model)
    (rmodel : x.model ≤ 65535)
    (ractive : ∀ l, x.active = some l → 1 ≤ l.length ∧ l.length ≤ 64 ∧ ∀ v ∈ l, v ≤ 65535)
    (routcome : ∀ v, x.outcome = some v → v ≤ 65535 ∧ x.active.isSome = true) :
    settingsFrom page body y = { y with active := x.active, draft := Draft.cleanOver x.active, outcome := x.outcome } := by
  have hlen : (x.active.getD []).length ≤ 64 := by
    cases hx : x.active with
    | none => simp
    | some l => exact (ractive l hx).2.1
  have hfield : 2 * (x.active.getD []).length + 2 * (64 - (x.active.getD []).length) = 128 := by omega
  simp only [settingsBody, liesAt_append, and_assoc, List.length_append, length_mark, length_be1, length_be2,
    length_flatMap_be2, List.length_replicate, hfield, Nat.zero_add, Nat.reduceAdd] at h
  obtain ⟨hpresent, hcount, hvalues, -, hcode, hpending, hlevel⟩ := h
  have hactive : settingsValues page body = x.active := by
    rw [settingsValues, markAt_of_liesAt hpresent]
    cases hx : x.active with
    | none => rfl
    | some l =>
      obtain ⟨hone, hmost, hsmall⟩ := ractive l hx
      rw [hx] at hcount hvalues
      rw [ranged_byteAt hcount ⟨hone, hmost⟩ (by decide)]
      refine congrArg some (List.ext_getElem (by simp) fun k hk hl => ?_)
      rw [List.getElem_map, List.getElem_range]
      exact halfAt_of_liesAt (liesAt_flatMap (fun _ => length_be2 _) hvalues hl) (hsmall _ (List.getElem_mem hl))
  have houtcome : (if x.active.isSome && markAt page body 132 then some (halfAt body 133) else none) = x.outcome := by
    rw [markAt_of_liesAt hpending]
    cases hx : x.outcome with
    | none => simp
    | some v =>
      obtain ⟨hsmall, hsome⟩ := routcome v hx
      rw [hx] at hlevel
      rw [halfAt_of_liesAt hlevel hsmall, hsome]
      rfl
  simp only [settingsFrom, halfAt_of_liesAt hcode rmodel, if_pos hmodel.symm, hactive, houtcome]

/-! ## Page 0 (R160) -/

theorem length_ruleBytes (r : Option WatchRule) : (ruleBytes r).length = 9 := by cases r <;> rfl

theorem ruleAt_of_liesAt {r : Option WatchRule} (h : LiesAt body off (ruleBytes r)) : ruleAt body off = r := by
  cases r with
  | none =>
    have h : LiesAt body off (mark false ++ List.replicate 8 0) := h
    rw [ruleAt, markAt_of_liesAt (liesAt_append.mp h).1, if_neg Bool.false_ne_true]
  | some r =>
    have h : LiesAt body off (mark true ++ be1 r.slotValue.toNat ++ be1 r.slotMask.toNat ++ mark r.cls.isNone
        ++ [r.cls.getD 0] ++ [r.codeValue] ++ [r.codeMask] ++ mark r.subject.isSome ++ [r.subject.getD 0]) := by
      simpa [ruleBytes] using h
    simp only [liesAt_append, and_assoc, List.length_append, length_mark, length_be1, List.length_singleton,
      Nat.reduceAdd] at h
    obtain ⟨hused, hvalue, hmask, hany, hcls, hcode, hcodeMask, hcompare, hsubject⟩ := h
    have hfive (v : BitVec 5) : 0 ≤ v.toNat ∧ v.toNat ≤ 31 := ⟨Nat.zero_le _, Nat.le_of_lt_succ v.isLt⟩
    simp only [ruleAt, markAt_of_liesAt hused, if_true, ranged_byteAt hvalue (hfive _) (by decide),
      ranged_byteAt hmask (hfive _) (by decide), BitVec.ofNat_toNat, BitVec.setWidth_eq, markAt_of_liesAt hany,
      getD_of_liesAt hcls, getD_of_liesAt hcode, getD_of_liesAt hcodeMask, markAt_of_liesAt hcompare,
      getD_of_liesAt hsubject]
    obtain ⟨_, _, cls, _, _, subject⟩ := r
    cases cls <;> cases subject <;> rfl

theorem watchOf_of_liesAt {s : State} (h : LiesAt body 0 (formatBody s)) :
    watchOf body = s.watch ∧ hasFormatMark body = true ∧ byteAt body 2 = s.node.toNat := by
  have h : LiesAt body 0 (be1 0x48 ++ be1 0x4C ++ be1 s.node.toNat ++ be1 (watchModeCode s.watch.mode)
      ++ mark s.watch.presence ++ s.watch.rules.toList.flatMap ruleBytes) := h
  simp only [liesAt_append, and_assoc, List.length_append, length_mark, length_be1, Nat.reduceAdd, Nat.zero_add] at h
  obtain ⟨hfirst, hsecond, hnode, hmode, hpresence, hrules⟩ := h
  have hnodeBound := s.node.isLt
  refine ⟨?_, ?_, byteAt_of_liesAt hnode (by omega)⟩
  · have hrule : (Vector.ofFn fun k : Fin 8 => ruleAt body (5 + 9 * k.val)) = s.watch.rules := by
      refine Vector.ext fun k hk => ?_
      have hpart := liesAt_flatMap length_ruleBytes hrules (k := k) (by simpa using hk)
      rw [Vector.getElem_toList] at hpart
      rw [Vector.getElem_ofFn]
      exact ruleAt_of_liesAt hpart
    have hcode : 0 ≤ watchModeCode s.watch.mode ∧ watchModeCode s.watch.mode ≤ 2 := by
      cases s.watch.mode <;> decide
    simp only [watchOf, hrule, markAt_of_liesAt hpresence, ranged_byteAt hmode hcode (by decide)]
    obtain ⟨mode, rules, presence⟩ := s.watch
    cases mode <;> rfl
  · rw [hasFormatMark, byteAt_of_liesAt hfirst (by decide), byteAt_of_liesAt hsecond (by decide)]
    rfl

end

/-- Settles O53: the fields of each page at their offsets. -/
theorem slotPagesRoundTrip : Obligations.SlotPagesRoundTrip := by
  unfold Obligations.SlotPagesRoundTrip
  refine ⟨?_, ?_, fun s => watchOf_of_liesAt (liesAt_padBody (formatBody s))⟩
  · intro s k j m hrange x y
    have hin : (⟨4 * k.val + j.val, by omega⟩ : SlotIx) ∈ rosterSlots k := by
      rw [← rosterSlots_getElem]
      exact List.getElem_mem _
    have hy : y = x.rostered := slotFrom_of_liesAt (liesAt_rosterBody s k j) (hrange _ hin)
    refine ⟨?_, fun hl => ?_, ?_⟩
    · rw [hy, listed_rostered]
    · rw [hy, Slot.rostered, if_pos hl]
    · rw [hy]
      exact ⟨rfl, rfl, rfl, rfl, rfl, rfl, rfl⟩
  · intro x y m hmodel rmodel ractive routcome z
    have hz := settingsFrom_of_liesAt (page := m) (liesAt_padBody (settingsBody x)) hmodel rmodel ractive routcome
    rw [show z = _ from hz]
    exact ⟨rfl, rfl, rfl, rfl⟩

end Sys2Proof.Machine

namespace Sys2Proof.Machine

/-! ## Book pages and closed-period pages (R60 to R63) -/

@[simp] theorem length_be4 (n : Nat) : (be4 n).length = 4 := rfl

@[simp] theorem length_totalsBytes (v : Vector Total 24) : (totalsBytes v).length = 120 := by
  simp [totalsBytes, List.length_flatMap]

@[simp] theorem length_baselineBytes (b : Option Half) : (baselineBytes b).length = 3 := by cases b <;> rfl

section
variable {body : List Byte} {off n page : Nat}

theorem wordAt_of_liesAt (h : LiesAt body off (be4 n)) (hn : n ≤ 4294967295) : wordAt body off = n := by
  obtain ⟨hhigh, hlow⟩ := liesAt_append.mp h
  have hlow : LiesAt body (off + 2) (be2 (n % 65536)) := by
    have hsame : be2 (n % 65536) = be2 n := by
      simp only [be2, List.cons.injEq, and_true]
      exact ⟨BitVec.eq_of_toNat_eq (by simp only [BitVec.toNat_ofNat]; omega),
        BitVec.eq_of_toNat_eq (by simp only [BitVec.toNat_ofNat]; omega)⟩
    rwa [hsame]
  rw [wordAt, halfAt_of_liesAt hhigh (by omega), halfAt_of_liesAt hlow (by omega)]
  omega

theorem totalsAt_of_liesAt {v : Vector Total 24} (h : LiesAt body off (totalsBytes v))
    (hv : ∀ m : Fin 24, v[m.val].inRange) : totalsAt page body off = v := by
  obtain ⟨hvals, hmarks⟩ := liesAt_append.mp h
  rw [List.length_flatMap] at hmarks
  simp only [length_be4, List.map_const', Vector.length_toList, List.sum_replicate, smul_eq_mul, Nat.reduceMul] at hmarks
  refine Vector.ext fun k hk => ?_
  have hval := liesAt_flatMap (fun _ => length_be4 _) hvals (k := k) (by simpa using hk)
  have hmark := liesAt_flatMap (fun _ => length_mark _) hmarks (k := k) (by simpa using hk)
  rw [Vector.getElem_toList] at hval hmark
  rw [Nat.one_mul] at hmark
  simp only [totalsAt, Vector.getElem_ofFn, wordAt_of_liesAt hval (hv ⟨k, hk⟩), markAt_of_liesAt hmark]

theorem baselineAt_of_liesAt {b : Option Half} (h : LiesAt body off (baselineBytes b)) :
    baselineAt page body off = b := by
  cases b with
  | none => rw [baselineAt, markAt_of_liesAt (liesAt_append.mp h).1, if_neg Bool.false_ne_true]
  | some r =>
    obtain ⟨hpresent, hval⟩ := liesAt_append.mp h
    rw [length_mark] at hval
    rw [baselineAt, markAt_of_liesAt hpresent, if_pos rfl, halfAt_of_liesAt hval (Nat.le_of_lt_succ r.isLt),
      BitVec.ofNat_toNat, BitVec.setWidth_eq]

theorem stampField_of_liesAt {t : Option Stamp} (h : LiesAt body off (stampField t)) :
    (if markAt page body off then some (stampAt page body (off + 1)) else none) = t := by
  cases t with
  | none =>
    have h : LiesAt body off (mark false ++ List.replicate 5 0) := h
    rw [markAt_of_liesAt (liesAt_append.mp h).1, if_neg Bool.false_ne_true]
  | some t =>
    have h : LiesAt body off (mark true ++ (be4 t.clock.toNat ++ mark t.unset)) := h
    simp only [liesAt_append, length_mark, length_be4] at h
    obtain ⟨hpresent, hclock, hunset⟩ := h
    rw [markAt_of_liesAt hpresent, if_pos rfl, stampAt, wordAt_of_liesAt hclock (Nat.le_of_lt_succ t.clock.isLt),
      markAt_of_liesAt hunset, BitVec.ofNat_toNat, BitVec.setWidth_eq]

/-- R63: what a book page gives a book: everything but the closed period. -/
theorem bookFrom_of_liesAt {b : Book} (old : Book) (h : LiesAt body 0 (bookBody b)) (hb : b.inRange) :
    bookFrom page body old = { b with
      closed := old.closed, lifetime := old.lifetime, lostClosed := old.lostClosed, period := old.period
      closeStamp := old.closeStamp } := by
  have hlen : (b.baselines.toList.flatMap baselineBytes).length = 72 := by simp [List.length_flatMap]
  simp only [bookBody, liesAt_append, and_assoc, List.length_append, length_mark, length_be2, length_totalsBytes,
    List.length_singleton, hlen, Nat.zero_add, Nat.reduceAdd] at h
  obtain ⟨hcurrent, hbaselines, hknown, hepoch, hpaid, haward, hdiscont, hlost, hmodel⟩ := h
  obtain ⟨htotals, rpaid, raward, rdiscont⟩ := hb
  have hbaseline : (Vector.ofFn fun k : Fin 24 => baselineAt page body (120 + 3 * k.val)) = b.baselines := by
    refine Vector.ext fun k hk => ?_
    have hpart := liesAt_flatMap length_baselineBytes hbaselines (k := k) (by simpa using hk)
    rw [Vector.getElem_toList] at hpart
    rw [Vector.getElem_ofFn]
    exact baselineAt_of_liesAt hpart
  have hepochs : (if b.epoch.isSome then some (b.epoch.getD 0) else none) = b.epoch := by cases b.epoch <;> rfl
  simp only [bookFrom, totalsAt_of_liesAt hcurrent fun m => (htotals m).1, hbaseline, markAt_of_liesAt hknown,
    getD_of_liesAt hepoch, hepochs, halfAt_of_liesAt hpaid rpaid, halfAt_of_liesAt haward raward,
    halfAt_of_liesAt hdiscont rdiscont, markAt_of_liesAt hlost, markAt_of_liesAt hmodel]

/-- R63: what a closed-period page gives a book: the closed period and the lifetime totals. -/
theorem closedFrom_of_liesAt {b : Book} (old : Book) (h : LiesAt body 0 (closedBody b)) (hb : b.inRange) :
    closedFrom page body old = { old with
      closed := b.closed, lifetime := b.lifetime, lostClosed := b.lostClosed, period := b.period
      closeStamp := b.closeStamp } := by
  simp only [closedBody, liesAt_append, and_assoc, List.length_append, length_mark, length_be2, length_totalsBytes,
    Nat.zero_add, Nat.reduceAdd] at h
  obtain ⟨hclosed, hlifetime, hlost, hperiod, hstamp⟩ := h
  simp only [closedFrom, totalsAt_of_liesAt hclosed fun m => (hb.1 m).2.1,
    totalsAt_of_liesAt hlifetime fun m => (hb.1 m).2.2, markAt_of_liesAt hlost,
    halfAt_of_liesAt hperiod (Nat.le_of_lt_succ b.period.isLt), BitVec.ofNat_toNat, BitVec.setWidth_eq,
    stampField_of_liesAt (page := page) hstamp]

end

/-- Settles O51: the fields of the two pages at their offsets; between them they hold every field of the book. -/
theorem bookPagesRoundTrip : Obligations.BookPagesRoundTrip := by
  unfold Obligations.BookPagesRoundTrip
  intro b old m n hb
  rw [closedFrom_of_liesAt _ (liesAt_padBody (closedBody b)) hb, bookFrom_of_liesAt old (liesAt_padBody (bookBody b)) hb]

end Sys2Proof.Machine

namespace Sys2Proof.Machine

/-! ## One entry of a report (R64 to R70) -/

section
variable {meters : List (Fin 24)} {role : FoldRole} {change : Bool} {acc : FoldAcc} {m : Fin 24} {r : Half} {b : Book}

theorem foldEntry_other (h : ¬ m ∈ meters) : foldEntry meters role change acc (m, r) = acc :=
  if_neg (by simpa using h)

theorem foldEntry_fold (h : m ∈ meters) (hd : foldAmount change acc.book.baselines[m.val] r ≤ foldLimit role m) :
    foldEntry meters role change acc (m, r) = { acc with
      book := acc.book.fold m (foldAmount change acc.book.baselines[m.val] r) r
      amounts := acc.amounts.set m.val (foldAmount change acc.book.baselines[m.val] r) } := by
  unfold foldEntry
  dsimp only
  rw [if_pos (by simpa using h), if_pos hd]

theorem foldEntry_gap (h : m ∈ meters) (hd : foldLimit role m < foldAmount change acc.book.baselines[m.val] r) :
    foldEntry meters role change acc (m, r) = { acc with
      book := acc.book.gap m r, gaps := acc.gaps ++ [m] } := by
  unfold foldEntry
  dsimp only
  rw [if_pos (by simpa using h), if_neg (Nat.not_le.mpr hd)]

/-- R65 to R67: the amount, with the difference written in the numbers. -/
theorem foldAmount_eq (change : Bool) (base : Option Half) (r : Half) : foldAmount change base r
    = if change then r.toNat else match base with
      | none => 0
      | some b => (r.toNat + 65536 - b.toNat) % 65536 := by
  cases base with
  | none => rfl
  | some b =>
    have hb := b.isLt
    have hsub : (r - b).toNat = (r.toNat + 65536 - b.toNat) % 65536 := by
      rw [BitVec.toNat_sub]
      omega
    simp only [foldAmount, hsub]

theorem foldLimit_eq (role : FoldRole) (m : Fin 24) : foldLimit role m
    = if role = .catchUp then (if m = 15 ∨ m = 16 then 115200 else 4000) else if m = 15 ∨ m = 16 then 7200 else 250 := by
  cases role <;> simp [foldLimit, isTimeMeter]

theorem totalAdd_eq (t : Total) (d : Nat) :
    t.add d = { val := min (t.val + d) 4294967295, sat := t.sat || decide (4294967295 < t.val + d) } := rfl

theorem getElem_set_other {α : Type} {k m : Fin 24} (v : Vector α 24) (x : α) (h : k ≠ m) :
    (v.set m.val x)[k.val] = v[k.val] :=
  Vector.getElem_set_ne _ _ fun hkm => h (Fin.ext hkm.symm)

/-! ### What a fold keeps (R60, R62) -/

/-- R64 to R70: what an amount folded and a discontinuity keep of a book, an entry keeps. -/
theorem foldEntry_keeps {P : Book → Prop} (hfold : ∀ b m d r, P b → P (b.fold m d r)) (hgap : ∀ b m r, P b → P (b.gap m r))
    (h : P acc.book) (entry : Fin 24 × Half) : P (foldEntry meters role change acc entry).book := by
  obtain ⟨m, r⟩ := entry
  by_cases hm : m ∈ meters
  · rcases Nat.lt_or_ge (foldLimit role m) (foldAmount change acc.book.baselines[m.val] r) with hd | hd
    · rw [foldEntry_gap hm hd]
      exact hgap _ m r h
    · rw [foldEntry_fold hm hd]
      exact hfold _ m _ r h
  · rwa [foldEntry_other hm]

/-- R64 to R71: and so does a report, with its epoch. -/
theorem foldReport_keeps {P : Book → Prop} (hfold : ∀ b m d r, P b → P (b.fold m d r)) (hgap : ∀ b m r, P b → P (b.gap m r))
    (hepoch : ∀ b e, P b → P { b with epoch := e }) (h : P b) (meters : List (Fin 24)) (role : FoldRole)
    (report : MeterReport) : P (b.foldReport meters role report).book := by
  have hentries (entries : List (Fin 24 × Half)) (acc : FoldAcc) (h : P acc.book) :
      P (entries.foldl (foldEntry meters role (b.epochChanged report.epoch)) acc).book := by
    induction entries generalizing acc with
    | nil => exact h
    | cons entry entries ih => exact ih _ (foldEntry_keeps hfold hgap h entry)
  exact hepoch _ _ (hentries report.entries _ h)

/-- R60, R62: a book whose totals are in their order and whose numbers are in their ranges. -/
def Book.kept (b : Book) : Prop := b.lawful ∧ b.inRange

theorem Total.add_le {t u : Total} (h : t.val ≤ u.val) (d : Nat) : (t.add d).val ≤ (u.add d).val := by
  simp only [totalAdd_eq]
  omega

theorem Total.add_inRange (t : Total) (d : Nat) : (t.add d).inRange := Nat.min_le_right ..

theorem Book.kept.fold (h : b.kept) (m : Fin 24) (d : Nat) (r : Half) : (b.fold m d r).kept := by
  obtain ⟨hlawful, htotals, hcounters⟩ := h
  have hmeter (k : Fin 24) : (b.fold m d r).current[k.val].val ≤ (b.fold m d r).lifetime[k.val].val
      ∧ (b.fold m d r).current[k.val].inRange ∧ (b.fold m d r).lifetime[k.val].inRange := by
    by_cases hk : k = m
    · subst hk
      simp only [Book.fold, Vector.getElem_set_self]
      exact ⟨Total.add_le (hlawful k) d, Total.add_inRange .., Total.add_inRange ..⟩
    · simp only [Book.fold, getElem_set_other _ _ hk]
      exact ⟨hlawful k, (htotals k).1, (htotals k).2.2⟩
  exact ⟨fun k => (hmeter k).1, fun k => ⟨(hmeter k).2.1, (htotals k).2.1, (hmeter k).2.2⟩, hcounters⟩

theorem Book.kept.gap (h : b.kept) (m : Fin 24) (r : Half) : (b.gap m r).kept := by
  obtain ⟨hlawful, htotals, hpaid, haward, -⟩ := h
  exact ⟨hlawful, htotals, hpaid, haward, Nat.min_le_right ..⟩

theorem Book.kept.copied (h : b.kept) (stamp : Stamp) : (b.copied stamp).kept := by
  obtain ⟨-, htotals, hcounters⟩ := h
  have hzero (k : Fin 24) : (b.copied stamp).current[k.val] = Total.zero := by
    simp only [Book.copied, Vector.getElem_replicate]
  refine ⟨fun k => ?_, fun k => ⟨?_, (htotals k).1, (htotals k).2.2⟩, hcounters⟩
  · rw [hzero]
    exact Nat.zero_le _
  · rw [hzero]
    exact Nat.zero_le _

end

/-! ## The derived figures (R75 to R78) -/

/-- R59: a meter counts in the figures unless the identity record is known and does not list it. -/
def counted (identity : Option Identity) (k : Fin 24) : Prop := ∀ r, identity = some r → k ∈ r.meters

section
variable {identity : Option Identity} {v : Vector Total 24} {k : Fin 24}

theorem figureMeter_counted (h : counted identity k) : figureMeter identity v k = v[k.val] := by
  cases identity with
  | none => rfl
  | some r => exact if_pos (by simpa using h r rfl)

theorem figureMeter_left_out (h : ¬ counted identity k) : figureMeter identity v k = Total.zero := by
  cases identity with
  | none => exact absurd (fun _ hr => nomatch hr) h
  | some r =>
    refine if_neg fun hmem => h fun r' hr => ?_
    obtain rfl := Option.some.inj hr
    simpa using hmem

theorem figureMeter_sat : (figureMeter identity v k).sat = true ↔ counted identity k ∧ v[k.val].sat = true := by
  by_cases h : counted identity k
  · simp [figureMeter_counted h, h]
  · simp [figureMeter_left_out h, h, Total.zero]

/-- R75: a figure is marked when a total that it uses and that counts is saturated, in whatever order they are named. -/
theorem anySaturated_iff {ks ls : List (Fin 24)} (h : ∀ k, k ∈ ls ↔ k ∈ ks) :
    anySaturated (ls.map (figureMeter identity v)) = true ↔ ∃ k ∈ ks, counted identity k ∧ v[k.val].sat = true := by
  simp [anySaturated, figureMeter_sat, h]

end

/-- R75: the half that rounds up, over twice the divisor. -/
theorem roundHalfUp_eq (a b : Nat) : roundHalfUp a b = (2 * a + b) / (2 * b) := by
  rw [roundHalfUp, ← Nat.div_div_eq_div_mul]
  congr 1
  omega

section
variable {a paid time count : Nat} {sat : Bool}

theorem replayPercent_zero : replayPercent a 0 sat = { val := 0, noData := true, capped := false, sourceSat := sat } := rfl

theorem replayPercent_pos (h : 0 < paid) : replayPercent a paid sat =
    { val := min 9999 ((2 * (a * 1000) + paid) / (2 * paid)), noData := false
      capped := decide (9999 < (2 * (a * 1000) + paid) / (2 * paid)), sourceSat := sat } := by
  rw [replayPercent, if_neg (Nat.pos_iff_ne_zero.mp h), rawPercent, roundHalfUp_eq, Nat.min_comm]

theorem replayPercent_sourceSat : (replayPercent a paid sat).sourceSat = sat := by
  unfold replayPercent
  split <;> rfl

/-- R77: an average time: it is never capped. -/
theorem average_facts : (average time count sat).capped = false ∧ (average time count sat).sourceSat = sat
    ∧ (count = 0 → (average time count sat).noData = true ∧ (average time count sat).val = 0)
    ∧ (0 < count → (average time count sat).noData = false
        ∧ (average time count sat).val = (2 * time + count) / (2 * count)) := by
  unfold average
  split
  · next h => exact ⟨rfl, rfl, fun _ => ⟨rfl, rfl⟩, fun hpos => absurd h (Nat.pos_iff_ne_zero.mp hpos)⟩
  · next h => exact ⟨rfl, rfl, fun hzero => absurd hzero h, fun _ => ⟨rfl, roundHalfUp_eq time count⟩⟩

end

/-- Settles O57: an entry by whether its amount is within its limit, the kept order over the entries of a report, and
the figures one by one. -/
theorem foldRules : Obligations.FoldRules := by
  unfold Obligations.FoldRules
  refine ⟨fun meters role change acc m r => ?_, fun b meters role report stamp hlawful hrange => ?_,
    fun identity coins note v => ?_⟩
  · intro acc' b b' time limit d add
    have hd : foldAmount change acc.book.baselines[m.val] r = d := foldAmount_eq ..
    have hlimit : foldLimit role m = limit := foldLimit_eq role m
    refine ⟨fun hm => foldEntry_other hm, fun hm => ?_⟩
    rcases Nat.lt_or_ge limit d with hgap | hfold
    · have hacc : acc' = { acc with book := acc.book.gap m r, gaps := acc.gaps ++ [m] } :=
        foldEntry_gap hm (by rwa [hd, hlimit])
      rw [show b' = acc.book.gap m r from congrArg FoldAcc.book hacc, hacc]
      exact ⟨Vector.getElem_set_self _, rfl, rfl, rfl, rfl, rfl,
        fun k hk => ⟨getElem_set_other _ _ hk, rfl, rfl, rfl⟩, fun hle => absurd hle (Nat.not_le.mpr hgap),
        fun _ => ⟨rfl, rfl, rfl, rfl, rfl⟩⟩
    · have hacc : acc' = { acc with book := acc.book.fold m d r, amounts := acc.amounts.set m.val d } := by
        have h := foldEntry_fold (role := role) (change := change) (acc := acc) (r := r) hm (by rwa [hd, hlimit])
        rwa [hd] at h
      rw [show b' = acc.book.fold m d r from congrArg FoldAcc.book hacc, hacc]
      exact ⟨Vector.getElem_set_self _, rfl, rfl, rfl, rfl, rfl,
        fun k hk => ⟨getElem_set_other _ _ hk, getElem_set_other _ _ hk, getElem_set_other _ _ hk,
          getElem_set_other _ _ hk⟩,
        fun _ => ⟨Vector.getElem_set_self _, Vector.getElem_set_self _, Vector.getElem_set_self _, rfl, rfl⟩,
        fun hlt => absurd hfold (Nat.not_le.mpr hlt)⟩
  · have hkept : b.kept := ⟨hlawful, hrange⟩
    have hfolded : (b.foldReport meters role report).book.kept :=
      foldReport_keeps (P := Book.kept) (fun _ m d r h => h.fold m d r) (fun _ m r h => h.gap m r) (fun _ _ h => h) hkept
        meters role report
    exact ⟨hfolded.1, hfolded.2, (hkept.copied stamp).1, (hkept.copied stamp).2⟩
  · intro f counts sat
    have hsat {ks ls : List (Fin 24)} (h : ∀ k, k ∈ ls ↔ k ∈ ks) :
        anySaturated (ls.map (figureMeter identity v)) = true ↔ sat ks := anySaturated_iff h
    refine ⟨fun k => (figureMeter identity v k).val, fun k => ⟨fun hk => ?_, fun hk => ?_⟩, rfl,
      ⟨rfl, decide_eq_true_iff, fun hzero => ?_, fun hpos => ?_, ?_⟩, fun q time count hq => ?_,
      rfl, decide_eq_true_iff, hsat (ls := [0, 1, 2, 3, 4]) fun _ => Iff.rfl⟩
    · exact congrArg Total.val (figureMeter_counted hk)
    · exact congrArg Total.val (figureMeter_left_out hk)
    · have hp : f.percent = replayPercent _ f.paid _ := rfl
      rw [hp, hzero, replayPercent_zero]
      exact ⟨rfl, rfl, rfl⟩
    · have hp : f.percent = replayPercent _ f.paid _ := rfl
      rw [hp, replayPercent_pos hpos]
      exact ⟨rfl, rfl, decide_eq_true_iff⟩
    · have hp : f.percent.sourceSat = anySaturated ([7, 8, 9, 10, 11, 12].map (figureMeter identity v)) :=
        replayPercent_sourceSat
      rw [hp]
      exact hsat fun _ => Iff.rfl
    · rcases hq with ⟨rfl, rfl, rfl⟩ | ⟨rfl, rfl, rfl⟩
      · obtain ⟨hcapped, hsource, hzero, hpos⟩ := average_facts (time := (figureMeter identity v 15).val)
          (count := (figureMeter identity v 14).val) (sat := anySaturated ([14, 15].map (figureMeter identity v)))
        exact ⟨hcapped, by rw [← hsat (ls := [14, 15]) (by decide), ← hsource]; rfl, hzero, hpos⟩
      · obtain ⟨hcapped, hsource, hzero, hpos⟩ := average_facts (time := (figureMeter identity v 16).val)
          (count := (figureMeter identity v 7).val) (sat := anySaturated ([7, 16].map (figureMeter identity v)))
        exact ⟨hcapped, by rw [← hsat (ls := [7, 16]) (by decide), ← hsource]; rfl, hzero, hpos⟩

end Sys2Proof.Machine

namespace Sys2Proof.Machine

/-! ## Set Items (R106, R107) -/

section
variable {p : PortId} {slot : Byte} {i : SlotIx} {r : Identity} {pairs : List (Byte × Half)} {s : State}

/-- R106: what Set Items asks of its pairs: 1 to 16 of them, for items of the table. -/
def Identity.takesPairs (r : Identity) (pairs : List (Byte × Half)) : Prop :=
  1 ≤ pairs.length ∧ pairs.length ≤ 16 ∧ ∀ e ∈ pairs, e.1.toNat ≤ r.ranges.length

/-- R106: the checks of Set Items for a listed, identified slot whose draft may be edited: first the pairs, then the
reservation. -/
theorem setItemsRefusal_eq (hslot : slotOf slot = some i) (hl : (s.slot i).table ≠ .unlisted)
    (hid : (s.slot i).identity = some r) (hpairs : ∀ e ∈ pairs, 1 ≤ e.1.toNat)
    (hd : (s.slot i).draft.state = .clean ∨ (s.slot i).draft.state = .edited)
    (ha : (s.slot i).active.isSome = true) :
    (¬ r.takesPairs pairs → setItemsRefusal p slot pairs s = some .badRequest)
    ∧ (r.takesPairs pairs → setItemsRefusal p slot pairs s
        = if (s.port p).reservation ≠ some i then some .noReservation else none) := by
  have hzero : pairs.any (fun e => e.1 == 0) = false := by
    rw [List.any_eq_false]
    intro e he h0
    have := hpairs e he
    simp [show e.1 = 0 by simpa using h0] at this
  have habove : pairs.any (fun e => decide (r.ranges.length < e.1.toNat)) = true
      ↔ ¬ ∀ e ∈ pairs, e.1.toNat ≤ r.ranges.length := by
    simp
  have hdraft : ¬ ((s.slot i).draft.state = .queued ∨ (s.slot i).draft.state = .delivering
      ∨ (s.slot i).active.isNone = true) := by
    rcases hd with hd | hd <;> simp [hd, Option.isSome_iff_ne_none.mp ha]
  simp only [setItemsRefusal, hslot, hzero, (listed_iff _).mpr hl, hid, habove, if_neg hdraft, Bool.false_eq_true,
    or_false, Bool.not_true, if_false]
  refine ⟨fun hunfit => ?_, fun ⟨hone, hmost, hitems⟩ => ?_⟩
  · by_cases hcount : pairs.length = 0 ∨ 16 < pairs.length
    · rw [if_pos hcount]
    · rw [if_neg hcount, if_pos fun hitems => hunfit ⟨by omega, by omega, hitems⟩]
  · rw [if_neg (by omega), if_neg (not_not.mpr hitems)]

/-- R97, R107: the value that a pair for an item writes. -/
theorem itemValue_eq {e : Byte × Half} (he : 1 ≤ e.1.toNat) : itemValue r e = match r.ranges[e.1.toNat - 1]? with
    | none => e.2.toNat
    | some (lo, hi) => max lo (min e.2.toNat hi) := by
  rw [itemValue, Identity.range, if_neg (Nat.one_le_iff_ne_zero.mp he)]
  cases r.ranges[e.1.toNat - 1]? <;> rfl

/-- R107: the pairs are written one after the other. -/
theorem setItems_draft (r : Identity) (pairs : List (Byte × Half)) (d : Draft) :
    pairs.foldl (fun d e => d.setItem r e) d = { d with
      values := pairs.foldl (fun l e => l.set (e.1.toNat - 1) (itemValue r e)) d.values
      touched := pairs.foldl (fun l e => l.set (e.1.toNat - 1) true) d.touched } := by
  induction pairs generalizing d with
  | nil => rfl
  | cons e pairs ih => exact ih (d.setItem r e)

/-- R107: a slot with the pairs written into its draft. -/
def Slot.itemsSet (x : Slot) (r : Identity) (pairs : List (Byte × Half)) : Slot :=
  { x with
    draft := { x.draft with
      values := pairs.foldl (fun l e => l.set (e.1.toNat - 1) (itemValue r e)) x.draft.values
      touched := pairs.foldl (fun l e => l.set (e.1.toNat - 1) true) x.draft.touched, state := .edited }
    confirmed := false }

/-- R103: the other master holds the slot's reservation. -/
def State.otherReserves (s : State) (p : PortId) (i : SlotIx) : Bool := (s.port (otherPort p)).reservation == some i

/-- R103, R107: the slot is written, and the other master's reservation on it is cleared. -/
def State.withItems (s : State) (p : PortId) (i : SlotIx) (y : Slot) : State :=
  (s.setSlot i y).modPort (otherPort p) fun z =>
    { z with reservation := if s.otherReserves p i then none else z.reservation }

/-- R107: the body of the answer. -/
def itemsBody (r : Identity) (pairs : List (Byte × Half)) (cleared : Bool) : List Byte :=
  listField (itemField r) pairs ++ be1 (draftStateCode .edited) ++ mark cleared

theorem withItems_hold (kind : Byte) (y : Slot) :
    (holdRequest p kind s).withItems p i y = holdRequest p kind (s.withItems p i y) := by
  cases p <;> rfl

theorem otherReserves_hold (kind : Byte) : (holdRequest p kind s).otherReserves p i = s.otherReserves p i := by
  cases p <;> rfl

theorem slot_withItems (y : Slot) : (s.withItems p i y).slot i = y := by
  rw [State.withItems, slot_modPort, slot_setSlot_same]

theorem withItems_store (y : Slot) : (s.withItems p i y).store = s.store := modPort_store ..

theorem modSlot_withItems (f : Slot → Slot) (y : Slot) : (s.withItems p i y).modSlot i f = s.withItems p i (f y) := by
  rw [modSlot_def, slot_withItems]
  cases p <;> simp [State.withItems, State.modPort, State.setPort, State.port, State.setSlot, otherPort]

/-- R107: an accepted Set Items writes the slot, and with a pair for the regulated item resets the window. -/
theorem setItems_eq : setItems p i r pairs s = answer p .done (itemsBody r pairs (s.otherReserves p i))
    (if (s.slot i).regItem ≠ 0 ∧ pairs.any (fun e => e.1.toNat == (s.slot i).regItem) then
      resetWindow i (dropOutcome i (s.withItems p i ((s.slot i).itemsSet r pairs)))
    else s.withItems p i ((s.slot i).itemsSet r pairs)) := by
  have hwritten : (if s.otherReserves p i then
        (s.setSlot i ((s.slot i).itemsSet r pairs)).modPort (otherPort p) fun y => { y with reservation := none }
      else s.setSlot i ((s.slot i).itemsSet r pairs)) = s.withItems p i ((s.slot i).itemsSet r pairs) := by
    unfold State.withItems
    cases s.otherReserves p i
    · exact (setPort_port ..).symm
    · rfl
  rw [← hwritten, setItems, setItems_draft]
  rfl

theorem serveSetItems_refused {status : Status} (h : setItemsRefusal p slot pairs s = some status) :
    serveSetItems p slot pairs s = refuseRequest p status s := by
  simp only [serveSetItems, h]

theorem serveSetItems_accepted (h : setItemsRefusal p slot pairs s = none) (hslot : slotOf slot = some i)
    (hid : (s.slot i).identity = some r) : serveSetItems p slot pairs s = setItems p i r pairs s := by
  simp only [serveSetItems, h, hslot, hid]

/-- R107: Set Items without a pair for the regulated item. -/
theorem setItems_unregulated (h : ∀ e ∈ pairs, e.1.toNat ≠ (s.slot i).regItem) : setItems p i r pairs s
    = answer p .done (itemsBody r pairs (s.otherReserves p i)) (s.withItems p i ((s.slot i).itemsSet r pairs)) := by
  have hnone : ¬ ((s.slot i).regItem ≠ 0 ∧ pairs.any (fun e => e.1.toNat == (s.slot i).regItem) = true) := by
    rintro ⟨-, hany⟩
    obtain ⟨e, he, heq⟩ := List.any_eq_true.mp hany
    exact h e he (by simpa using heq)
  rw [setItems_eq, if_neg hnone]

/-- R74, R107: Set Items with a pair for the regulated item, with no pending outcome. -/
theorem setItems_regulated (hpairs : ∀ e ∈ pairs, 1 ≤ e.1.toNat) (h : ∃ e ∈ pairs, e.1.toNat = (s.slot i).regItem)
    (ho : (s.slot i).outcome = none) : setItems p i r pairs s
      = answer p .done (itemsBody r pairs (s.otherReserves p i))
          (resetWindow i (s.withItems p i ((s.slot i).itemsSet r pairs))) := by
  obtain ⟨e, he, heq⟩ := h
  have hsome : (s.slot i).regItem ≠ 0 ∧ pairs.any (fun e => e.1.toNat == (s.slot i).regItem) = true :=
    ⟨by have := hpairs e he; omega, List.any_eq_true.mpr ⟨e, he, by simpa using heq⟩⟩
  rw [setItems_eq, if_pos hsome, dropOutcome_none]
  rw [slot_withItems]
  exact ho

/-- R74: the written slot's window is reset, and its book page asked for. -/
theorem resetWindow_withItems {t : State} (ht : s.store = t.store) (y : Slot) : Asking t (resetWindow i (s.withItems p i y))
    (s.withItems p i { y with book := { y.book with paid := 0, award := 0 } }) [bookPage i] := by
  have h := (Asking.refl (s := t) (e := s.withItems p i y) ((withItems_store y).trans ht)).ask (bookPage i)
    (modSlot_blind i fun x => { x with book := { x.book with paid := 0, award := 0 } }) (by simp)
  simpa only [resetWindow, modSlot_withItems] using h

end

/-- Settles O37: the checks of the request; the slot written, and the window reset by a pair for the regulated item. -/
theorem setItemsWrites : Obligations.SetItemsWrites := by
  unfold Obligations.SetItemsWrites
  intro p slot i r pairs s htakes hq hslot hl hid hpairs hd ha x w other draft body after fits
  have hw (e) (he : e ∈ pairs) : itemValue r e = w e := itemValue_eq (hpairs e he)
  have hset : x.itemsSet r pairs = { x with draft := draft, confirmed := false } := by
    have hvalues : pairs.foldl (fun l e => l.set (e.1.toNat - 1) (itemValue r e)) x.draft.values
        = pairs.foldl (fun l e => l.set (e.1.toNat - 1) (w e)) x.draft.values :=
      List.foldl_ext _ _ _ fun l e he => by rw [hw e he]
    rw [Slot.itemsSet, hvalues]
  have hbody : itemsBody r pairs (s.otherReserves p i) = body := by
    have hfields : pairs.flatMap (itemField r) = pairs.flatMap fun e =>
        [e.1, BitVec.ofNat 8 (w e / 256), BitVec.ofNat 8 (w e), markByte (w e != e.2.toNat)] :=
      List.flatMap_congr fun e he => by rw [itemField, hw e he]; rfl
    rw [itemsBody, listField, hfields, List.append_assoc]
    rfl
  have hslotOf := slotOf_number hslot
  have hheld : (holdRequest p 15 s).slot i = s.slot i := slot_holdRequest p 15 s i
  have hport : ((holdRequest p 15 s).port p).reservation = (s.port p).reservation := by
    rw [holdRequest, port_modPort_same]
  obtain ⟨hunfit, hfit⟩ := setItemsRefusal_eq (p := p) (pairs := pairs) (s := holdRequest p 15 s) (r := r) hslotOf
    (by rwa [hheld]) (by rwa [hheld]) hpairs (by rwa [hheld]) (by rwa [hheld])
  rw [hport] at hfit
  have hserve (hfits : fits) (hres : (s.port p).reservation = some i) :
      serve p (.setItems slot pairs) (holdRequest p 15 s) = setItems p i r pairs (holdRequest p 15 s) :=
    serveSetItems_accepted ((hfit hfits).trans (if_neg (not_not.mpr hres))) hslotOf (by rwa [hheld])
  refine ⟨fun hfits hres hother => ?_, fun hfits hres hsome ho => ?_, fun hfits hres => ?_, fun hfits => ?_⟩
  · refine exec_answered (r := .setItems slot pairs) htakes hq (withItems_store _)
      ((hserve hfits hres).trans ((setItems_unregulated (by rwa [hheld])).trans ?_))
    rw [hheld, hset, otherReserves_hold, hbody, withItems_hold]
    rfl
  · have hset' := setItems_regulated (p := p) (r := r) (s := holdRequest p 15 s) hpairs (by rwa [hheld]) (by rwa [hheld])
    have hreset := resetWindow_withItems (p := p) (i := i) (s := holdRequest p 15 s) (t := s) (modPort_store ..)
      { x with draft := draft, confirmed := false }
    rw [hheld, hset, otherReserves_hold, hbody] at hset'
    rw [withItems_hold _ { x with
      draft := draft, confirmed := false, book := { x.book with paid := 0, award := 0 } }] at hreset
    exact nextAsking_answered (r := .setItems slot pairs) htakes rfl ((hserve hfits hres).trans hset') hreset hq
      (by simp [Config.writeCapacity]) fun _ => Iff.rfl
  · exact exec_refused (r := .setItems slot pairs) htakes hq
      (serveSetItems_refused ((hfit hfits).trans (if_pos hres)))
  · exact exec_refused (r := .setItems slot pairs) htakes hq (serveSetItems_refused (hunfit hfits))

end Sys2Proof.Machine

namespace Sys2Proof.Machine

/-! ## The level of an evaluation (R142) -/

section
variable {r : RegParams} {lo hi percent base : Nat}

theorem nextLevel_above (h : r.target + r.deadband < percent) :
    nextLevel r (lo, hi) percent base = min (clamp lo hi base + r.step) hi := if_pos h

theorem nextLevel_below (h : percent < r.target - r.deadband) :
    nextLevel r (lo, hi) percent base = max (clamp lo hi base - r.step) lo :=
  (if_neg (by omega)).trans (if_pos h)

theorem nextLevel_within (hlow : r.target - r.deadband ≤ percent) (hhigh : percent ≤ r.target + r.deadband) :
    nextLevel r (lo, hi) percent base = clamp lo hi base :=
  (if_neg (by omega)).trans (if_neg (by omega))

theorem clamp_bounds (h : lo ≤ hi) (v : Nat) : lo ≤ clamp lo hi v ∧ clamp lo hi v ≤ hi :=
  ⟨Nat.le_max_left .., Nat.max_le.mpr ⟨h, Nat.min_le_right ..⟩⟩

/-- R142: the new level lies within the effective limits. -/
theorem nextLevel_bounds (h : lo ≤ hi) :
    lo ≤ nextLevel r (lo, hi) percent base ∧ nextLevel r (lo, hi) percent base ≤ hi := by
  have hclamp := clamp_bounds h base
  by_cases habove : r.target + r.deadband < percent
  · rw [nextLevel_above habove]
    omega
  · by_cases hbelow : percent < r.target - r.deadband
    · rw [nextLevel_below hbelow]
      omega
    · rwa [nextLevel_within (by omega) (by omega)]

end

/-! ## The pages of one slot (R167) -/

theorem pageKind_bookPage (i : SlotIx) : pageKind (bookPage i) = .book i := by
  revert i
  decide

theorem pageKind_closedPage (i : SlotIx) : pageKind (closedPage i) = .closed i := by
  revert i
  decide

theorem pageBody_bookPage (i : SlotIx) (s : State) : pageBody s (bookPage i) = padBody (bookBody (s.slot i).book) := by
  rw [pageBody, pageKind_bookPage]

theorem pageBody_closedPage (i : SlotIx) (s : State) :
    pageBody s (closedPage i) = padBody (closedBody (s.slot i).book) := by
  rw [pageBody, pageKind_closedPage]

/-- The pages that a Meter Report may ask for. -/
def reportPages (i : SlotIx) : List PageIx := [bookPage i, closedPage i, settingsPage i]

section
variable {s t c : State} {i : SlotIx} {x y : Slot} {p q : PageIx} {ps : List PageIx}

/-- R167: such a page depends on the fields of its own alone. -/
theorem pageBody_setSlot_congr (hq : q ∈ reportPages i) (hbook : q = bookPage i → bookBody y.book = bookBody x.book)
    (hclosed : q = closedPage i → closedBody y.book = closedBody x.book)
    (hsettings : q = settingsPage i → settingsBody y = settingsBody x) :
    pageBody (c.setSlot i y) q = pageBody (c.setSlot i x) q := by
  simp only [reportPages, List.mem_cons, List.not_mem_nil, or_false] at hq
  rcases hq with rfl | rfl | rfl
  · rw [pageBody_bookPage, pageBody_bookPage, slot_setSlot_same, slot_setSlot_same, hbook rfl]
  · rw [pageBody_closedPage, pageBody_closedPage, slot_setSlot_same, slot_setSlot_same, hclosed rfl]
  · rw [pageBody_settingsPage, pageBody_settingsPage, slot_setSlot_same, slot_setSlot_same, hsettings rfl]

theorem Asking.slot_eq (h : Asking s t (c.setSlot i x) ps) : t.slot i = x := by
  rw [h.1]
  exact slot_setSlot_same c i x

/-- A slot changes, and the contents of the pages asked for stay. -/
theorem Asking.onSlot (h : Asking s t (c.setSlot i x) ps) (f : Slot → Slot)
    (hbody : ∀ q ∈ ps, pageBody (c.setSlot i (f x)) q = pageBody (c.setSlot i x) q) :
    Asking s (t.modSlot i f) (c.setSlot i (f x)) ps := by
  have hslot : (c.setSlot i x).modSlot i f = c.setSlot i (f x) := by
    rw [modSlot_def, slot_setSlot_same, setSlot_setSlot]
  rw [← hslot] at hbody ⊢
  exact h.change (modSlot_blind i f) hbody

/-- R169: a slot changes, and the page that holds the change is asked for. -/
theorem Asking.askSlot (h : Asking s t (c.setSlot i x) ps) (p : PageIx) (f : Slot → Slot)
    (hbody : ∀ q ∈ ps, q ≠ p → pageBody (c.setSlot i (f x)) q = pageBody (c.setSlot i x) q) :
    Asking s (enqueuePage p (t.modSlot i f)) (c.setSlot i (f x)) (p :: ps) := by
  have hslot : (c.setSlot i x).modSlot i f = c.setSlot i (f x) := by
    rw [modSlot_def, slot_setSlot_same, setSlot_setSlot]
  rw [← hslot] at hbody ⊢
  exact h.ask p (modSlot_blind i f) hbody

theorem Asking.askMore (h : Asking s t c ps) (p : PageIx) : Asking s (enqueuePage p t) c (p :: ps) :=
  h.ask p (f := id) (fun _ _ => rfl) fun _ _ _ => rfl

end

/-! ## The fold of a whole report and the window feed (R71, R72) -/

/-- R64 to R71: a book that differs from another in fields that a fold may change. -/
structure Book.Folds (b b' : Book) : Prop where
  closed : b'.closed = b.closed
  paid : b'.paid = b.paid
  award : b'.award = b.award
  period : b'.period = b.period
  closeStamp : b'.closeStamp = b.closeStamp
  lostCurrent : b'.lostCurrent = b.lostCurrent
  lostClosed : b'.lostClosed = b.lostClosed
  modelChanged : b'.modelChanged = b.modelChanged

theorem Book.Folds.refl (b : Book) : b.Folds b := ⟨rfl, rfl, rfl, rfl, rfl, rfl, rfl, rfl⟩

theorem foldReport_folds (b : Book) (meters : List (Fin 24)) (role : FoldRole) (r : MeterReport) :
    b.Folds (b.foldReport meters role r).book :=
  foldReport_keeps (P := b.Folds)
    (fun _ _ _ _ h => ⟨h.closed, h.paid, h.award, h.period, h.closeStamp, h.lostCurrent, h.lostClosed, h.modelChanged⟩)
    (fun _ _ _ h => ⟨h.closed, h.paid, h.award, h.period, h.closeStamp, h.lostCurrent, h.lostClosed, h.modelChanged⟩)
    (fun _ _ h => ⟨h.closed, h.paid, h.award, h.period, h.closeStamp, h.lostCurrent, h.lostClosed, h.modelChanged⟩)
    (.refl b) meters role r

/-- R72: a book with the paid and award increments of a report fed into its window. -/
def Book.fed (b : Book) (amounts : Vector Nat 24) : Book :=
  { b with
    paid := saturate Config.counterCeiling (b.paid + (amounts[7] - amounts[8]))
    award := saturate Config.counterCeiling (b.award + (amounts[9] + amounts[10] + amounts[11] + amounts[12])) }

theorem fed_eq {b b' : Book} (h : b.Folds b') (amounts : Vector Nat 24) : b'.fed amounts = { b' with
    paid := min 65535 (b.paid + (amounts[7] - amounts[8]))
    award := min 65535 (b.award + (amounts[9] + amounts[10] + amounts[11] + amounts[12])) } := by
  rw [Book.fed, h.paid, h.award, saturate, saturate, Nat.min_comm, Nat.min_comm _ Config.counterCeiling]

/-- R71, R72: the pages that a fold and its feed ask for, from the book before, the book folded and the book fed. -/
def foldedPages (i : SlotIx) (b b' b'' : Book) : List PageIx :=
  (if b'' = b' then [] else [bookPage i]) ++ (if b.lifetime = b'.lifetime then [] else [closedPage i])
    ++ if bookPageChanged b b' then [bookPage i] else []

theorem foldedPages_report {i : SlotIx} {b b' b'' : Book} {q : PageIx} (h : q ∈ foldedPages i b b' b'') :
    q = bookPage i ∨ q = closedPage i := by
  simp only [foldedPages, List.mem_append, List.mem_ite_nil_left, List.mem_ite_nil_right, List.mem_singleton] at h
  tauto

theorem bookPageChanged_false {b b' : Book} : bookPageChanged b b' = false
    ↔ b'.current = b.current ∧ b'.baselines = b.baselines ∧ b'.epoch = b.epoch ∧ b'.discont = b.discont := by
  simp [bookPageChanged, and_assoc, eq_comm (a := b.current), eq_comm (a := b.baselines), eq_comm (a := b.epoch),
    eq_comm (a := b.discont)]

/-- R71, R72: a book folded and fed has its old book page when neither the fold nor the feed changed a field of it. -/
theorem fed_eq_iff {b b' : Book} (h : b.Folds b') (amounts : Vector Nat 24) :
    { b'.fed amounts with lifetime := b.lifetime } = b ↔ b'.fed amounts = b' ∧ bookPageChanged b b' = false := by
  obtain ⟨hclosed, hpaid, haward, hperiod, hstamp, hlost, hlostClosed, hmodel⟩ := h
  rw [bookPageChanged_false]
  cases b
  cases b'
  dsimp only at hclosed hpaid haward hperiod hstamp hlost hlostClosed hmodel
  subst hclosed hpaid haward hperiod hstamp hlost hlostClosed hmodel
  simp only [Book.fed, Book.mk.injEq, true_and, and_true]
  tauto

/-- R71, R72: in other words: the book page when a field of it changed, and the closed-period page when a lifetime total
did. -/
theorem mem_foldedPages {i : SlotIx} {b b' : Book} (h : b.Folds b') {amounts : Vector Nat 24} {q : PageIx} :
    q ∈ (if { b'.fed amounts with lifetime := b.lifetime } = b then [] else [bookPage i])
        ++ (if (b'.fed amounts).lifetime = b.lifetime then [] else [closedPage i])
      ↔ q ∈ foldedPages i b b' (b'.fed amounts) := by
  have hsame := fed_eq_iff h amounts
  have hlifetime : (b'.fed amounts).lifetime = b'.lifetime := rfl
  simp only [foldedPages, hlifetime, eq_comm (a := b.lifetime), List.mem_append]
  by_cases hfed : b'.fed amounts = b' <;> by_cases hchanged : bookPageChanged b b' = true
  · rw [if_neg (hsame.not.mpr (by simp [hchanged])), if_pos hfed, if_pos hchanged]
    simp [or_comm]
  · rw [if_pos (hsame.mpr ⟨hfed, by simpa using hchanged⟩), if_pos hfed, if_neg hchanged]
    simp
  · rw [if_neg (hsame.not.mpr (by simp [hchanged])), if_neg hfed, if_pos hchanged]
    simp [or_comm]
  · rw [if_neg (hsame.not.mpr (by simp [hfed])), if_neg hfed, if_neg hchanged]
    simp

section
variable {s t c : State} {i : SlotIx} {x : Slot}

/-- R71: the end of a fold. -/
theorem endFold_asking (h : Asking s t (c.setSlot i x) []) (b' : Book) :
    Asking s (endFold i b' t) (c.setSlot i { x with book := b' })
      ((if x.book.lifetime = b'.lifetime then [] else [closedPage i])
        ++ if bookPageChanged x.book b' then [bookPage i] else []) := by
  have hbook : Asking s (if bookPageChanged x.book b' then enqueuePage (bookPage i) (t.modSlot i fun x => { x with book := b' })
      else t.modSlot i fun x => { x with book := b' }) (c.setSlot i { x with book := b' })
      (if bookPageChanged x.book b' then [bookPage i] else []) := by
    split
    · exact h.askSlot (bookPage i) (fun x => { x with book := b' }) (by simp)
    · exact h.onSlot (fun x => { x with book := b' }) (by simp)
  unfold endFold
  rw [h.slot_eq]
  dsimp only
  split
  · exact hbook
  · exact hbook.askMore (closedPage i)

/-- R72: the feed of the window. -/
theorem windowFeed_asking {ps : List PageIx} (h : Asking s t (c.setSlot i x) ps)
    (hps : ∀ q ∈ ps, q = bookPage i ∨ q = closedPage i) (amounts : Vector Nat 24) :
    Asking s (windowFeed i amounts t) (c.setSlot i { x with book := x.book.fed amounts })
      ((if x.book.fed amounts = x.book then [] else [bookPage i]) ++ ps) := by
  have hsame : saturate Config.counterCeiling (x.book.paid + (amounts[7] - amounts[8])) = x.book.paid
      ∧ saturate Config.counterCeiling (x.book.award + (amounts[9] + amounts[10] + amounts[11] + amounts[12]))
        = x.book.award ↔ x.book.fed amounts = x.book := by
    cases x.book
    simp [Book.fed]
  unfold windowFeed
  rw [h.slot_eq]
  dsimp only
  rw [if_congr hsame rfl rfl]
  by_cases hfed : x.book.fed amounts = x.book
  · rw [if_pos hfed, if_pos hfed, hfed]
    exact h
  · rw [if_neg hfed, if_neg hfed]
    refine h.askSlot (bookPage i) _ fun q hq hne => ?_
    obtain rfl := (hps q hq).resolve_left hne
    exact pageBody_setSlot_congr (by simp [reportPages]) (fun h => absurd h hne) (fun _ => rfl) fun _ => rfl

/-- R71, R72: a report without a discontinuity, as far as the window's test. -/
theorem windowFeed_endFold (h : Asking s t (c.setSlot i x) []) (b' : Book) (amounts : Vector Nat 24) :
    Asking s (windowFeed i amounts (endFold i b' t)) (c.setSlot i { x with book := b'.fed amounts })
      (foldedPages i x.book b' (b'.fed amounts)) := by
  have hfold := endFold_asking h b'
  rw [foldedPages, List.append_assoc]
  refine windowFeed_asking hfold (fun q hq => foldedPages_report (b'' := b'.fed amounts) (b := x.book) (b' := b') ?_) amounts
  rw [foldedPages, List.append_assoc]
  exact List.mem_append_right _ hq

end

/-! ## The evaluation of a full window (R142 to R145) -/

section
variable {s t c : State} {i : SlotIx} {x : Slot} {ps : List PageIx}

/-- R141: regulation is not inert for an identified table. -/
theorem inert_false {id : Identity} (hid : x.identity = some id) : x.inert = false
    ↔ x.reg.enabled = true ∧ x.regItem ≠ 0 ∧ x.regItem ≤ id.ranges.length ∧ x.active.isSome = true := by
  simp [Slot.inert, hid, and_assoc, Option.isSome_iff_ne_none]

theorem windowTest_short (h : x.inert = true ∨ x.book.paid < x.reg.window) (hx : t.slot i = x) :
    windowTest i t = t := by
  unfold windowTest
  rw [hx]
  refine if_neg ?_
  rcases h with h | h
  · simp [h]
  · simp [Nat.not_le.mpr h]

theorem windowTest_full (hi : x.inert = false) (hw : x.reg.window ≤ x.book.paid) (hx : t.slot i = x) :
    windowTest i t = takeOutcome i x.baseLevel
      (nextLevel x.reg x.effectiveLimits (windowPercent x.book.paid x.book.award) x.baseLevel) (resetWindow i t) := by
  unfold windowTest
  rw [hx]
  refine (if_pos (by simp [hi, hw])).trans ?_
  rw [evaluate, hx]

/-- A slot with its window reset. -/
def Slot.windowReset (x : Slot) : Slot := { x with book := { x.book with paid := 0, award := 0 } }

/-- R74: the window is reset. -/
theorem resetWindow_onSlot (h : Asking s t (c.setSlot i x) ps) (hps : ∀ q ∈ ps, q = bookPage i ∨ q = closedPage i) :
    Asking s (resetWindow i t) (c.setSlot i x.windowReset) (bookPage i :: ps) := by
  refine h.askSlot (bookPage i) Slot.windowReset fun q hq hne => ?_
  obtain rfl := (hps q hq).resolve_left hne
  exact pageBody_setSlot_congr (by simp [reportPages]) (fun h => absurd h hne) (fun _ => rfl) fun _ => rfl

/-- R144: a pending outcome changes, and the settings page is asked for. -/
theorem outcome_asking (h : Asking s t (c.setSlot i x) ps) (hps : ∀ q ∈ ps, q = bookPage i ∨ q = closedPage i)
    (o : Option Nat) : Asking s (enqueuePage (settingsPage i) (t.modSlot i fun x => { x with outcome := o }))
      (c.setSlot i { x with outcome := o }) (settingsPage i :: ps) := by
  refine h.askSlot (settingsPage i) (fun x => { x with outcome := o }) fun q hq hne => ?_
  exact pageBody_setSlot_congr (by rcases hps q hq with rfl | rfl <;> simp [reportPages]) (fun _ => rfl) (fun _ => rfl)
    fun h => absurd h hne

theorem takeOutcome_same (base : Nat) : takeOutcome i base base t = t := if_pos rfl

/-- R144: a level equal to the Active value leaves no outcome. -/
theorem takeOutcome_active (h : Asking s t (c.setSlot i x) ps) (hps : ∀ q ∈ ps, q = bookPage i ∨ q = closedPage i)
    {base level : Nat} (hbase : level ≠ base) (hlevel : x.activeLevel = some level) (ho : x.outcome ≠ none) :
    Asking s (takeOutcome i base level t) (c.setSlot i { x with outcome := none }) (settingsPage i :: ps) := by
  have hx := h.slot_eq
  rw [takeOutcome, if_neg hbase, hx, if_pos hlevel, dropOutcome, hx, if_neg (by simpa using ho)]
  exact outcome_asking h hps none

/-- R144: any other level becomes the pending outcome, and is offered to the draft. -/
theorem takeOutcome_offers {base level : Nat} (hx : t.slot i = x) (hbase : level ≠ base)
    (hlevel : x.activeLevel ≠ some level) : takeOutcome i base level t
      = offerOutcome i (enqueuePage (settingsPage i) (t.modSlot i fun x => { x with outcome := some level })) := by
  rw [takeOutcome, if_neg hbase, hx, if_neg hlevel]

/-- R145: while the draft is not Clean the outcome stays pending. -/
theorem takeOutcome_waits (h : Asking s t (c.setSlot i x) ps) (hps : ∀ q ∈ ps, q = bookPage i ∨ q = closedPage i)
    {base level : Nat} (hbase : level ≠ base) (hlevel : x.activeLevel ≠ some level) (hd : x.draft.state ≠ .clean) :
    Asking s (takeOutcome i base level t) (c.setSlot i { x with outcome := some level }) (settingsPage i :: ps) := by
  have hpending := outcome_asking h hps (some level)
  have hkept : ({ x with outcome := some level } : Slot).activeLevel ≠ some level := hlevel
  rw [takeOutcome_offers h.slot_eq hbase hlevel, offerOutcome, hpending.slot_eq]
  dsimp only
  rw [if_neg hkept, if_neg hd]
  exact hpending

/-- R110: a slot with a level written into its Clean draft, which is Queued. -/
def Slot.regulated (x : Slot) (level : Nat) : Slot :=
  { x with
    draft := { x.draft with values := x.draft.values.set (x.regItem - 1) level, state := .queued }
    confirmed := false, outcome := none }

/-- R110, R119: the slot's entry joins the queue with origin Regulation, and the reservations on it are cleared. -/
def State.regulationQueued (c : State) (i : SlotIx) (priority : Nat) : State :=
  clearReservations i (joinQueue i priority .regulation c)

/-- R110, R145: a Clean draft takes the outcome. -/
theorem takeOutcome_applies (h : Asking s t (c.setSlot i x) ps) (hps : ∀ q ∈ ps, q = bookPage i ∨ q = closedPage i)
    {base level : Nat} (hbase : level ≠ base) (hlevel : x.activeLevel ≠ some level) (hd : x.draft.state = .clean) :
    Asking s (takeOutcome i base level t) ((c.regulationQueued i x.reg.priority).setSlot i (x.regulated level))
      (settingsPage i :: settingsPage i :: ps) := by
  have hpending := outcome_asking h hps (some level)
  have hslot := hpending.slot_eq
  have hkept : ({ x with outcome := some level } : Slot).activeLevel ≠ some level := hlevel
  have hqueued : ((c.setSlot i { x with outcome := some level }).modSlot i fun x => x.regulated level).regulationQueued i
      x.reg.priority = (c.regulationQueued i x.reg.priority).setSlot i (x.regulated level) := by
    rw [modSlot_def, slot_setSlot_same, setSlot_setSlot]
    rfl
  rw [takeOutcome_offers h.slot_eq hbase hlevel, offerOutcome, hslot]
  dsimp only
  rw [if_neg hkept, if_pos hd, applyOutcome, hslot, ← hqueued]
  refine hpending.ask (settingsPage i)
    (f := fun u => (u.modSlot i fun x => x.regulated level).regulationQueued i x.reg.priority) (fun _ _ => rfl)
    fun q hq hne => ?_
  have hpage := hps q ((List.mem_cons.mp hq).resolve_left hne)
  rw [hqueued, pageBody_of_slots (t := (c.regulationQueued i x.reg.priority).setSlot i (x.regulated level))
    (s := c.setSlot i (x.regulated level)) rfl rfl rfl]
  exact pageBody_setSlot_congr (by rcases hpage with rfl | rfl <;> simp [reportPages]) (fun _ => rfl) (fun _ => rfl)
    fun h => absurd h hne

/-- R143: the base of an evaluation. -/
theorem baseLevel_eq {now : Nat} (h : x.activeLevel = some now) : x.baseLevel = x.outcome.getD now := by
  unfold Slot.baseLevel
  cases x.outcome with
  | none => rw [h]; rfl
  | some v => rfl

theorem windowPercent_eq (paid award : Nat) :
    windowPercent paid award = min 9999 ((2 * (award * 1000) + paid) / (2 * paid)) := by
  rw [windowPercent, roundHalfUp_eq, Nat.min_comm]

end

/-! ## A routine Meter Report (R71 to R74) -/

section
variable {s t c : State} {g : SegId} {x : Exchange} {gs : GameState} {rest : List Byte} {r : MeterReport} {id : Identity}
  {i : SlotIx} {ps qs : List PageIx}

/-- R37: a slot whose meter timer is run anew. -/
def Slot.metered (x : Slot) : Slot := { x with due := { x.due with meter := 0 } }

/-- R71 to R73, R37: a report without a discontinuity. -/
theorem takeReport_smooth {y : Slot} {acc : FoldAcc} (hy : t.slot i = y) (hid : y.identity = some id)
    (hacc : y.book.foldReport id.meters .routine r = acc) (hgaps : acc.gaps = []) : takeReport i .routine r t
      = (windowTest i (windowFeed i acc.amounts (endFold i acc.book t))).modSlot i Slot.metered := by
  simp only [takeReport, hy, hid, hacc, hgaps, List.foldl_nil]
  rfl

/-- R8, R71: a routine Meter Poll of an identified Active table that ends with a usable report without a
discontinuity. -/
structure RoutineReport (g : SegId) (s : State) (x : Exchange) (rest : List Byte) (r : MeterReport) (id : Identity) :
    Prop where
  quiet : s.store.quiet = true
  exchange : (s.seg g).exchange = some x
  pending : (s.seg g).haltPending = false
  noisy : (s.seg g).noisy = false
  table : (s.slot x.slot).table = .active
  score : (s.slot x.slot).score < 64
  frame : x.frame = .meterPoll
  asker : x.asker = .meterFolding
  phase : x.phase = .window
  received : x.received = []
  length : rest.length ≤ 318
  parse : parseMeterReport rest = some r
  identity : (s.slot x.slot).identity = some id
  gaps : ((s.slot x.slot).book.foldReport id.meters .routine r).gaps = []

/-- R64: a slot's book through the fold of a routine report. -/
def Slot.routineFold (y : Slot) (id : Identity) (r : MeterReport) : FoldAcc := y.book.foldReport id.meters .routine r

/-- R71, R72: a slot with a routine report folded and its increments fed. -/
def Slot.reported (y : Slot) (gs : GameState) (id : Identity) (r : MeterReport) : Slot :=
  { y.answeredGood gs with book := (y.routineFold id r).book.fed (y.routineFold id r).amounts }

/-- R71, R72: the pages that the fold and the feed of a routine report ask for. -/
def reportedPages (i : SlotIx) (y : Slot) (id : Identity) (r : MeterReport) : List PageIx :=
  foldedPages i y.book (y.routineFold id r).book ((y.routineFold id r).book.fed (y.routineFold id r).amounts)

/-- R71, R72: the state that the window's test finds. -/
def State.reported (s : State) (g : SegId) (i : SlotIx) (gs : GameState) (id : Identity) (r : MeterReport) : State :=
  windowFeed i ((s.slot i).routineFold id r).amounts
    (endFold i ((s.slot i).routineFold id r).book ((cleared g s).setSlot i ((s.slot i).answeredGood gs)))

theorem reported_asking (g : SegId) (s : State) (i : SlotIx) (gs : GameState) (id : Identity) (r : MeterReport) :
    Asking s (s.reported g i gs id r) ((cleared g s).setSlot i ((s.slot i).reported gs id r))
      (reportedPages i (s.slot i) id r) :=
  windowFeed_endFold (Asking.refl (s := s) (e := (cleared g s).setSlot i ((s.slot i).answeredGood gs))
    (by simp [cleared])) ((s.slot i).routineFold id r).book ((s.slot i).routineFold id r).amounts

theorem mem_reportedPages_iff {y : Slot} {q : PageIx} :
    q ∈ (if { (y.reported gs id r).book with lifetime := y.book.lifetime } = y.book then [] else [bookPage i])
        ++ (if (y.reported gs id r).book.lifetime = y.book.lifetime then [] else [closedPage i])
      ↔ q ∈ reportedPages i y id r :=
  mem_foldedPages (foldReport_folds y.book id.meters .routine r)

theorem mem_reportedPages {y : Slot} {q : PageIx} (h : q ∈ reportedPages i y id r) : q = bookPage i ∨ q = closedPage i :=
  foldedPages_report h

theorem askerTakes_report (s : State) (hf : x.frame = .meterPoll) (ha : x.asker = .meterFolding)
    (hparse : parseMeterReport rest = some r) : askerTakes g x (.good gs rest) s = takeReport x.slot .routine r s := by
  simp only [askerTakes, hf, ha, ExOutcome.usable, ExOutcome.bodyOf, hparse]
  rfl

/-- R8, R9, R30: what the window's test leaves, with the meter timer run anew, and the scheduler's choice. -/
theorem RoutineReport.nextChoosing {z : Slot} (h : RoutineReport g s x rest r id)
    (hc : c.seg g = (cleared g s).seg g)
    (htest : Asking s (windowTest x.slot (s.reported g x.slot gs id r)) (c.setSlot x.slot z) ps)
    (hps : ∀ q ∈ ps, q ∈ reportPages x.slot) (hlength : ps.length ≤ 8) (hm : ∀ q, q ∈ qs ↔ q ∈ ps) :
    nextChoosing (.answerComplete g gs .accepted rest) s g
      ((c.setSeg g (s.seg g).answered).setSlot x.slot z.metered) qs := by
  set u : State := (cleared g s).setSlot x.slot ((s.slot x.slot).answeredGood gs) with hu
  have hreport := htest.onSlot Slot.metered fun q hq =>
    pageBody_setSlot_congr (hps q hq) (fun _ => rfl) (fun _ => rfl) fun _ => rfl
  have hsmooth : takeReport x.slot .routine r u = (windowTest x.slot (s.reported g x.slot gs id r)).modSlot x.slot
      Slot.metered := takeReport_smooth (slot_setSlot_same ..) h.identity rfl h.gaps
  rw [← hsmooth] at hreport
  have htakes : askerTakes g x (.good gs rest) u = takeReport x.slot .routine r u :=
    askerTakes_report u h.frame h.asker h.parse
  have hseg : (takeReport x.slot .routine r u).seg g = (cleared g s).seg g := by
    rw [hreport.1, seg_setStore, seg_setSlot, hc]
  have hend := hreport.change (f := fun u => u.setSeg g (s.seg g).answered) (fun _ _ => by cases g <;> rfl) fun q _ =>
    pageBody_of_slots (by cases g <;> rfl) (by cases g <;> rfl) (by cases g <;> rfl) q
  rw [setSeg_setSlot] at hend
  exact nextChoosing_of ((answerComplete_window h.exchange h.phase h.received h.length).trans
    (endExchange_good h.exchange h.pending h.noisy h.table h.score htakes hseg)) hend h.quiet hlength hm

/-- R110, R119: the state of an exchange that ended with an outcome queued. -/
theorem regulationQueued_after (priority : Nat) (z : Segment) (v : Slot) :
    (((cleared g s).regulationQueued i priority).setSeg g z).setSlot i v = { (s.setSeg g z).setSlot i v with
      queue := s.queue ++
        [{ slot := i, priority := priority, origin := .regulation, attempts := 1, withdrawal := false
           withdrawPort := none }]
      collector := s.collector.unreserved i, office := s.office.unreserved i } := by
  cases g <;> rfl

/-- The state after an exchange that ended, but for the slot. -/
theorem setSlot_answered (v : Slot) : ((cleared g s).setSeg g (s.seg g).answered).setSlot i v
    = (s.setSeg g (s.seg g).answered).setSlot i v := by
  rw [cleared_eq, setSeg_setSeg]

theorem length_reportedPages (i : SlotIx) (y : Slot) (id : Identity) (r : MeterReport) :
    (reportedPages i y id r).length ≤ 3 := by
  unfold reportedPages
  generalize (y.routineFold id r).book = b'
  generalize b'.fed _ = b''
  have hone (c : Prop) [Decidable c] (q : PageIx) : (if c then [] else [q]).length ≤ 1 := by split <;> simp
  have hlast : (if bookPageChanged y.book b' then [bookPage i] else []).length ≤ 1 := by split <;> simp
  have := hone (b'' = b') (bookPage i)
  have := hone (y.book.lifetime = b'.lifetime) (closedPage i)
  simp only [foldedPages, List.length_append]
  omega

/-- R73, R141: a window short of its width, or regulation inert. -/
theorem RoutineReport.short (h : RoutineReport g s x rest r id)
    (hshort : ((s.slot x.slot).reported gs id r).inert = true
      ∨ ((s.slot x.slot).reported gs id r).book.paid < ((s.slot x.slot).reported gs id r).reg.window)
    (hm : ∀ q, q ∈ qs ↔ q ∈ reportedPages x.slot (s.slot x.slot) id r) :
    Machine.nextChoosing (.answerComplete g gs .accepted rest) s g
      ((s.setSeg g (s.seg g).answered).setSlot x.slot ((s.slot x.slot).reported gs id r).metered) qs := by
  have hfed := reported_asking g s x.slot gs id r
  have hlength := length_reportedPages x.slot (s.slot x.slot) id r
  rw [← windowTest_short hshort hfed.slot_eq] at hfed
  rw [← setSlot_answered]
  exact h.nextChoosing rfl hfed (fun q hq => by rcases mem_reportedPages hq with rfl | rfl <;> simp [reportPages])
    (by omega) hm

/-- R73, R74: a slot whose window is complete, and has been reset. -/
def Slot.evaluated (y : Slot) (gs : GameState) (id : Identity) (r : MeterReport) : Slot :=
  (y.reported gs id r).windowReset

theorem evaluated_asking (g : SegId) (s : State) (i : SlotIx) (gs : GameState) (id : Identity) (r : MeterReport) :
    Asking s (resetWindow i (s.reported g i gs id r)) ((cleared g s).setSlot i ((s.slot i).evaluated gs id r))
      (bookPage i :: reportedPages i (s.slot i) id r) :=
  resetWindow_onSlot (reported_asking g s i gs id r) fun _ => mem_reportedPages

theorem mem_evaluatedPages {y : Slot} {q : PageIx} (h : q ∈ bookPage i :: reportedPages i y id r) :
    q = bookPage i ∨ q = closedPage i := (List.mem_cons.mp h).elim .inl mem_reportedPages

/-- With the book page asked for in any case, the lifetime totals decide the pages. -/
theorem mem_evaluatedPages_iff {y : Slot} {q : PageIx} :
    q ∈ bookPage i :: (if (y.reported gs id r).book.lifetime = y.book.lifetime then [] else [closedPage i])
      ↔ q ∈ bookPage i :: reportedPages i y id r := by
  have hlifetime : (y.reported gs id r).book.lifetime = (y.routineFold id r).book.lifetime := rfl
  simp only [reportedPages, foldedPages, hlifetime, eq_comm (a := y.book.lifetime), List.mem_cons, List.mem_append,
    List.mem_ite_nil_left, List.mem_ite_nil_right, List.not_mem_nil, or_false]
  tauto

/-- R73, R142: a slot's window is complete, and its evaluation goes from a base to a level. -/
structure Slot.Completes (x : Slot) (base level : Nat) : Prop where
  inert : x.inert = false
  full : x.reg.window ≤ x.book.paid
  from_base : x.baseLevel = base
  to_level : nextLevel x.reg x.effectiveLimits (windowPercent x.book.paid x.book.award) base = level

/-- R73: a complete window is evaluated: what its outcome leaves, and the pages asked for. -/
theorem RoutineReport.evaluates {z : Slot} {base level : Nat} (h : RoutineReport g s x rest r id)
    (hfull : ((s.slot x.slot).reported gs id r).Completes base level) (hc : c.seg g = (cleared g s).seg g)
    (htaken : Asking s (takeOutcome x.slot base level (resetWindow x.slot (s.reported g x.slot gs id r)))
      (c.setSlot x.slot z) ps)
    (hps : ∀ q ∈ ps, q = settingsPage x.slot ∨ q ∈ bookPage x.slot :: reportedPages x.slot (s.slot x.slot) id r)
    (hlength : ps.length ≤ 8) (hm : ∀ q, q ∈ qs ↔ q ∈ ps) :
    Machine.nextChoosing (.answerComplete g gs .accepted rest) s g
      ((c.setSeg g (s.seg g).answered).setSlot x.slot z.metered) qs := by
  have htest := windowTest_full hfull.inert hfull.full (reported_asking g s x.slot gs id r).slot_eq
  rw [hfull.from_base, hfull.to_level] at htest
  rw [← htest] at htaken
  refine h.nextChoosing hc htaken (fun q hq => ?_) hlength hm
  rcases hps q hq with rfl | hq
  · simp [reportPages]
  · rcases mem_evaluatedPages hq with rfl | rfl <;> simp [reportPages]

/-- The pages of an evaluation that asks for the settings page, as the statement lists them. -/
theorem mem_settledPages {y : Slot} {q : PageIx} :
    q ∈ bookPage i :: (if (y.reported gs id r).book.lifetime = y.book.lifetime then [] else [closedPage i])
        ++ [settingsPage i]
      ↔ q ∈ settingsPage i :: bookPage i :: reportedPages i y id r := by
  rw [List.mem_append, mem_evaluatedPages_iff, List.mem_singleton, List.mem_cons (a := q) (b := settingsPage i), or_comm]

section
variable {base level : Nat} (h : RoutineReport g s x rest r id)
  (hfull : ((s.slot x.slot).reported gs id r).Completes base level)
include h hfull

/-- R144: a level equal to the base. -/
theorem RoutineReport.evaluates_same (hsame : level = base)
    (hm : ∀ q, q ∈ qs ↔ q ∈ bookPage x.slot :: reportedPages x.slot (s.slot x.slot) id r) :
    Machine.nextChoosing (.answerComplete g gs .accepted rest) s g
      ((s.setSeg g (s.seg g).answered).setSlot x.slot ((s.slot x.slot).evaluated gs id r).metered) qs := by
  subst hsame
  have hlength := length_reportedPages x.slot (s.slot x.slot) id r
  rw [← setSlot_answered]
  refine h.evaluates hfull rfl ?_ (fun q => .inr) (by rw [List.length_cons]; omega) hm
  rw [takeOutcome_same]
  exact evaluated_asking g s x.slot gs id r

variable (hbase : level ≠ base)
  (hm : ∀ q, q ∈ qs ↔ q ∈ settingsPage x.slot :: bookPage x.slot :: reportedPages x.slot (s.slot x.slot) id r)
include hbase hm

/-- R144: a level equal to the Active value. -/
theorem RoutineReport.evaluates_active (hlevel : ((s.slot x.slot).evaluated gs id r).activeLevel = some level) :
    Machine.nextChoosing (.answerComplete g gs .accepted rest) s g
      ((s.setSeg g (s.seg g).answered).setSlot x.slot
        { (s.slot x.slot).evaluated gs id r with outcome := none }.metered) qs := by
  have ho : ((s.slot x.slot).evaluated gs id r).outcome ≠ none := fun ho => hbase <| by
    rw [← hfull.from_base, baseLevel_eq (x := (s.slot x.slot).reported gs id r) hlevel]
    exact (congrArg (Option.getD · level) ho).symm
  have hlength := length_reportedPages x.slot (s.slot x.slot) id r
  rw [← setSlot_answered]
  exact h.evaluates hfull rfl
    (takeOutcome_active (evaluated_asking g s x.slot gs id r) (fun _ => mem_evaluatedPages) hbase hlevel ho)
    (fun q => List.mem_cons.mp) (by simp only [List.length_cons]; omega) hm

/-- R145: any other level with a draft that is not Clean. -/
theorem RoutineReport.evaluates_waiting (hlevel : ((s.slot x.slot).evaluated gs id r).activeLevel ≠ some level)
    (hd : (s.slot x.slot).draft.state ≠ .clean) :
    Machine.nextChoosing (.answerComplete g gs .accepted rest) s g
      ((s.setSeg g (s.seg g).answered).setSlot x.slot
        { (s.slot x.slot).evaluated gs id r with outcome := some level }.metered) qs := by
  have hlength := length_reportedPages x.slot (s.slot x.slot) id r
  rw [← setSlot_answered]
  exact h.evaluates hfull rfl
    (takeOutcome_waits (evaluated_asking g s x.slot gs id r) (fun _ => mem_evaluatedPages) hbase hlevel hd)
    (fun q => List.mem_cons.mp) (by simp only [List.length_cons]; omega) hm

/-- R110, R145: any other level with a Clean draft. -/
theorem RoutineReport.evaluates_applied (hlevel : ((s.slot x.slot).evaluated gs id r).activeLevel ≠ some level)
    (hd : (s.slot x.slot).draft.state = .clean) :
    Machine.nextChoosing (.answerComplete g gs .accepted rest) s g
      { (s.setSeg g (s.seg g).answered).setSlot x.slot (((s.slot x.slot).evaluated gs id r).regulated level).metered with
        queue := s.queue ++
          [{ slot := x.slot, priority := (s.slot x.slot).reg.priority, origin := .regulation, attempts := 1
             withdrawal := false, withdrawPort := none }]
        collector := s.collector.unreserved x.slot, office := s.office.unreserved x.slot } qs := by
  have hlength := length_reportedPages x.slot (s.slot x.slot) id r
  rw [← regulationQueued_after]
  refine h.evaluates hfull (by cases g <;> rfl)
    (takeOutcome_applies (evaluated_asking g s x.slot gs id r) (fun _ => mem_evaluatedPages) hbase hlevel hd)
    (fun q hq => ?_) (by simp only [List.length_cons]; omega) fun q => ?_
  · exact (List.mem_cons.mp hq).elim .inl List.mem_cons.mp
  · rw [hm, List.mem_cons (b := settingsPage x.slot) (l := settingsPage x.slot :: _), List.mem_cons]
    tauto

end

end

/-- Settles O58: the level by the deadband; a report through its fold, its feed and the window's test, whose outcome is
weighed against the base and the Active value. -/
theorem evaluationLevel : Obligations.EvaluationLevel := by
  unfold Obligations.EvaluationLevel
  refine ⟨fun r lo hi percent base hlohi => ?_, ?_⟩
  · obtain ⟨hlow, hhigh⟩ := nextLevel_bounds (r := r) (percent := percent) (base := base) hlohi
    exact ⟨hlow, hhigh, nextLevel_above, nextLevel_below, nextLevel_within⟩
  intro g s x gs rest r id hq hx hpending hnoisy ht hscore hf ha hp hr hrest hparse hid i y acc hgaps am paid award fed z w
    lifetimePages command active
  have h : RoutineReport g s x rest r id :=
    ⟨hq, hx, hpending, hnoisy, ht, hscore, hf, ha, hp, hr, hrest, hparse, hid, hgaps⟩
  have hreported : y.reported gs id r = { y.answeredGood gs with book := fed } :=
    congrArg (fun b => { y.answeredGood gs with book := b }) (fed_eq (foldReport_folds y.book id.meters .routine r) am)
  have hbook : (y.reported gs id r).book = fed := congrArg Slot.book hreported
  have hafter (v : Slot) (b : Book) (hv : v = { y.answeredGood gs with book := b }) :
      (s.setSeg g (s.seg g).answered).setSlot i v.metered = (s.setSeg g z).setSlot i (w b) := by
    rw [hv]
    rfl
  refine ⟨fun hshort => ?_, fun values now hactive hfull _ hvalues hnow => ?_⟩
  · rw [← hafter _ _ hreported]
    refine h.short ?_ fun q => ?_
    · rw [hbook]
      refine hshort.imp_left fun h => ?_
      rw [← Bool.not_eq_false]
      exact fun hfalse => h ((inert_false (x := y.reported gs id r) hid).mp hfalse)
    · have hmem := mem_reportedPages_iff (i := i) (gs := gs) (y := y) (id := id) (r := r) (q := q)
      rw [hbook] at hmem
      exact hmem
  · intro reset base percent level
    have hlevelNow : (y.reported gs id r).activeLevel = some now :=
      (activeLevel_of (x := y.reported gs id r) hvalues hactive.2.1).trans hnow
    have hcompletes : (y.reported gs id r).Completes base level := by
      refine ⟨(inert_false (x := y.reported gs id r) hid).mpr hactive, ?_, baseLevel_eq hlevelNow, ?_⟩
      · rw [hbook]
        exact hfull
      · rw [hbook, windowPercent_eq]
        rfl
    have hother (hne : level ≠ now) : (y.evaluated gs id r).activeLevel ≠ some level := fun h =>
      hne (Option.some.inj (h.symm.trans hlevelNow))
    have hevaluated : y.evaluated gs id r = { y.answeredGood gs with book := { fed with paid := 0, award := 0 } } := by
      rw [Slot.evaluated, hreported]
      rfl
    have hreset (q) := mem_evaluatedPages_iff (i := i) (gs := gs) (id := id) (r := r) (y := y) (q := q)
    have hsettled (q) := mem_settledPages (i := i) (gs := gs) (id := id) (r := r) (y := y) (q := q)
    rw [hbook] at hreset hsettled
    refine ⟨fun hsame => ?_, fun hbase hsame => ?_, fun hbase hne hd => ?_, fun hbase hne hd => ?_⟩
    · rw [← hafter _ _ hevaluated]
      exact h.evaluates_same hcompletes hsame hreset
    · have hnext := h.evaluates_active hcompletes hbase hsettled (hlevelNow.trans (congrArg some hsame.symm))
      rw [hevaluated] at hnext
      exact hnext
    · have hnext := h.evaluates_waiting hcompletes hbase hsettled (hother hne) hd
      rw [hevaluated] at hnext
      exact hnext
    · have hnext := h.evaluates_applied hcompletes hbase hsettled (hother hne) hd
      rw [hevaluated] at hnext
      exact hnext

end Sys2Proof.Machine

namespace Sys2Proof.Machine

/-! ## The bytes of a page (R168) -/

section
variable {p : PageIx} {generation : Half} {body : List Byte}

/-- R168: the bytes of a page before its check. -/
def pageFront (p : PageIx) (generation : Half) (body : List Byte) : List Byte :=
  be2 p.val ++ be2 generation.toNat ++ body

theorem length_pageFront (hbody : body.length = 250) : (pageFront p generation body).length = 254 := by
  simp [pageFront, hbody]

theorem pageBytes_eq : pageBytes p generation body
    = pageFront p generation body ++ be2 (check16 (pageFront p generation body)) := rfl

theorem liesAt_pageBytes : LiesAt (pageBytes p generation body) 0 (be2 p.val) ∧ LiesAt (pageBytes p generation body) 2
    (be2 generation.toNat) ∧ LiesAt (pageBytes p generation body) 4 body
      ∧ LiesAt (pageBytes p generation body) (4 + body.length) (be2 (check16 (pageFront p generation body))) := by
  have h : LiesAt (pageBytes p generation body) 0 (pageBytes p generation body) := List.prefix_rfl
  conv at h => rhs; rw [pageBytes_eq, pageFront]
  simpa only [liesAt_append, and_assoc, List.length_append, length_be2, Nat.zero_add, Nat.reduceAdd, pageFront] using h

theorem sumBytes_check16 (l : List Byte) : (sumBytes l + check16 l) % 65536 = 0 := by
  rw [check16]
  omega

/-- R168: the bytes of a page pass their check. -/
theorem passesCheck_pageBytes (hbody : body.length = 250) : passesCheck p (pageBytes p generation body) = true := by
  obtain ⟨hpage, -, -, hcheck⟩ := liesAt_pageBytes (p := p) (generation := generation) (body := body)
  rw [hbody] at hcheck
  have hfront := length_pageFront (p := p) (generation := generation) hbody
  have hp := p.isLt
  have hlength : (pageBytes p generation body).length = 256 := by
    rw [pageBytes_eq, List.length_append, hfront, length_be2]
  have htake : (pageBytes p generation body).take 254 = pageFront p generation body := by
    rw [pageBytes_eq, List.take_left' hfront]
  have hsum := halfAt_of_liesAt hcheck (by rw [check16]; omega)
  rw [passesCheck, hlength, htake, hsum, sumBytes_check16, halfAt_of_liesAt hpage (by omega)]
  simp

theorem generation_pageBytes : BitVec.ofNat 16 (halfAt (pageBytes p generation body) 2) = generation := by
  rw [halfAt_of_liesAt liesAt_pageBytes.2.1 (Nat.le_of_lt_succ generation.isLt), BitVec.ofNat_toNat,
    BitVec.setWidth_eq]

theorem body_pageBytes (hbody : body.length = 250) : ((pageBytes p generation body).drop 4).take 250 = body := by
  rw [← hbody]
  exact (List.prefix_iff_eq_take.mp liesAt_pageBytes.2.2.1).symm

end

/-! ## Pages read at the load (R176) -/

section
variable {s t : State} {p q : PageIx} {c : Instr} {bytes : List Byte} {i : SlotIx}

/-- R169, R170: while the store is Loading the Store Controller makes no writes. -/
theorem exec_loading (he : effect c s = t) (h : t.store.state = .loading) : exec c s = .next t :=
  exec_of_quiet he (by simp [Store.quiet, Store.writing, h])

theorem effect_storePageRead (h : s.store.state = .loading) (l : List Byte) :
    effect (.storePageRead l) s = readCompletes l s := if_pos h

theorem effect_pageReadTimeout (h : s.store.state = .loading) : effect .pageReadTimeout s = readFails s := if_pos h

/-- R176: the content of a page that passed its check goes to its owner, and its generation to the Store Controller. -/
def pageTaken (p : PageIx) (bytes : List Byte) (s : State) : State :=
  (takePage p ((bytes.drop 4).take 250) s).modStore fun u =>
    u.modPage p fun m => { m with generation := BitVec.ofNat 16 (halfAt bytes 2) }

theorem readCompletes_passes (h : passesCheck s.store.load.page bytes = true) :
    readCompletes bytes s = advanceLoad (pageTaken s.store.load.page bytes s) := if_pos h

theorem readCompletes_differs (h : passesCheck s.store.load.page bytes = false) : readCompletes bytes s = readFails s :=
  if_neg (by simp [h])

/-- R176: a page whose three reads failed. -/
def pageFailed (p : PageIx) (s : State) : State :=
  (failPage p s).modStore fun u =>
    { u.modPage p (fun m => { m with generation := 0 }) with
      load := { u.load with failed := u.load.failed ++ [p] } }

theorem readFails_again (h : s.store.load.tries < 2) : readFails s
    = { s with store := { s.store with load := { s.store.load with tries := s.store.load.tries + 1 } } } :=
  if_pos (by omega)

theorem readFails_third (h : 2 ≤ s.store.load.tries) :
    readFails s = advanceLoad (pageFailed s.store.load.page s) := if_neg (by omega)

/-- R176: the page after the one read is read next, when it is read at all. -/
theorem nextPage_succ (hq : q.val = s.store.load.page.val + 1) (hr : pageRead s q = true) : nextPage s = some q := by
  rw [nextPage, List.find?_eq_some_iff_getElem]
  refine ⟨by simp [hr, Fin.lt_def, hq], q.val, by simp [allPages], by simp [allPages], fun j hj => ?_⟩
  have hnot : ¬ s.store.load.page.val < j := by omega
  simp [allPages, Fin.lt_def, hnot]

theorem nextPage_none (h : ∀ q, s.store.load.page < q → pageRead s q = false) : nextPage s = none := by
  rw [nextPage, List.find?_eq_none]
  intro q _
  simp only [Bool.and_eq_true, decide_eq_true_eq, not_and, Bool.not_eq_true]
  exact h q

theorem advanceLoad_some (h : nextPage s = some p) :
    advanceLoad s = { s with store := { s.store with load := { s.store.load with page := p, tries := 0 } } } := by
  rw [advanceLoad, h]
  rfl

theorem advanceLoad_none (h : nextPage s = none) : advanceLoad s = endLoad s := by
  rw [advanceLoad, h]

/-- R167: the four pages of a slot follow one another from page 5 on. -/
theorem pageKind_slot (hq : 4 < q.val) (hslot : q.val ≤ 68) : ∃ j : SlotIx, q.val ≤ (faultsPage j).val
    ∧ (pageKind q = .book j ∨ pageKind q = .closed j ∨ pageKind q = .settings j ∨ pageKind q = .faults j) := by
  refine ⟨⟨(q.val - 5) / 4, by omega⟩, by simp only [faultsPage]; omega, ?_⟩
  rw [pageKind, if_neg (by omega), dif_neg (by omega), dif_pos hslot]
  dsimp only
  split <;> simp

theorem pageKind_spare (hq : 68 < q.val) : pageKind q = .spare := by
  rw [pageKind, if_neg (by omega), dif_neg (by omega), dif_neg (by omega)]

/-- R167, R176: a page beyond the roster pages is read for the listed slot that it belongs to. -/
theorem pageRead_listed (hq : 4 < q.val) (hr : pageRead s q = true) :
    ∃ j : SlotIx, q.val ≤ (faultsPage j).val ∧ (s.slot j).table ≠ .unlisted := by
  by_cases hslot : q.val ≤ 68
  · obtain ⟨j, hj, hkind⟩ := pageKind_slot hq hslot
    refine ⟨j, hj, (listed_iff _).mp ?_⟩
    rcases hkind with h | h | h | h <;> rwa [pageRead, h] at hr
  · rw [pageRead, pageKind_spare (by omega)] at hr
    cases hr

theorem pageKind_faultsPage (i : SlotIx) : pageKind (faultsPage i) = .faults i := by
  revert i
  decide

/-- R176: the load ends after the faults page of the last listed slot. -/
theorem nextPage_last (hp : s.store.load.page = faultsPage i) (hlast : ∀ j, i < j → (s.slot j).table = .unlisted) :
    nextPage s = none := by
  refine nextPage_none fun q hq => ?_
  rw [hp, Fin.lt_def] at hq
  by_contra hr
  obtain ⟨j, hj, hl⟩ := pageRead_listed (q := q) (by simp only [faultsPage] at hq; omega) (by simpa using hr)
  exact hl (hlast j (by simp only [faultsPage] at hq hj; rw [Fin.lt_def]; omega))

/-- R176: and after page 4 when no slot is listed. -/
theorem nextPage_unlisted (hp : s.store.load.page = 4) (hnone : ∀ j, (s.slot j).table = .unlisted) :
    nextPage s = none := by
  refine nextPage_none fun q hq => ?_
  rw [hp, Fin.lt_def] at hq
  by_contra hr
  obtain ⟨j, -, hl⟩ := pageRead_listed hq (by simpa using hr)
  exact hl (hnone j)

/-! ### The book page -/

theorem takePage_book (body : List Byte) :
    takePage (bookPage i) body s = s.modSlot i fun x => { x with book := bookFrom (bookPage i).val body x.book } := by
  rw [takePage, pageKind_bookPage]

theorem failPage_book : failPage (bookPage i) s = s.modSlot i fun x => { x with book := x.book.withoutBookPage } := by
  rw [failPage, pageKind_bookPage]

/-- R176: after a book page of a listed slot its closed-period page is read. -/
theorem nextPage_closed (hp : s.store.load.page = bookPage i) (hl : (s.slot i).table ≠ .unlisted) :
    nextPage s = some (closedPage i) := by
  refine nextPage_succ (by rw [hp]; rfl) ?_
  rw [pageRead, pageKind_closedPage]
  exact (listed_iff _).mpr hl

/-! ### Page 0 -/

theorem takePage_zero (body : List Byte) : takePage 0 body s
    = (if hasFormatMark body then { s with watch := watchOf body } else s).modStore fun u =>
        { u with
          nodeMismatch := byteAt body 2 != s.node.toNat
          load := { u.load with zero := if hasFormatMark body then .held else .noMark } } := rfl

theorem byteAt_body (l : List Byte) : byteAt ((l.drop 4).take 250) 2 = (l.getD 6 0).toNat := by
  rw [byteAt, List.getD_eq_getElem?_getD, List.getD_eq_getElem?_getD, List.getElem?_take_of_lt (by decide),
    List.getElem?_drop]

theorem bne_node (b : Byte) (node : BitVec 6) : (b.toNat != node.toNat) = (b != node.setWidth 8) := by
  have hnode := node.isLt
  have hwide : (node.setWidth 8).toNat = node.toNat := by
    rw [BitVec.toNat_setWidth]
    omega
  rw [Bool.eq_iff_iff, bne_iff_ne, bne_iff_ne, ne_eq, ne_eq, BitVec.toNat_eq, hwide]

end

/-! ## The end of the load (R177, R178) -/

/-- Between two states the segments, the store's state and format mark, and the slots' fault rosters stay. -/
structure LoadKeeps (s t : State) : Prop where
  seg : ∀ g, t.seg g = s.seg g
  state : t.store.state = s.store.state
  formatted : t.store.formatted = s.store.formatted
  faults : ∀ j, (t.slot j).faults = (s.slot j).faults

theorem LoadKeeps.refl (s : State) : LoadKeeps s s := ⟨fun _ => rfl, rfl, rfl, fun _ => rfl⟩

section
variable {s t u : State} {i : SlotIx}

theorem LoadKeeps.trans (h : LoadKeeps s t) (k : LoadKeeps t u) : LoadKeeps s u :=
  ⟨fun g => (k.seg g).trans (h.seg g), k.state.trans h.state, k.formatted.trans h.formatted,
    fun j => (k.faults j).trans (h.faults j)⟩

theorem modSlot_loadKeeps (i : SlotIx) (f : Slot → Slot) (s : State) (hf : ∀ x, (f x).faults = x.faults) :
    LoadKeeps s (s.modSlot i f) := by
  refine ⟨fun g => by cases g <;> rfl, rfl, rfl, fun j => ?_⟩
  by_cases hj : j = i
  · rw [hj, slot_modSlot_same, hf]
  · rw [slot_modSlot_other s f hj]

theorem enqueuePage_loadKeeps (p : PageIx) (s : State) : LoadKeeps s (enqueuePage p s) :=
  ⟨seg_enqueuePage p s, (askWrite_holds ..).state, (askWrite_leaves s.store p (pageBody s p)).1,
    fun j => by rw [slot_enqueuePage]⟩

theorem clearReservations_loadKeeps (i : SlotIx) (s : State) : LoadKeeps s (clearReservations i s) :=
  ⟨seg_clearReservations i s, by rw [clearReservations_store], by rw [clearReservations_store],
    fun j => by rw [slot_clearReservations]⟩

theorem joinQueue_loadKeeps (i : SlotIx) (priority : Nat) (origin : EntryOrigin) (s : State) :
    LoadKeeps s (joinQueue i priority origin s) :=
  ⟨seg_joinQueue i priority origin s, rfl, rfl, fun _ => rfl⟩

theorem dropOutcome_loadKeeps (i : SlotIx) (s : State) : LoadKeeps s (dropOutcome i s) := by
  unfold dropOutcome
  split
  · exact .refl s
  · refine .trans ?_ (enqueuePage_loadKeeps ..)
    exact modSlot_loadKeeps i _ s fun _ => rfl

theorem settleOutcome_loadKeeps (i : SlotIx) (s : State) : LoadKeeps s (settleOutcome i s) := by
  unfold settleOutcome
  dsimp only
  split
  · exact .refl s
  · split
    · exact dropOutcome_loadKeeps i s
    · exact .refl s

theorem applyOutcome_loadKeeps (i : SlotIx) (level : Nat) (s : State) : LoadKeeps s (applyOutcome i level s) := by
  unfold applyOutcome
  dsimp only
  refine .trans ?_ (enqueuePage_loadKeeps ..)
  refine .trans ?_ (clearReservations_loadKeeps ..)
  refine .trans ?_ (joinQueue_loadKeeps ..)
  exact modSlot_loadKeeps i _ s fun _ => rfl

theorem offerLoaded_loadKeeps (i : SlotIx) (s : State) : LoadKeeps s (offerLoaded i s) := by
  refine (settleOutcome_loadKeeps i s).trans ?_
  unfold offerLoaded offerOutcome
  dsimp only
  split
  · exact .refl _
  · split
    · exact dropOutcome_loadKeeps i _
    · split
      · exact applyOutcome_loadKeeps i _ _
      · exact .refl _

/-- R151, R156: an event fault of roster 0 leaves the segments, the slots and the store. -/
theorem eventFault_zero_loadKeeps (k : FaultKey) (s : State) : LoadKeeps s (eventFault 0 k s) := by
  have hput (r : FaultRoster) : (putRoster 0 r s).store = s.store ∧ (putRoster 0 r s).slots = s.slots := ⟨rfl, rfl⟩
  have hkept : (eventFault 0 k s).store = s.store ∧ (eventFault 0 k s).slots = s.slots := by
    unfold eventFault enterFault
    dsimp only
    split
    · rw [offerEntry_store, offerEntry_slots]
      exact hput _
    · exact hput _
  exact ⟨seg_eventFault 0 k s, by rw [hkept.1], by rw [hkept.1], fun j => by rw [slot_congr hkept.2]⟩

theorem enterLoadFailures_loadKeeps (s : State) : LoadKeeps s (enterLoadFailures s) := by
  unfold enterLoadFailures
  induction s.store.load.failed generalizing s with
  | nil => exact .refl s
  | cons p ps ih => exact (eventFault_zero_loadKeeps _ s).trans (ih _)

/-- R13, R178: both segments enter Starting. -/
theorem seg_bothStarting (s : State) (g : SegId) : ((enterStarting .b (enterStarting .a s)).seg g).state
    = if (s.seg g).inputs.bias || (s.seg g).inputs.short || (s.seg g).inputs.ground then .faulted else .starting := by
  cases g with
  | a => rw [seg_enterStarting_other _ (by decide), seg_enterStarting_same]; rfl
  | b => rw [seg_enterStarting_same, seg_enterStarting_other _ (by decide)]; rfl

theorem bothStarting_facts (s : State) : (enterStarting .b (enterStarting .a s)).store = s.store
    ∧ (enterStarting .b (enterStarting .a s)).slots = s.slots
    ∧ (enterStarting .b (enterStarting .a s)).watch = s.watch := by
  obtain ⟨haslots, hastore, -⟩ := enterStarting_facts .a s
  obtain ⟨hbslots, hbstore, -⟩ := enterStarting_facts .b (enterStarting .a s)
  have henv : (enterStarting .b (enterStarting .a s)).env = s.env := by rw [enterStarting_env, enterStarting_env]
  exact ⟨hbstore.trans hastore, hbslots.trans haslots, congrArg (fun e => e.2.2.1) henv⟩

/-- R178: with the format mark found the load ends with the store Ready and both segments in Starting or Faulted. -/
theorem endLoad_held (h : mustFormat s.store = false) : (endLoad s).store.state = .ready
    ∧ (endLoad s).store.formatted = s.store.formatted ∧ (endLoad s).watch = s.watch
    ∧ (∀ j, ((endLoad s).slot j).faults = (s.slot j).faults)
    ∧ ∀ g, ((endLoad s).seg g).state
        = if (s.seg g).inputs.bias || (s.seg g).inputs.short || (s.seg g).inputs.ground then .faulted
          else .starting := by
  have hfailures := enterLoadFailures_loadKeeps s
  set u := (enterLoadFailures s).modStore fun x => { x with state := .ready } with hu
  have hoffers : LoadKeeps u (u.forSlots u.listedSlots offerLoaded) :=
    forSlots_induction (P := LoadKeeps u) _ (.refl u) fun i _ v hv => hv.trans (offerLoaded_loadKeeps i v)
  set v := u.forSlots u.listedSlots offerLoaded with hv
  have hend : endLoad s = enterStarting .b (enterStarting .a v) := by
    rw [endLoad_eq, loaded, h]
    rfl
  have hwatch : v.watch = s.watch := by
    have henv : v.env = s.env := by
      simp [hv, hu, enterLoadFailures, offerLoaded]
    exact congrArg (fun e => e.2.2.1) henv
  obtain ⟨hstore, hslots, hwatched⟩ := bothStarting_facts v
  rw [hend]
  refine ⟨?_, ?_, hwatched.trans hwatch, fun j => ?_, fun g => ?_⟩
  · rw [hstore, hoffers.state]
    rfl
  · rw [hstore, hoffers.formatted]
    exact hfailures.formatted
  · rw [slot_congr hslots, hoffers.faults]
    exact hfailures.faults j
  · have hseg : v.seg g = s.seg g := (hoffers.seg g).trans ((seg_modStore ..).trans (hfailures.seg g))
    rw [seg_bothStarting, hseg]

/-- R177: the state that a format leaves, before both segments enter Starting. -/
def State.formattedReady (s : State) : State := (formatStore s).modStore fun x => { x with state := .ready }

theorem slot_formattedReady (s : State) (j : SlotIx) : s.formattedReady.slot j = Slot.unlisted := by
  simp [State.formattedReady, State.slot, formatStore]

/-- R177, R178: the load ends with a format. -/
theorem endLoad_formats (h : mustFormat s.store = true) :
    endLoad s = enterStarting .b (enterStarting .a s.formattedReady) := by
  have hnone : s.formattedReady.listedSlots = [] := by
    rw [List.eq_nil_iff_forall_not_mem]
    intro j hj
    exact mem_listedSlots.mp hj (by rw [slot_formattedReady]; rfl)
  rw [endLoad_eq, loaded, h]
  change enterStarting .b (enterStarting .a (s.formattedReady.forSlots s.formattedReady.listedSlots offerLoaded)) = _
  rw [hnone]
  rfl

end

/-! ### Records of roster 0 at the end of the load -/

section
variable {r : FaultRoster} {k m : FaultKey} {origin : Origin} {kind : EntryKind} {now : Stamp}

theorem find_isSome_iff : (∃ y, r.find k = some y) ↔ ∃ x ∈ r.records, x.key = k := by
  rw [← Option.isSome_iff_exists, FaultRoster.find, List.find?_isSome]
  simp

/-- R154 to R157: an entry makes a record of its own key alone. -/
theorem find_of_enter (hk : m ≠ k) (h : ∃ y, (r.enter k origin kind now).1.find m = some y) : ∃ y, r.find m = some y := by
  rw [find_isSome_iff] at h ⊢
  obtain ⟨x, hx, hkey⟩ := h
  unfold FaultRoster.enter at hx
  split at hx
  · obtain ⟨z, hz, rfl⟩ := List.mem_map.mp hx
    refine ⟨z, hz, ?_⟩
    rw [← hkey]
    split <;> rfl
  · have hadded {r' : FaultRoster} (hsub : ∀ z ∈ r'.records, z ∈ r.records)
        (hx : x ∈ (r'.add (.first k origin kind now)).records) : ∃ z ∈ r.records, z.key = m := by
      rcases List.mem_append.mp hx with hx | hx
      · exact ⟨x, hsub x hx, hkey⟩
      · obtain rfl := List.mem_singleton.mp hx
        exact absurd hkey.symm hk
    split at hx
    · exact hadded (fun _ => id) hx
    · split at hx
      · exact hadded (fun z hz => List.mem_of_mem_filter hz) hx
      · exact ⟨x, hx, hkey⟩

end

/-- R11: a segment that enters Starting opens records of its line alone. -/
theorem find_of_enterStarting {g : SegId} {s : State} {m : FaultKey} (hm : m.cls ≠ 131)
    (h : ∃ y, (enterStarting g s).hubFaults.find m = some y) : ∃ y, s.hubFaults.find m = some y := by
  have hopen (kind : LineFaultKind) (u : State) (h : ∃ y, (openIfAsserted g kind u).hubFaults.find m = some y) :
      ∃ y, u.hubFaults.find m = some y := by
    unfold openIfAsserted at h
    split at h
    · rw [openCondition_hubFaults] at h
      exact find_of_enter (fun hk => hm (by rw [hk]; rfl)) h
    · exact h
  have hall := hopen .biasLost _ (hopen .shorted _ (hopen .grounded _ h))
  rwa [modSeg_hubFaults] at hall

end Sys2Proof.Machine

namespace Sys2Proof.Machine

/-! ### The pages of a store just formatted (R169, R170, R177) -/

theorem lowestDeferred_some {t : Store} {p : PageIx} (hp : (t.page p).deferred = true)
    (hlow : ∀ q, q < p → (t.page q).deferred = false) : t.lowestDeferred = some p := by
  have hget (k : Nat) (hk : k < 128) : (List.zip allPages t.pages.toList)[k]'(by simpa [allPages] using hk)
      = ((⟨k, hk⟩ : PageIx), t.page ⟨k, hk⟩) := by
    simp [allPages, Store.page]
  have hfound : (List.zip allPages t.pages.toList).find? (fun x => x.2.deferred) = some (p, t.page p) := by
    rw [List.find?_eq_some_iff_getElem]
    refine ⟨hp, p.val, by simp [allPages], hget p.val p.isLt, fun j hj => ?_⟩
    rw [hget j (hj.trans p.isLt), hlow ⟨j, hj.trans p.isLt⟩ hj]
    rfl
  rw [Store.lowestDeferred, hfound]
  rfl

/-- R169, R177: part of the way through the pages of a formatted store: but for the store the state is `e`, the pages
from `lo` to before `n` wait with its contents, and those from `n` on are deferred. -/
structure Filling (e : State) (flight : Option WriteInFlight) (generation : PageIx → Half) (lo n : Nat) (s : State) :
    Prop where
  state : ∃ u, s = { e with store := u }
  ready : s.store.state = .ready
  formatted : s.store.formatted = e.store.formatted
  inFlight : s.store.inFlight = flight
  waiting : s.store.waiting.map (fun w => w.page.val) = List.range' lo (n - lo)
  content : ∀ w ∈ s.store.waiting, w.snapshot = pageBody e w.page
  deferred : ∀ q, (s.store.page q).deferred = decide (n ≤ q.val)
  generations : ∀ q, (s.store.page q).generation = generation q

section
variable {e s : State} {flight : Option WriteInFlight} {generation : PageIx → Half} {lo n : Nat}

theorem Filling.length (h : Filling e flight generation lo n s) : s.store.waiting.length = n - lo := by
  simpa using congrArg List.length h.waiting

theorem Filling.writing (h : Filling e flight generation lo n s) : s.store.writing = true := by
  simp [Store.writing, h.ready]

/-- R169: with a free place, the next page takes it. -/
theorem Filling.fillPlace (h : Filling e flight generation lo n s) (hlo : lo ≤ n) (hn : n < 128) (hroom : n < lo + 8) :
    ∃ t, fillPlace s = some t ∧ Filling e flight generation lo (n + 1) t := by
  have hlength := h.length
  have hlowest : s.store.lowestDeferred = some ⟨n, hn⟩ :=
    lowestDeferred_some (by rw [h.deferred]; simp) fun q hq => by
      rw [h.deferred, decide_eq_false_iff_not]
      exact Nat.not_le.mpr hq
  have hbody (q : PageIx) : pageBody s q = pageBody e q := by
    obtain ⟨u, rfl⟩ := h.state
    rfl
  have hmarks (q : PageIx) (hq : q ≠ ⟨n, hn⟩) := page_modPage_other s.store
    (fun m => { m with deferred := false, deferredTags := [] }) hq
  have hmark := page_modPage_same s.store ⟨n, hn⟩ fun m => { m with deferred := false, deferredTags := [] }
  refine ⟨_, by rw [Machine.fillPlace, if_pos (by simp [h.writing, hlength, Config.writeCapacity]; omega), hlowest]; rfl, ?_⟩
  refine ⟨?_, h.ready, h.formatted, h.inFlight, ?_, fun w hw => ?_, fun q => ?_, fun q => ?_⟩
  · obtain ⟨u, rfl⟩ := h.state
    exact ⟨_, rfl⟩
  · have hrange : List.range' lo (n + 1 - lo) = List.range' lo (n - lo) ++ [n] := by
      rw [Nat.sub_add_comm hlo, List.range'_concat, Nat.one_mul, Nat.add_sub_cancel' hlo]
    rw [hrange, ← h.waiting]
    exact List.map_append
  · rcases List.mem_append.mp hw with hw | hw
    · exact h.content w hw
    · obtain rfl := List.mem_singleton.mp hw
      exact hbody _
  · by_cases hq : q = ⟨n, hn⟩
    · subst hq
      exact (congrArg PageMarks.deferred hmark).trans (by simp)
    · refine (congrArg PageMarks.deferred (hmarks q hq)).trans ((h.deferred q).trans ?_)
      have hne : q.val ≠ n := fun h => hq (Fin.ext h)
      rw [decide_eq_decide]
      omega
  · by_cases hq : q = ⟨n, hn⟩
    · subst hq
      exact (congrArg PageMarks.generation hmark).trans (h.generations _)
    · exact (congrArg PageMarks.generation (hmarks q hq)).trans (h.generations q)

theorem Filling.fillPlace_full (h : Filling e flight generation lo (lo + 8) s) : Machine.fillPlace s = none := by
  have hlength := h.length
  exact if_neg (by simp [hlength])

/-- R169: the places of the queue are filled. -/
theorem Filling.fillPlaces (hlast : lo + 8 ≤ 128) (k : Nat) (h : Filling e flight generation lo n s) (hlo : lo ≤ n)
    (hn : n ≤ lo + 8) (hk : lo + 8 ≤ n + k) : Filling e flight generation lo (lo + 8) (fillPlaces k s) := by
  induction k generalizing n s with
  | zero =>
    obtain rfl : n = lo + 8 := by omega
    exact h
  | succ k ih =>
    unfold Machine.fillPlaces
    by_cases hfull : n = lo + 8
    · subst hfull
      rw [h.fillPlace_full]
      exact h
    · obtain ⟨t, ht, hfill⟩ := h.fillPlace hlo (by omega) (by omega)
      rw [ht]
      exact ih hfill (by omega) (by omega) (by omega)

/-- R170: the first page that waits is issued. -/
theorem Filling.issue (h : Filling e none generation lo n s) (hlo : lo < n) :
    ∃ v : WriteInFlight, v.page.val = lo ∧ v.generation = generation v.page + 1 ∧ v.snapshot = pageBody e v.page
      ∧ Filling e (some v) (fun q => if q = v.page then generation q + 1 else generation q) (lo + 1) n
        (s.modStore Store.issue) := by
  have hrange : List.range' lo (n - lo) = lo :: List.range' (lo + 1) (n - (lo + 1)) := by
    rw [show n - lo = n - (lo + 1) + 1 by omega, List.range'_succ]
  cases hw : s.store.waiting with
  | nil =>
    have hwaiting := h.waiting
    rw [hw, hrange] at hwaiting
    cases hwaiting
  | cons w rest =>
    have hwaiting := h.waiting
    rw [hw, hrange, List.map_cons, List.cons.injEq] at hwaiting
    obtain ⟨hpage, hrest⟩ := hwaiting
    have hissue := issue_cons h.writing h.inFlight hw
    have hmarks (q : PageIx) (hq : q ≠ w.page) := page_modPage_other s.store
      (fun m => { m with generation := (s.store.page w.page).generation + 1 }) hq
    have hmark := page_modPage_same s.store w.page
      fun m => { m with generation := (s.store.page w.page).generation + 1 }
    refine ⟨{ page := w.page, generation := (s.store.page w.page).generation + 1, snapshot := w.snapshot
              tags := w.tags, attempt := 1 }, hpage, by rw [h.generations], h.content w (by simp [hw]), ?_⟩
    rw [State.modStore, hissue]
    refine ⟨?_, h.ready, h.formatted, rfl, hrest, fun x hx => h.content x (by rw [hw]; exact List.mem_cons_of_mem w hx),
      fun q => ?_, fun q => ?_⟩
    · obtain ⟨u, rfl⟩ := h.state
      exact ⟨_, rfl⟩
    · by_cases hq : q = w.page
      · subst hq
        exact (congrArg PageMarks.deferred hmark).trans (h.deferred _)
      · exact (congrArg PageMarks.deferred (hmarks q hq)).trans (h.deferred q)
    · by_cases hq : q = w.page
      · subst hq
        refine (congrArg PageMarks.generation hmark).trans ?_
        rw [if_pos rfl, h.generations]
      · rw [if_neg hq]
        exact (congrArg PageMarks.generation (hmarks q hq)).trans (h.generations q)

/-- R169, R170, R177: the Store Controller's work after a format: page 0 issued, the next eight waiting. -/
theorem Filling.pumped (h : Filling s none (fun _ => 0) 0 0 s) : ∃ v : WriteInFlight, v.page = 0 ∧ v.generation = 1
    ∧ v.snapshot = pageBody s 0
    ∧ Filling s (some v) (fun q => if q = 0 then 1 else 0) 1 9 (pumpStore s) := by
  have hfirst := h.fillPlaces (by decide) Config.writeCapacity le_rfl (by decide) le_rfl
  obtain ⟨v, hpage, hgeneration, hsnapshot, hissued⟩ := hfirst.issue (by decide)
  have hzero : v.page = 0 := Fin.ext hpage
  have hlast := hissued.fillPlaces (by decide) Config.writeCapacity (by decide) (by decide) (by decide)
  rw [hzero] at hsnapshot hlast
  exact ⟨v, hzero, hgeneration, hsnapshot, hlast⟩

/-- R169: the pages that wait, by their numbers. -/
theorem Filling.pages (h : Filling e flight generation 1 9 s) :
    s.store.waiting.map WriteEntry.page = [1, 2, 3, 4, 5, 6, 7, 8] := by
  refine List.map_injective_iff.mpr Fin.val_injective ?_
  rw [List.map_map]
  exact h.waiting

theorem pageBody_pumpStore (s : State) (q : PageIx) : pageBody (pumpStore s) q = pageBody s q :=
  pageBody_of_slots (pumpStore_slots s) (pumpStore_node s) (pumpStore_watch s) q

end

/-! ### The load's last pages -/

section
variable {s : State} {i : SlotIx}

/-- R177, R178: the store of a load that ends with a format, before the Store Controller works. -/
theorem endLoad_filling (h : mustFormat s.store = true) (hw : s.store.waiting = []) (hi : s.store.inFlight = none) :
    Filling (endLoad s) none (fun _ => 0) 0 0 (endLoad s) := by
  have hstore : (endLoad s).store = s.formattedReady.store := by
    rw [endLoad_formats h]
    exact (bothStarting_facts _).1
  have hpage (q : PageIx) : (endLoad s).store.page q = { PageMarks.clear with deferred := true } := by
    rw [hstore]
    simp [State.formattedReady, formatStore, Store.page]
  refine ⟨⟨_, rfl⟩, by rw [hstore]; rfl, rfl, by rw [hstore]; exact hi, ?_, fun w hmem => ?_, fun q => ?_, fun q => ?_⟩
  · rw [hstore]
    exact congrArg (List.map fun w => w.page.val) hw
  · rw [hstore, show s.formattedReady.store.waiting = [] from hw] at hmem
    cases hmem
  · rw [hpage]
    simp
  · rw [hpage]
    rfl

theorem takePage_faults (body : List Byte) :
    takePage (faultsPage i) body s = s.modSlot i fun x => { x with faults := faultsFrom (faultsPage i).val body } := by
  rw [takePage, pageKind_faultsPage]

theorem table_pageTaken_faults (l : List Byte) (j : SlotIx) :
    ((pageTaken (faultsPage i) l s).slot j).table = (s.slot j).table := by
  rw [pageTaken, takePage_faults, slot_modStore]
  by_cases hj : j = i
  · rw [hj, slot_modSlot_same]
  · rw [slot_modSlot_other s _ hj]

theorem seg_pageTaken_faults (l : List Byte) (g : SegId) : (pageTaken (faultsPage i) l s).seg g = s.seg g := by
  rw [pageTaken, takePage_faults, seg_modStore, seg_modSlot]

/-- R176: the load ends with the faults page of the last listed slot. -/
theorem effect_lastPage {l : List Byte} (hs : s.store.state = .loading) (hpage : s.store.load.page = faultsPage i)
    (hlast : ∀ j, i < j → (s.slot j).table = .unlisted) (hl : passesCheck (faultsPage i) l = true) :
    effect (.storePageRead l) s = endLoad (pageTaken (faultsPage i) l s) := by
  have hnext : nextPage (pageTaken (faultsPage i) l s) = none :=
    nextPage_last (i := i) (by rw [pageTaken, takePage_faults]; exact hpage) fun j hj => by
      rw [table_pageTaken_faults, hlast j hj]
  rw [effect_storePageRead hs, readCompletes_passes (by rwa [hpage]), hpage, advanceLoad_none hnext]

/-- R176: a roster page that failed leaves its slots Unlisted. -/
theorem table_loadRoster (k : Fin 4) (s : State) (j : SlotIx)
    (h : j ∈ rosterSlots k ∨ (s.slot j).table = .unlisted) :
    ((loadRoster k (fun _ => Slot.unlisted) s).slot j).table = .unlisted := by
  have hfold (l : List (SlotIx × Nat)) (s : State) (h : j ∈ l.map Prod.fst ∨ (s.slot j).table = .unlisted) :
      ((l.foldl (fun t x => t.setSlot x.1 Slot.unlisted) s).slot j).table = .unlisted := by
    induction l generalizing s with
    | nil => simpa using h
    | cons x l ih =>
      refine ih (s.setSlot x.1 Slot.unlisted) ?_
      by_cases hx : j = x.1
      · subst hx
        exact .inr (by rw [slot_setSlot_same]; rfl)
      · rw [slot_setSlot_other s _ hx]
        exact h.imp_left fun hmem => (List.mem_cons.mp hmem).resolve_left hx
  refine hfold _ s (h.imp_left fun hmem => ?_)
  rwa [List.zipIdx_map_fst]

theorem pageFailed_four : pageFailed 4 s = (loadRoster 3 (fun _ => Slot.unlisted) s).modStore fun u =>
    { u.modPage 4 (fun m => { m with generation := 0 }) with
      load := { u.load with failed := u.load.failed ++ [4] } } := rfl

theorem table_pageFailed_four (h : ∀ j : SlotIx, j.val < 12 → (s.slot j).table = .unlisted) (j : SlotIx) :
    ((pageFailed 4 s).slot j).table = .unlisted := by
  rw [pageFailed_four, slot_modStore]
  refine table_loadRoster 3 s j ?_
  by_cases hj : j.val < 12
  · exact .inr (h j hj)
  · left
    revert hj
    revert j
    decide

end

theorem pageTaken_zero (s : State) (l : List Byte) : (pageTaken 0 l s).slots = s.slots
    ∧ (pageTaken 0 l s).store.state = s.store.state ∧ (pageTaken 0 l s).store.load.page = s.store.load.page
    ∧ (pageTaken 0 l s).store.nodeMismatch = (l.getD 6 0 != s.node.setWidth 8)
    ∧ (hasFormatMark ((l.drop 4).take 250) = true → (pageTaken 0 l s).watch = watchOf ((l.drop 4).take 250)) := by
  rw [pageTaken, takePage_zero, ← bne_node, ← byteAt_body]
  cases hasFormatMark ((l.drop 4).take 250) with
  | true => exact ⟨rfl, rfl, rfl, rfl, fun _ => rfl⟩
  | false => exact ⟨rfl, rfl, rfl, rfl, fun h => nomatch h⟩

theorem pumpStore_formatted (s : State) : (pumpStore s).store.formatted = s.store.formatted := by
  have hplaces (n : Nat) (s : State) : (fillPlaces n s).store.formatted = s.store.formatted := by
    induction n generalizing s with
    | zero => rfl
    | succ n ih =>
      unfold fillPlaces
      split
      · rfl
      · next t ht =>
        unfold fillPlace at ht
        split at ht
        · obtain ⟨q, -, rfl⟩ := Option.map_eq_some_iff.mp ht
          exact ih _
        · cases ht
  exact (hplaces ..).trans ((issue_leaves _).1.trans (hplaces ..))

/-- Settles O54: the taking of a page by its kind, the page read next, and the end of the load with the format mark held
or with a format. -/
theorem loadReadsPages : Obligations.LoadReadsPages := by
  unfold Obligations.LoadReadsPages
  intro s i hs starts formats
  have hformat {c : Instr} {u : State} (he : effect c s = endLoad u) (hm : mustFormat u.store = true)
      (hw : u.store.waiting = []) (hi : u.store.inFlight = none) (hseg : ∀ g, u.seg g = s.seg g)
      (hhub : u.hubFaults = s.hubFaults) : ∃ t, exec c s = .next t ∧ starts t ∧ formats t := by
    obtain ⟨v, hpage, hgeneration, hsnapshot, hfilled⟩ := (endLoad_filling hm hw hi).pumped
    obtain ⟨hstore, hslots, hwatch⟩ := bothStarting_facts u.formattedReady
    have hend := endLoad_formats hm
    refine ⟨_, exec_eq c s, fun g => ?_, ?_⟩ <;> rw [he]
    · have hready : u.formattedReady.seg g = s.seg g := by
        rw [← hseg]
        cases g <;> rfl
      rw [seg_pumpStore, hend, seg_bothStarting, hready]
    · refine ⟨hfilled.ready, ?_, fun j => ?_, ?_, fun q hq => ?_, ⟨v, hfilled.inFlight, hpage, hgeneration, ?_⟩,
        hfilled.pages, fun e hmem => ?_, hfilled.deferred, hfilled.generations⟩
      · rw [hfilled.formatted, hend, hstore]
        rfl
      · rw [slot_pumpStore, hend, slot_congr hslots, slot_formattedReady]
      · rw [pumpStore_watch, hend, hwatch]
        rfl
      · rw [pumpStore_hubFaults, hend] at hq
        have hcls : (132 : Byte) ≠ 131 := by decide
        have hfound := find_of_enterStarting hcls (find_of_enterStarting hcls hq)
        rwa [show u.formattedReady.hubFaults = s.hubFaults from hhub] at hfound
      · rw [pageBody_pumpStore, hsnapshot]
      · rw [pageBody_pumpStore, hfilled.content e hmem]
  refine ⟨fun hpage hl => ⟨fun generation body hbody => ?_, fun htries c hc => ?_, fun htries => ?_⟩,
    fun hpage l hl => ?_, fun hpage hlast hzero l hl => ?_, fun hpage hlast hzero hw hi _ l hl => ?_,
    fun hpage hlow hzero hfailed htries hw hi => ?_⟩
  · have hnext : nextPage (pageTaken (bookPage i) (pageBytes (bookPage i) generation body) s) = some (closedPage i) := by
      rw [pageTaken, takePage_book]
      exact nextPage_closed hpage (by rw [slot_modStore, slot_modSlot_same]; exact hl)
    refine exec_loading ((effect_storePageRead hs _).trans ?_) hs
    rw [readCompletes_passes (by rw [hpage]; exact passesCheck_pageBytes hbody), hpage, advanceLoad_some hnext, pageTaken,
      takePage_book, body_pageBytes hbody, generation_pageBytes]
    rfl
  · rcases hc with rfl | ⟨l, hl, rfl⟩
    · exact exec_loading ((effect_pageReadTimeout hs).trans (readFails_again htries)) hs
    · exact exec_loading ((effect_storePageRead hs l).trans ((readCompletes_differs (by rwa [hpage])).trans
        (readFails_again htries))) hs
  · have hnext : nextPage (pageFailed (bookPage i) s) = some (closedPage i) := by
      rw [pageFailed, failPage_book]
      exact nextPage_closed hpage (by rw [slot_modStore, slot_modSlot_same]; exact hl)
    refine exec_loading ((effect_pageReadTimeout hs).trans ?_) hs
    rw [readFails_third htries, hpage, advanceLoad_some hnext, pageFailed, failPage_book]
    rfl
  · obtain ⟨hslots, hstate, hread, hmismatch, hwatch⟩ := pageTaken_zero s l
    have hnext : nextPage (pageTaken 0 l s) = some 1 := nextPage_succ (by rw [hread, hpage]; rfl) rfl
    have heffect : effect (.storePageRead l) s = advanceLoad (pageTaken 0 l s) :=
      (effect_storePageRead hs l).trans ((readCompletes_passes (by rwa [hpage])).trans (by rw [hpage]))
    rw [advanceLoad_some hnext] at heffect
    exact ⟨_, exec_loading heffect (hstate.trans hs), rfl, hmismatch, hslots, hwatch⟩
  · have heffect := effect_lastPage hs hpage hlast hl
    have hheld : mustFormat (pageTaken (faultsPage i) l s).store = false := by
      rw [pageTaken, takePage_faults]
      simp [mustFormat, State.modStore, State.modSlot, State.setSlot, hzero]
    obtain ⟨hready, hformatted, hwatch, hfaults, hstarts⟩ := endLoad_held hheld
    refine ⟨_, exec_eq _ s, ?_, ?_, fun g => ?_, ?_, ?_⟩ <;> rw [heffect]
    · rw [pumpStore_state, hready]
    · rw [pumpStore_formatted, hformatted, pageTaken, takePage_faults]
      rfl
    · rw [seg_pumpStore, hstarts, seg_pageTaken_faults]
    · rw [slot_pumpStore, hfaults, pageTaken, takePage_faults, slot_modStore, slot_modSlot_same]
    · rw [pumpStore_watch, hwatch, pageTaken, takePage_faults]
      rfl
  · refine hformat (effect_lastPage hs hpage hlast hl) ?_ ?_ ?_ (seg_pageTaken_faults l) ?_ <;> rw [pageTaken, takePage_faults]
    · simp [mustFormat, State.modStore, State.modSlot, State.setSlot, hzero]
    · exact hw
    · exact hi
    · rfl
  · have hnext : nextPage (pageFailed 4 s) = none :=
      nextPage_unlisted hpage (table_pageFailed_four hlow)
    have heffect : effect .pageReadTimeout s = endLoad (pageFailed 4 s) :=
      (effect_pageReadTimeout hs).trans ((readFails_third htries.ge).trans (by rw [hpage, advanceLoad_none hnext]))
    have hstore : (pageFailed 4 s).store.load = { s.store.load with failed := [0, 1, 2, 3, 4] } :=
      congrArg (fun l => { s.store.load with failed := l ++ [4] }) hfailed
    refine hformat heffect ?_ hw hi (fun g => by cases g <;> rfl) rfl
    rw [mustFormat, hstore, hzero]
    rfl

end Sys2Proof.Machine

namespace Sys2Proof.Machine

/-! ## The tags of store groups (R172) -/

section
variable {t : Store} {p q : PageIx} {c : List Byte} {k : Nat}

theorem mem_joinTags {held taken : List Nat} : k ∈ joinTags held taken ↔ k ∈ held ∨ k ∈ taken := by
  simp only [joinTags, List.mem_append, List.mem_filter, Bool.not_eq_true', List.contains_eq_mem, decide_eq_false_iff_not]
  tauto

theorem boundIn_iff : t.boundIn p k = true ↔ (∃ e ∈ t.waiting, e.page = p ∧ k ∈ e.tags)
    ∨ (∃ w, t.inFlight = some w ∧ w.page = p ∧ k ∈ w.tags)
    ∨ ((t.page p).deferred = true ∧ k ∈ (t.page p).deferredTags) := by
  unfold Store.boundIn
  cases t.inFlight <;> simp [or_assoc]

/-- R169, R172: a page asked for joins the groups not yet ended that it is of. -/
theorem askWrite_boundIn (hw : t.writing = true) (hk : k ∈ t.tagsOf p) : (t.askWrite p c).boundIn p k = true := by
  rw [boundIn_iff, Store.askWrite, if_neg (by simp [hw])]
  split
  · next hany =>
    obtain ⟨e, he, hp⟩ := List.any_eq_true.mp hany
    have hpage : e.page = p := by simpa using hp
    exact .inl ⟨_, List.mem_map.mpr ⟨e, he, rfl⟩, by simp [hpage], by simp [hpage, mem_joinTags, hk]⟩
  · split
    · exact .inl ⟨_, List.mem_append_right _ (List.mem_singleton_self _), rfl, hk⟩
    · refine .inr (.inr ?_)
      rw [page_modPage_same]
      exact ⟨rfl, mem_joinTags.mpr (.inr hk)⟩

/-- R169, R172: asking for a page takes no write out of its groups. -/
theorem askWrite_boundIn_keeps (q : PageIx) (c : List Byte) (h : t.boundIn p k = true) :
    (t.askWrite q c).boundIn p k = true := by
  unfold Store.askWrite
  split
  · exact h
  rw [boundIn_iff] at h ⊢
  split
  · refine h.imp_left fun ⟨e, he, hp, hk⟩ => ⟨_, List.mem_map.mpr ⟨e, he, rfl⟩, ?_⟩
    split
    · exact ⟨hp, mem_joinTags.mpr (.inl hk)⟩
    · exact ⟨hp, hk⟩
  · split
    · exact h.imp_left fun ⟨e, he, hrest⟩ => ⟨e, List.mem_append_left _ he, hrest⟩
    · refine h.imp_right (.imp_right fun ⟨hd, hk⟩ => ?_)
      by_cases hq : p = q
      · subst hq
        rw [page_modPage_same]
        exact ⟨rfl, mem_joinTags.mpr (.inl hk)⟩
      · rw [page_modPage_other t _ hq]
        exact ⟨hd, hk⟩

/-- R170, R172: the write that is issued keeps its groups. -/
theorem issue_boundIn (h : t.boundIn p k = true) : t.issue.boundIn p k = true := by
  by_cases hflying : t.inFlight.isSome = true
  · rwa [issue_flying hflying]
  cases hw : t.writing with
  | false => rwa [Store.issue, if_pos (by simp [hw])]
  | true =>
    have hnone : t.inFlight = none := by simpa using hflying
    cases hwaiting : t.waiting with
    | nil =>
      have hissue : t.issue = t := by simp [Store.issue, hnone, hwaiting]
      rwa [hissue]
    | cons e rest =>
      have hmarks (f : PageMarks → PageMarks) (hf : ∀ m, (f m).deferred = m.deferred ∧ (f m).deferredTags = m.deferredTags) :
          ((t.modPage e.page f).page p).deferred = (t.page p).deferred
            ∧ ((t.modPage e.page f).page p).deferredTags = (t.page p).deferredTags := by
        by_cases hp : p = e.page
        · rw [hp, page_modPage_same]
          exact hf _
        · rw [page_modPage_other t f hp]
          exact ⟨rfl, rfl⟩
      obtain ⟨hdeferred, htags⟩ := hmarks (fun m => { m with generation := (t.page e.page).generation + 1 })
        fun _ => ⟨rfl, rfl⟩
      rw [issue_cons hw hnone hwaiting]
      rw [boundIn_iff, hwaiting, hnone] at h
      rw [boundIn_iff]
      rcases h with ⟨x, hx, hrest⟩ | ⟨w, hw, -⟩ | ⟨hd, hk⟩
      · rcases List.mem_cons.mp hx with rfl | hx
        · exact .inr (.inl ⟨_, rfl, hrest⟩)
        · exact .inl ⟨x, hx, hrest⟩
      · cases hw
      · exact .inr (.inr ⟨hdeferred.trans hd, htags ▸ hk⟩)

/-- R169, R172: a deferred page takes its place in the queue with its groups. -/
theorem fillPlace_boundIn {s u : State} (h : fillPlace s = some u) (hb : s.store.boundIn p k = true) :
    u.store.boundIn p k = true := by
  unfold fillPlace at h
  split at h
  · obtain ⟨q, -, rfl⟩ := Option.map_eq_some_iff.mp h
    rw [boundIn_iff] at hb ⊢
    rcases hb with ⟨e, he, hrest⟩ | hflight | ⟨hd, hk⟩
    · exact .inl ⟨e, List.mem_append_left _ he, hrest⟩
    · exact .inr (.inl hflight)
    · by_cases hq : p = q
      · subst hq
        exact .inl ⟨_, List.mem_append_right _ (List.mem_singleton_self _), rfl, hk⟩
      · have hother := page_modPage_other s.store (fun m => { m with deferred := false, deferredTags := [] }) hq
        exact .inr (.inr ⟨(congrArg PageMarks.deferred hother).trans hd, (congrArg PageMarks.deferredTags hother) ▸ hk⟩)
  · cases h

theorem fillPlaces_boundIn (n : Nat) {s : State} (hb : s.store.boundIn p k = true) :
    (fillPlaces n s).store.boundIn p k = true := by
  induction n generalizing s with
  | zero => exact hb
  | succ n ih =>
    unfold fillPlaces
    split
    · exact hb
    · next u hu => exact ih (fillPlace_boundIn hu hb)

/-- R169, R170, R172: the Store Controller's work takes no write out of its groups. -/
theorem pumpStore_boundIn {s : State} (hb : s.store.boundIn p k = true) : (pumpStore s).store.boundIn p k = true :=
  fillPlaces_boundIn _ (issue_boundIn (fillPlaces_boundIn Config.writeCapacity hb))

/-- R172: the tag made for a group is above the tag of every group (log 10). -/
theorem lt_freshTag {g : GroupRecord} (h : g ∈ t.groups) : g.tag < t.freshTag := by
  have hfold (l : List GroupRecord) (n : Nat) : n ≤ l.foldl (fun n g => max n (g.tag + 1)) n
      ∧ ∀ g ∈ l, g.tag < l.foldl (fun n g => max n (g.tag + 1)) n := by
    induction l generalizing n with
    | nil => simp
    | cons a l ih =>
      obtain ⟨hle, hmem⟩ := ih (max n (a.tag + 1))
      refine ⟨(le_max_left ..).trans hle, fun g hg => ?_⟩
      rcases List.mem_cons.mp hg with rfl | hg
      · exact (le_max_right ..).trans hle
      · exact hmem g hg
  exact (hfold t.groups 0).2 g h

end

end Sys2Proof.Machine

namespace Sys2Proof.Machine

/-! ## The copy and the group of a close (R88, R89) -/

/-- R88: a slot at the copy, its close Storing. -/
def Slot.storing (x : Slot) (now : Stamp) (port : Option PortId) (ofAll final : Bool) : Slot :=
  { x with
    book := x.book.copied now, close := .storing port ofAll final (x.closedFigures now)
    due := { x.due with closing := false } }

/-- R88, R89: a slot whose close has ended with the copy. -/
def Slot.copied (x : Slot) (now : Stamp) : Slot :=
  { x with book := x.book.copied now, close := .idle, due := { x.due with closing := false } }

section
variable {s t e : State} {i : SlotIx} {port : Option PortId} {ofAll final : Bool} {ps : List PageIx} {n : Nat}

theorem closeNow_writes (hw : s.store.writing = true) : closeNow i final port ofAll s
    = enqueuePages [bookPage i, closedPage i]
        (openGroup i (s.setSlot i ((s.slot i).storing s.now port ofAll final))) := if_pos hw

theorem closeNow_stopped (hw : s.store.writing = false) : closeNow i final port ofAll s
    = finishClose i false (s.setSlot i ((s.slot i).storing s.now port ofAll final)) :=
  if_neg (c := s.store.writing = true) (by simp [hw])

theorem slot_closeNow (hw : s.store.writing = true) :
    (closeNow i final port ofAll s).slot i = (s.slot i).storing s.now port ofAll final := by
  rw [closeNow_writes hw, slot_congr (enqueuePages_slots ..)]
  exact slot_setSlot_same ..

theorem endPolling_polling (h : (s.slot i).close = .polling port ofAll n) (final : Bool) :
    endPolling i final s = closeNow i final port ofAll s := by
  simp only [endPolling, h]

/-- R172: the group of a close joins those not yet ended. -/
theorem closeNow_groups (hw : s.store.writing = true) : (closeNow i final port ofAll s).store.groups
    = s.store.groups ++ [{ slot := i, tag := s.store.freshTag, failed := false, abandoned := false }] := by
  rw [closeNow_writes hw, (enqueuePages_holds ..).groups]
  rfl

/-- R89, R172: both pages of a close are on their way in its group. -/
theorem closeNow_boundIn (hw : s.store.writing = true) {q : PageIx} (hq : q ∈ [bookPage i, closedPage i]) :
    (closeNow i final port ofAll s).store.boundIn q s.store.freshTag = true := by
  set u := openGroup i (s.setSlot i ((s.slot i).storing s.now port ofAll final)) with hu
  have htag (w : State) (hgroups : w.store.groups = u.store.groups) (r : PageIx) (hr : r ∈ [bookPage i, closedPage i]) :
      s.store.freshTag ∈ w.store.tagsOf r := by
    have hcovers : GroupRecord.covers { slot := i, tag := s.store.freshTag, failed := false, abandoned := false } r := by
      simpa [GroupRecord.covers] using hr
    rw [Store.tagsOf, hgroups]
    exact List.mem_map.mpr ⟨_, List.mem_filter.mpr ⟨List.mem_append_right _ (List.mem_singleton_self _), hcovers⟩, rfl⟩
  have hbook := askWrite_boundIn (c := pageBody u (bookPage i)) (t := u.store) hw (htag u rfl (bookPage i) (by simp))
  have hholds := enqueuePage_holds (bookPage i) u
  rw [closeNow_writes hw]
  rcases List.mem_pair.mp hq with rfl | rfl
  · exact askWrite_boundIn_keeps _ _ hbook
  · exact askWrite_boundIn (hholds.writing.trans hw) (htag _ hholds.groups _ (by simp))

theorem closeNow_asking (hw : s.store.writing = true) : Asking (openGroup i s) (closeNow i final port ofAll s)
    (openGroup i (s.setSlot i ((s.slot i).storing s.now port ofAll final))) [closedPage i, bookPage i] := by
  rw [closeNow_writes hw]
  exact (Asking.refl rfl).pages _

/-- R89, R172: the Store Controller's work after a close whose store group is made. -/
theorem closeNow_grouped (hq : s.store.quiet = true) (hw : s.store.writing = true) : ∃ u,
    pumpStore (closeNow i final port ofAll s)
        = { s.setSlot i ((s.slot i).storing s.now port ofAll final) with store := u }
      ∧ s.store.grouped u (s.setSlot i ((s.slot i).storing s.now port ofAll final)) i := by
  obtain ⟨hpump, hasked⟩ := (closeNow_asking (i := i) (port := port) (ofAll := ofAll) (final := final) hw).pumped hq
    (by simp [Config.writeCapacity])
  refine ⟨_, hpump, s.store.freshTag, fun g hg => (lt_freshTag hg).ne, hasked.congr fun p => ?_, ?_, ?_⟩
  · simp [or_comm]
  · exact issue_boundIn (closeNow_boundIn hw (by simp))
  · exact issue_boundIn (closeNow_boundIn hw (by simp))

/-- R30: after pages were asked for of a quiet store, the choice may be made before the Store Controller works. -/
theorem Asking.pumpStore_choose (h : Asking s t e ps) (hq : s.store.quiet = true)
    (hps : ps.length ≤ Config.writeCapacity) (g : SegId) : pumpStore (choose g t) = choose g (pumpStore t) := by
  have hchosen : s.store.Asked (choose g t).store (pageBody e) ps := by
    rw [choose_store]
    exact h.2
  have hblind := choose_blind g t t.store.issue
  rw [hchosen.pump hq hps, h.2.pump hq hps, State.modStore, choose_store]
  exact hblind.symm

/-- R90: a close of one slot is answered when its group ends. -/
theorem finishClose_one {p : PortId} {stored : Bool} {kept : ClosedFigures}
    (h : (s.slot i).close = .storing (some p) false final kept) : finishClose i stored s
      = answer p .done (closeBody i final stored kept) (s.setSlot i { s.slot i with close := .idle }) := by
  simp only [finishClose, h]
  rfl

/-- R88, R90: while the store makes no writes a close of one slot is answered at the copy. -/
theorem closeNow_one {p : PortId} (hw : s.store.writing = false) : closeNow i final (some p) false s
    = answer p .done (closeBody i final false ((s.slot i).closedFigures s.now))
        (s.setSlot i ((s.slot i).copied s.now)) := by
  rw [closeNow_stopped hw, finishClose_one (congrArg Slot.close (slot_setSlot_same ..)), slot_setSlot_same, setSlot_setSlot]
  rfl

/-- R183: the port's request in progress is answered. -/
theorem answer_inProgress {p : PortId} {kind : Byte} (h : (s.port p).request = some kind) (status : Status)
    (body : List Byte) : answer p status body s = answered p kind status body s := by
  have hport : { s.port p with request := some kind } = s.port p := by rw [← h]
  simp only [answer, answered, modPort_def, hport, Port.answer, h]

end

end Sys2Proof.Machine

namespace Sys2Proof.Machine

/-! ## Close Period of one slot (R84, R85, R87) -/

theorem inService_iff (x : Slot) : x.inService = true ↔ x.table = .active ∨ x.table = .caution := by
  simp [Slot.inService]

section
variable {p : PortId} {slot : Byte} {i : SlotIx} {s : State} {ofAll : Bool}

/-- R85: a close on an Active or Caution table of a Running segment waits for its closing report. -/
def Slot.polling (x : Slot) (p : PortId) (ofAll : Bool) : Slot :=
  { x with close := .polling (some p) ofAll 0, due := { x.due with closing := true } }

theorem startClose_polls (h : (s.slot i).inService = true) (hg : (s.seg (s.slot i).seg).state = .running) :
    startClose i p ofAll s = s.setSlot i ((s.slot i).polling p ofAll) :=
  if_pos (by simp [h, hg])

theorem startClose_copies (h : ¬ ((s.slot i).inService = true ∧ (s.seg (s.slot i).seg).state = .running)) :
    startClose i p ofAll s = closeNow i false (some p) ofAll s :=
  if_neg (by simpa using h)

theorem serveClosePeriod_one (hslot : slot.toNat = i.val + 1) (hl : (s.slot i).table ≠ .unlisted) :
    serveClosePeriod p slot s = if (s.slot i).close ≠ .idle then refuseRequest p .tableBusy s
      else choose (s.slot i).seg (startClose i p false s) := by
  have h0 : slot ≠ 0 := by
    rintro rfl
    exact absurd hslot (by simp)
  simp only [serveClosePeriod, if_neg h0, slotOf_number hslot, (listed_iff _).mpr hl, Bool.not_true]
  rfl

end

/-- R84, R85, R88 to R90: Close Period of one slot. -/
theorem closePeriod_one {p : PortId} {slot : Byte} {i : SlotIx} {s : State} (htakes : s.takes p = true)
    (hq : s.store.quiet = true) (hslot : slot.toNat = i.val + 1) (hl : (s.slot i).table ≠ .unlisted) :
    let x := s.slot i
    let polled := x.inService = true ∧ (s.seg x.seg).state = .running
    let storing := (holdRequest p 12 s).setSlot i (x.storing s.now (some p) false false)
    (x.close ≠ .idle → exec (.closePeriod p slot) s = .next (answered p 12 .tableBusy [] s))
      ∧ (x.close = .idle → polled → exec (.closePeriod p slot) s
          = .next (choose x.seg ((holdRequest p 12 s).setSlot i (x.polling p false))))
      ∧ (x.close = .idle → ¬ polled → s.store.writing = true → ∃ u,
        exec (.closePeriod p slot) s = .next (choose x.seg { storing with store := u })
          ∧ s.store.grouped u storing i)
      ∧ (x.close = .idle → ¬ polled → s.store.writing = false → exec (.closePeriod p slot) s
          = .next (choose x.seg (answered p 12 .done (closeBody i false false (x.closedFigures s.now))
              (s.setSlot i (x.copied s.now))))) := by
  intro x polled storing
  have hx : (holdRequest p 12 s).slot i = x := slot_holdRequest ..
  have hseg : (holdRequest p 12 s).seg x.seg = s.seg x.seg := seg_modPort ..
  have hnow : (holdRequest p 12 s).now = s.now := now_modPort ..
  have hstore : (holdRequest p 12 s).store = s.store := modPort_store ..
  have hserve := serveClosePeriod_one (p := p) (s := holdRequest p 12 s) hslot (by rwa [hx])
  rw [hx] at hserve
  have hstarts (hidle : x.close = .idle) : serve p (.closePeriod slot) (holdRequest p 12 s)
      = choose x.seg (startClose i p false (holdRequest p 12 s)) := hserve.trans (if_neg (not_not_intro hidle))
  have hcopies (hno : ¬ polled) : startClose i p false (holdRequest p 12 s)
      = closeNow i false (some p) false (holdRequest p 12 s) := startClose_copies (by rwa [hx, hseg])
  refine ⟨fun hbusy => exec_refused (r := .closePeriod slot) htakes hq (hserve.trans (if_pos hbusy)),
    fun hidle hp => exec_taken htakes rfl ?_ ?_, fun hidle hno hw => ?_, fun hidle hno hw => exec_taken htakes rfl ?_ ?_⟩
  · refine (hstarts hidle).trans ?_
    rw [startClose_polls (by rw [hx]; exact hp.1) (by rw [hx, hseg]; exact hp.2), hx]
  · rw [choose_store]
    exact (congrArg Store.quiet hstore).trans hq
  · obtain ⟨u, hpump, hgrouped⟩ := closeNow_grouped (s := holdRequest p 12 s) (i := i) (port := some p) (ofAll := false)
      (final := false) (by rwa [hstore]) (by rwa [hstore])
    rw [hx, hnow] at hpump hgrouped
    refine ⟨u, ?_, hstore ▸ hgrouped⟩
    rw [exec_eq, show effect (.closePeriod p slot) s = _ from (takeRequest_taken htakes _).trans (hstarts hidle),
      hcopies hno, (closeNow_asking (by rwa [hstore])).pumpStore_choose (by rwa [openGroup, modStore_store, hstore])
        (by simp [Config.writeCapacity]), hpump]
  · refine (hstarts hidle).trans ?_
    rw [hcopies hno, closeNow_one (by rwa [hstore]), hx, hnow, ← answer_held, holdRequest, setSlot_modPort]
  · rw [choose_store, answered_store]
    exact hq

/-- R87: the closing timeout. -/
theorem closingTimeout_ends {i : SlotIx} {s : State} {port : Option PortId} {ofAll : Bool} {n : Nat}
    (hq : s.store.quiet = true) :
    let x := s.slot i
    let storing := s.setSlot i (x.storing s.now port ofAll false)
    (x.close = .polling port ofAll n → s.store.writing = true → ∃ u,
        exec (.closingTimeout i) s = .next { storing with store := u } ∧ s.store.grouped u storing i)
      ∧ (∀ p, x.close = .polling port ofAll n → s.store.writing = false → ofAll = false → port = some p →
        (s.port p).request = some 12 → exec (.closingTimeout i) s
          = .next (answered p 12 .done (closeBody i false false (x.closedFigures s.now)) (s.setSlot i (x.copied s.now))))
      ∧ ((∀ q o m, x.close ≠ .polling q o m) → exec (.closingTimeout i) s = .next s) := by
  intro x storing
  refine ⟨fun hx hw => ?_, ?_, fun hx => exec_of_quiet (endPolling_idle hx false) hq⟩
  · obtain ⟨u, hpump, hgrouped⟩ := closeNow_grouped (i := i) (port := port) (ofAll := ofAll) (final := false) hq hw
    refine ⟨u, ?_, hgrouped⟩
    rw [exec_eq, show effect (.closingTimeout i) s = _ from endPolling_polling hx false, hpump]
  · rintro p hx hw rfl rfl hrequest
    refine exec_of_quiet ((endPolling_polling hx false).trans ?_) (by rw [answered_store]; exact hq)
    rw [closeNow_one hw, answer_inProgress (by rwa [port_setSlot])]

end Sys2Proof.Machine

namespace Sys2Proof.Machine

/-! ## The end of a store group (R90, R170, R172) -/

/-- R170: the store once the write in flight has verified, of a page that was not bad. -/
def Store.verified (t : Store) (w : WriteInFlight) : Store :=
  { t with inFlight := none, nodeMismatch := t.nodeMismatch && w.page != 0 }

section
variable {s : State} {t : Store} {w : WriteInFlight} {f : GroupRecord}

theorem modPage_same {p : PageIx} {m : PageMarks → PageMarks} (h : m (t.page p) = t.page p) : t.modPage p m = t := by
  unfold Store.modPage
  rw [h]
  simp [Store.page]

/-- R170: the write in flight verifies, of a page that was not bad. -/
theorem effect_verify (hi : s.store.inFlight = some w) (hbad : (s.store.page w.page).bad = false) :
    effect (.storeWriteVerify w.bytes) s = settleGroups (s.modStore fun t => t.verified w) := by
  have hclear : s.store.modPage w.page (fun m => { m with bad := false }) = s.store :=
    modPage_same (by rw [← hbad])
  have hends : effect (.storeWriteVerify w.bytes) s = verifyWrite w s := by
    simp [effect, attemptEnds, hi, endAttempt]
  rw [hends, verifyWrite]
  simp only [hbad, Bool.false_eq_true, if_false, State.modStore, hclear]
  rfl

/-- R172: the group of a write that waits has not ended. -/
theorem settleGroups_waits (hg : s.store.groups = [f]) (hf : s.store.carriesTag f = true) : settleGroups s = s := by
  have hkept : s.store.groups.filter (fun g => s.store.carriesTag g) = s.store.groups := by simp [hg, hf]
  have hended : s.store.groups.filter (fun g => !s.store.carriesTag g) = [] := by simp [hg, hf]
  simp only [settleGroups, hended, State.modStore, hkept, List.foldl_nil]

/-- R172: the only group ends when nothing carries its tag. -/
theorem settleGroups_ends (hg : s.store.groups = [f]) (hf : s.store.carriesTag f = false) :
    settleGroups s = reportGroup (!f.failed) f (s.modStore fun t => { t with groups := [] }) := by
  simp [settleGroups, hg, hf, State.modStore]

theorem carriesTag_none (hi : t.inFlight = none) (hw : t.waiting = []) (hd : ∀ q, (t.page q).deferredTags = []) :
    t.carriesTag f = false := by
  simp [Store.carriesTag, hi, hw, hd]

/-- R169, R170: in a sound store with a write in flight and none waiting, no page is deferred. -/
theorem undeferred_of_sound (h : t.sound = true) (hi : t.inFlight = some w) (hw : t.waiting = []) :
    t.lowestDeferred = none := by
  have hwriting : t.writing = true := by
    by_contra hno
    simp [Store.sound, hno, hi] at h
  simp only [Store.sound, Bool.and_eq_true] at h
  obtain ⟨⟨-, hquiet⟩, -⟩ := h
  simpa [Store.quiet, hwriting, hi, hw, Config.writeCapacity] using hquiet

/-- R170, R172: the last write of the only group verifies: the group ends, and its result is reported. -/
theorem exec_verify_last {r : State} (hs : s.store.sound = true) (hi : s.store.inFlight = some w)
    (hbad : (s.store.page w.page).bad = false) (hg : s.store.groups = [f])
    (hd : ∀ q, (s.store.page q).deferredTags = []) (hw : s.store.waiting = [])
    (hr : reportGroup (!f.failed) f { s with store := { s.store.verified w with groups := [] } } = r)
    (hstore : r.store = { s.store.verified w with groups := [] }) :
    exec (.storeWriteVerify w.bytes) s = .next r := by
  refine exec_of_quiet ((effect_verify hi hbad).trans ((settleGroups_ends
    (s := s.modStore fun t => t.verified w) hg ?_).trans hr)) ?_
  · exact carriesTag_none rfl hw hd
  · have hnone : r.store.lowestDeferred = none := hstore ▸ (undeferred_of_sound hs hi hw :)
    have hwaiting : r.store.waiting = [] := hstore ▸ hw
    simp [Store.quiet, hnone, hwaiting]

/-- R172: while another write of the only group waits, the group goes on. -/
theorem exec_verify_waits (hi : s.store.inFlight = some w) (hbad : (s.store.page w.page).bad = false)
    (hg : s.store.groups = [f]) (hw : ∃ e ∈ s.store.waiting, f.tag ∈ e.tags) :
    ∃ u, exec (.storeWriteVerify w.bytes) s = .next { s with store := u } ∧ u.groups = [f] := by
  have hcarried : (s.store.verified w).carriesTag f = true := by
    obtain ⟨e, he, hf⟩ := hw
    have hany : (s.store.verified w).waiting.any (fun e => e.tags.contains f.tag) = true :=
      List.any_eq_true.mpr ⟨e, he, by simpa using hf⟩
    simp only [Store.carriesTag, hany, Bool.true_or]
  obtain ⟨u, hu⟩ := pumpStore_eq (s.modStore fun t => t.verified w)
  have hgroups := (pumpStore_holds (s.modStore fun t => t.verified w)).1
  refine ⟨u, ?_, ?_⟩
  · rw [exec_eq, effect_verify hi hbad, settleGroups_waits (s := s.modStore fun t => t.verified w) hg hcarried, hu]
    rfl
  · rw [hu] at hgroups
    exact hgroups.trans hg

/-- R90: the end of a group answers the close of one slot. -/
theorem reportGroup_one {p : PortId} {i : SlotIx} {final stored : Bool} {kept : ClosedFigures} (hf : f.slot = i)
    (ha : f.abandoned = false) (hx : (s.slot i).close = .storing (some p) false final kept)
    (hrequest : (s.port p).request = some 12) : reportGroup stored f s
      = answered p 12 .done (closeBody i final stored kept) (s.setSlot i { s.slot i with close := .idle }) := by
  rw [reportGroup, ha, if_neg Bool.false_ne_true, hf, finishClose_one hx, answer_inProgress (by rwa [port_setSlot])]

end

/-- R90, R172: the end of a group by a verified write. -/
theorem verifyWrite_endsGroup {i : SlotIx} {s : State} {w : WriteInFlight} {f : GroupRecord} {final : Bool}
    {kept : ClosedFigures} (hs : s.store.sound = true) (hi : s.store.inFlight = some w)
    (hbad : (s.store.page w.page).bad = false) (hg : s.store.groups = [f]) (hf : f.slot = i)
    (hd : ∀ q, (s.store.page q).deferredTags = []) :
    let after : Store := { s.store.verified w with groups := [] }
    (∀ p, f.abandoned = false → s.store.waiting = [] → (s.slot i).close = .storing (some p) false final kept →
        (s.port p).request = some 12 → exec (.storeWriteVerify w.bytes) s
          = .next (answered p 12 .done (closeBody i final (!f.failed) kept)
              { s.setSlot i { s.slot i with close := .idle } with store := after }))
      ∧ (f.abandoned = true → s.store.waiting = [] →
        exec (.storeWriteVerify w.bytes) s = .next { s with store := after })
      ∧ ((∃ e ∈ s.store.waiting, f.tag ∈ e.tags) → ∃ u,
        exec (.storeWriteVerify w.bytes) s = .next { s with store := u } ∧ u.groups = [f]) := by
  intro after
  refine ⟨fun p ha hw hx hrequest => ?_, fun ha hw => ?_, exec_verify_waits hi hbad hg⟩
  · refine exec_verify_last hs hi hbad hg hd hw (reportGroup_one hf ha hx ?_) (answered_store ..)
    cases p <;> exact hrequest
  · exact exec_verify_last hs hi hbad hg hd hw (by rw [reportGroup, if_pos ha]) rfl

end Sys2Proof.Machine

namespace Sys2Proof.Machine

/-! ## A closing report (R64, R72, R86) -/

/-- What the taking of a report from slot `i` leaves, its fold apart: what a close of the slot would keep for its
answer, every close record, the books of the other slots, and of the store what asking for writes leaves. -/
structure CloseKept (i : SlotIx) (s t : State) : Prop where
  figures : ∀ stamp, (t.slot i).closedFigures stamp = (s.slot i).closedFigures stamp
  close : ∀ j, (t.slot j).close = (s.slot j).close
  book : ∀ j, j ≠ i → (t.slot j).book = (s.slot j).book
  store : s.store.Holds t.store

section
variable {i : SlotIx} {s t u : State}

theorem CloseKept.refl (i : SlotIx) (s : State) : CloseKept i s s := ⟨fun _ => rfl, fun _ => rfl, fun _ _ => rfl, .refl _⟩

theorem CloseKept.trans (h : CloseKept i s t) (k : CloseKept i t u) : CloseKept i s u :=
  ⟨fun stamp => (k.figures stamp).trans (h.figures stamp), fun j => (k.close j).trans (h.close j),
    fun j hj => (k.book j hj).trans (h.book j hj), h.store.trans k.store⟩

theorem CloseKept.ite {c : Prop} [Decidable c] (ht : CloseKept i s t) (hu : CloseKept i s u) :
    CloseKept i s (if c then t else u) := by
  split <;> assumption

theorem CloseKept.of_slots (h : t.slots = s.slots) (hs : s.store.Holds t.store) : CloseKept i s t :=
  ⟨fun stamp => by rw [slot_congr h], fun j => by rw [slot_congr h], fun j _ => by rw [slot_congr h], hs⟩

variable (i s)

theorem enqueuePage_closeKept (p : PageIx) : CloseKept i s (enqueuePage p s) :=
  .of_slots (enqueuePage_slots ..) (enqueuePage_holds ..)

theorem modSlot_closeKept (f : Slot → Slot) (hf : ∀ x stamp, (f x).closedFigures stamp = x.closedFigures stamp := by
    intros; rfl) (hc : ∀ x, (f x).close = x.close := by intros; rfl) : CloseKept i s (s.modSlot i f) := by
  refine ⟨fun stamp => by rw [slot_modSlot_same, hf], fun j => ?_, fun j hj => by rw [slot_modSlot_other s f hj], .refl _⟩
  by_cases hj : j = i
  · rw [hj, slot_modSlot_same, hc]
  · rw [slot_modSlot_other s f hj]

theorem eventFault_closeKept (k : FaultKey) : CloseKept i s (eventFault (rosterOfSlot i) k s) := by
  refine ⟨fun stamp => ?_, fun j => ?_, fun j _ => ?_, enterEvents_holds i [k] s⟩ <;> rw [eventFault, slot_enterFault]
  rfl

theorem enterEvents_closeKept (ks : List FaultKey) : CloseKept i s (enterEvents i ks s) := by
  unfold enterEvents
  induction ks generalizing s with
  | nil => exact .refl i s
  | cons k ks ih => exact (eventFault_closeKept i s k).trans (ih _)

theorem resetWindow_closeKept : CloseKept i s (resetWindow i s) :=
  (modSlot_closeKept i s _).trans (enqueuePage_closeKept i _ _)

theorem dropOutcome_closeKept : CloseKept i s (dropOutcome i s) :=
  .ite (.refl i s) ((modSlot_closeKept i s _).trans (enqueuePage_closeKept i _ _))

theorem applyOutcome_closeKept (level : Nat) : CloseKept i s (applyOutcome i level s) := by
  unfold applyOutcome
  refine ((modSlot_closeKept i s fun x => x.regulated level).trans (.of_slots ?_ ?_)).trans (enqueuePage_closeKept i _ _)
  · rw [clearReservations_slots, joinQueue_slots]
    rfl
  · rw [clearReservations_store]
    exact .refl _

theorem offerOutcome_closeKept : CloseKept i s (offerOutcome i s) := by
  unfold offerOutcome
  dsimp only
  split
  · exact .refl i s
  · exact .ite (dropOutcome_closeKept i s) (.ite (applyOutcome_closeKept i s _) (.refl i s))

/-- R142 to R145: an evaluation changes the pending outcome, the draft and the window. -/
theorem windowTest_closeKept : CloseKept i s (windowTest i s) := by
  have htakes (base level : Nat) (t : State) : CloseKept i t (takeOutcome i base level t) :=
    .ite (.refl i t) (.ite (dropOutcome_closeKept i t)
      (((modSlot_closeKept i t _).trans (enqueuePage_closeKept i _ _)).trans (offerOutcome_closeKept i _)))
  exact .ite ((resetWindow_closeKept i s).trans (htakes _ _ _)) (.refl i s)

theorem windowFeed_closeKept (amounts : Vector Nat 24) : CloseKept i s (windowFeed i amounts s) :=
  .ite (.refl i s) ((modSlot_closeKept i s _).trans (enqueuePage_closeKept i _ _))

/-- R71: the end of a fold writes the book and asks for pages. -/
theorem endFold_closeKept (b : Book) : CloseKept i (s.modSlot i fun x => { x with book := b }) (endFold i b s) := by
  have hpage (t : State) (c : Prop) [Decidable c] (p : PageIx) : CloseKept i t (if c then enqueuePage p t else t) :=
    .ite (enqueuePage_closeKept i t p) (.refl i t)
  exact (hpage _ _ _).trans (.ite (.refl i _) (enqueuePage_closeKept i _ _))

/-- R71 to R73: the taking of a report from an identified table, its fold apart. -/
theorem takeReport_closeKept {id : Identity} (hid : (s.slot i).identity = some id) (role : FoldRole) (r : MeterReport) :
    CloseKept i (s.modSlot i fun x => { x with book := ((s.slot i).book.foldReport id.meters role r).book })
      (takeReport i role r s) := by
  set acc := (s.slot i).book.foldReport id.meters role r with hacc
  set t := enterEvents i (acc.gaps.map fun m => keyDiscontinuity m.val) s with ht
  have htakes : takeReport i role r s
      = (windowTest i (windowFeed i acc.amounts (endFold i acc.book t))).modSlot i Slot.metered := by
    simp only [takeReport, hid, ht, enterEvents, List.foldl_map]
    rfl
  have hgaps : CloseKept i (s.modSlot i fun x => { x with book := acc.book })
      (t.modSlot i fun x => { x with book := acc.book }) := by
    have hevents := enterEvents_closeKept i s (acc.gaps.map fun m => keyDiscontinuity m.val)
    refine ⟨fun stamp => ?_, fun j => ?_, fun j hj => ?_, hevents.store⟩
    · rw [slot_modSlot_same, slot_modSlot_same, ht, slot_enterEvents]
      rfl
    · by_cases hj : j = i
      · subst hj
        rw [slot_modSlot_same, slot_modSlot_same]
        exact hevents.close j
      · rw [slot_modSlot_other _ _ hj, slot_modSlot_other _ _ hj]
        exact hevents.close j
    · rw [slot_modSlot_other _ _ hj, slot_modSlot_other _ _ hj]
      exact hevents.book j hj
  rw [htakes]
  exact ((((hgaps.trans (endFold_closeKept i t acc.book)).trans (windowFeed_closeKept i _ _)).trans
    (windowTest_closeKept i _)).trans (modSlot_closeKept i _ Slot.metered))

end

theorem Slot.Drafted.close {x y : Slot} (h : x.Drafted y) : y.close = x.close := by
  obtain ⟨d, r, q, rfl⟩ := h
  rfl

theorem Slot.Drafted.book {x y : Slot} (h : x.Drafted y) : y.book = x.book := by
  obtain ⟨d, r, q, rfl⟩ := h
  rfl

/-- R9, R15, R30: what follows the asking block after a Good answer of an Active table leaves the store. -/
theorem effect_answerComplete_store {g : SegId} {s v : State} {x : Exchange} {gs : GameState} {rest : List Byte}
    (hx : (s.seg g).exchange = some x) (ht : (s.slot x.slot).table = .active) (hscore : (s.slot x.slot).score < 64)
    (hp : x.phase = .window) (hr : x.received = []) (hrest : rest.length ≤ 318)
    (hv : askerTakes g x (.good gs rest) ((cleared g s).setSlot x.slot ((s.slot x.slot).answeredGood gs)) = v) :
    (effect (.answerComplete g gs .accepted rest) s).store = v.store := by
  have hhalt (t : State) : (haltNow g t).store = t.store := by
    rw [haltNow, (answerAll_facts _ _).2.2, suspendDelivery_store, modSeg_store]
  have hfall : (garbleFall g v).store = v.store := by
    unfold garbleFall
    dsimp only
    split
    · rw [endCondition_zero]
      exact (modSeg_store ..).trans (modSeg_store ..)
    · exact modSeg_store ..
  rw [show effect (.answerComplete g gs .accepted rest) s = _ from (answerComplete_window hx hp hr hrest).trans
    (endExchange_of_handOn hx ((handOn_good gs rest ht hscore).trans (by rw [hv])))]
  split
  · rw [hhalt, hfall]
  · rw [choose_store, hfall]

end Sys2Proof.Machine

namespace Sys2Proof.Machine

/-- R88: what a close keeps of a slot whose book has taken its closing report (log 33). -/
theorem closedFigures_folded (y : Slot) (gs : GameState) (meters : List (Fin 24)) (r : MeterReport) (stamp : Stamp) :
    let totals := (y.book.foldReport meters .closing r).book.current
    Slot.closedFigures { y.answeredGood gs with book := (y.book.foldReport meters .closing r).book } stamp
      = { number := y.book.period, stamp := stamp, totals := totals
          figures := figuresOf y.identity y.coins y.note totals
          lost := y.book.lostCurrent, modelChanged := y.book.modelChanged } := by
  obtain ⟨-, -, -, hperiod, -, hlost, -, hmodel⟩ := foldReport_folds y.book meters .closing r
  simp only [Slot.closedFigures, Slot.figures, hperiod, hlost, hmodel]
  rfl

/-- R64, R71 to R73: what the taking of a closing report leaves of its slot and of the others. -/
theorem takeReport_closing {i : SlotIx} {u : State} {y : Slot} {gs : GameState} {id : Identity} (r : MeterReport)
    (hu : u.slot i = y.answeredGood gs) (hid : y.identity = some id) :
    let totals := (y.book.foldReport id.meters .closing r).book.current
    (∀ stamp, ((takeReport i .closing r u).slot i).closedFigures stamp
        = { number := y.book.period, stamp := stamp, totals := totals
            figures := figuresOf y.identity y.coins y.note totals
            lost := y.book.lostCurrent, modelChanged := y.book.modelChanged })
      ∧ (∀ j, ((takeReport i .closing r u).slot j).close = (u.slot j).close)
      ∧ (∀ j, j ≠ i → ((takeReport i .closing r u).slot j).book = (u.slot j).book)
      ∧ u.store.Holds (takeReport i .closing r u).store := by
  obtain ⟨hfigures, hclose, hbook, hstore⟩ := takeReport_closeKept i u (by rw [hu]; exact hid) .closing r
  refine ⟨fun stamp => ?_, fun j => (hclose j).trans ?_, fun j hj => (hbook j hj).trans ?_, hstore⟩
  · rw [hfigures, slot_modSlot_same, hu]
    exact closedFigures_folded y gs id.meters r stamp
  · by_cases hj : j = i
    · rw [hj, slot_modSlot_same]
    · rw [slot_modSlot_other _ _ hj]
  · rw [slot_modSlot_other _ _ hj]

theorem askerTakes_closing {g : SegId} {x : Exchange} {gs : GameState} {rest : List Byte} {r : MeterReport} (s : State)
    (hf : x.frame = .meterPoll) (ha : x.asker = .collection) (hparse : parseMeterReport rest = some r) :
    askerTakes g x (.good gs rest) s = endPolling x.slot true (takeReport x.slot .closing r s) := by
  simp only [askerTakes, hf, ha, ExOutcome.usable, ExOutcome.bodyOf, hparse]
  rfl

/-- R86, R88, R89: a usable closing report ends the close with its final reading. -/
theorem closingReport_ends {g : SegId} {s : State} {x : Exchange} {gs : GameState} {rest : List Byte} {r : MeterReport}
    {idr : Identity} {port : Option PortId} {ofAll : Bool} {n : Nat} (hx : (s.seg g).exchange = some x)
    (hp : x.phase = .window) (hr : x.received = []) (hrest : rest.length ≤ 318) (hf : x.frame = .meterPoll)
    (ha : x.asker = .collection) (ht : (s.slot x.slot).table = .active) (hscore : (s.slot x.slot).score < 64)
    (hparse : parseMeterReport rest = some r) (hid : (s.slot x.slot).identity = some idr)
    (hclose : (s.slot x.slot).close = .polling port ofAll n) (hw : s.store.writing = true) :
    let y := s.slot x.slot
    let totals := (y.book.foldReport idr.meters .closing r).book.current
    let kept : ClosedFigures :=
      { number := y.book.period, stamp := s.now, totals := totals, figures := figuresOf y.identity y.coins y.note totals
        lost := y.book.lostCurrent, modelChanged := y.book.modelChanged }
    ∃ (t : State) (z : Slot), exec (.answerComplete g gs .accepted rest) s = .next t
      ∧ (z.storing s.now port ofAll true).Drafted (t.slot x.slot) ∧ z.closedFigures s.now = kept
      ∧ t.store.groups
        = s.store.groups ++ [{ slot := x.slot, tag := s.store.freshTag, failed := false, abandoned := false }]
      ∧ (∀ q ∈ [bookPage x.slot, closedPage x.slot], t.store.boundIn q s.store.freshTag = true)
      ∧ ∀ j, j ≠ x.slot → (t.slot j).close = (s.slot j).close ∧ (t.slot j).book = (s.slot j).book := by
  intro y totals kept
  set u := (cleared g s).setSlot x.slot (y.answeredGood gs) with hu
  have hother (j : SlotIx) (hj : j ≠ x.slot) : u.slot j = s.slot j :=
    (slot_setSlot_other _ _ hj).trans (slot_modSeg ..)
  have hustore : u.store = s.store := modSeg_store ..
  obtain ⟨hfigures, hcloses, hbooks, hstore⟩ := takeReport_closing r (slot_setSlot_same (cleared g s) x.slot _) hid
  set v := takeReport x.slot .closing r u with hv
  have hnow : v.now = s.now := now_of_env (by rw [hv, takeReport_env, hu]; simp [cleared])
  have hgroups : v.store.groups = s.store.groups := by rw [hstore.groups, hustore]
  have hfresh : v.store.freshTag = s.store.freshTag := by rw [Store.freshTag, Store.freshTag, hgroups]
  have hwriting : v.store.writing = true := by rw [hstore.writing, hustore, hw]
  have hpolling : (v.slot x.slot).close = .polling port ofAll n := by
    rw [hcloses, slot_setSlot_same]
    exact hclose
  have hends : askerTakes g x (.good gs rest) u = closeNow x.slot true port ofAll v :=
    (askerTakes_closing u hf ha hparse).trans (endPolling_polling hpolling true)
  obtain ⟨-, hkept, -⟩ := closeNow_facts x.slot true port ofAll v
  have heffect := effect_answerComplete_store hx ht hscore hp hr hrest hends
  obtain ⟨t, hexec, hslots⟩ := exec_answer_drafted hx ht hscore hp hr hrest hends
  obtain rfl : pumpStore (effect (.answerComplete g gs .accepted rest) s) = t :=
    Host.Outcome.next.inj ((exec_eq ..).symm.trans hexec)
  refine ⟨_, v.slot x.slot, hexec, ?_, hfigures s.now, ?_, fun q hq => ?_, fun j hj => ?_⟩
  · have hslot := hslots x.slot
    rwa [slot_closeNow hwriting, hnow] at hslot
  · rw [(pumpStore_holds _).1, heffect, closeNow_groups hwriting, hgroups, hfresh]
  · refine pumpStore_boundIn ?_
    rw [heffect, ← hfresh]
    exact closeNow_boundIn hwriting hq
  · rw [(hslots j).close, (hslots j).book, hkept j hj, hcloses, hbooks j hj, hother j hj]
    exact ⟨rfl, rfl⟩

/-- Settles O35: Close Period by the state of the slot and of the store; the closing timeout; the closing report through
its fold; the end of the only group. -/
theorem closesOfOneSlot : Obligations.ClosesOfOneSlot := by
  unfold Obligations.ClosesOfOneSlot
  refine ⟨fun p slot i s htakes hq hslot hl => ?_, fun i s port ofAll n hq => closingTimeout_ends hq, ?_,
    fun i s w f final kept hs hi hbad hg hf hd => verifyWrite_endsGroup hs hi hbad hg hf hd⟩
  · obtain ⟨hbusy, hpolls, hcopies, hstopped⟩ := closePeriod_one htakes hq hslot hl
    rw [inService_iff] at hpolls hcopies hstopped
    exact ⟨hbusy, hpolls, hcopies, hstopped⟩
  · intro g s x gs rest r idr port ofAll n _ hx hp hr hrest hf ha ht hscore hparse hid hclose hw y totals stamp
    obtain ⟨t, z, hexec, hslot, hkept, hgroups, hbound, hother⟩ :=
      closingReport_ends (gs := gs) hx hp hr hrest hf ha ht hscore hparse hid hclose hw
    refine ⟨t, ?_⟩
    rw [hslot.book, hslot.close, hslot.due]
    exact ⟨hexec, congrArg ClosedFigures.totals hkept, rfl, congrArg (fun k : ClosedFigures => k.number + 1) hkept, rfl, rfl,
      congrArg (CloseRecord.storing port ofAll true) hkept, ⟨s.store.freshTag, fun h hmem => (lt_freshTag hmem).ne,
        hgroups, hbound _ (by simp), hbound _ (by simp)⟩, hother⟩

end Sys2Proof.Machine

namespace Sys2Proof.Machine

/-! ## Close All (R91, R92) -/

/-! ### The ports at the choice (R30) -/

section
variable (g : SegId) (s : State) (p : PortId)

theorem port_sendFrame (i : SlotIx) (f : HubFrame) (a : Asker) : (sendFrame g i f a s).port p = s.port p := by
  cases f <;> simp [sendFrame]

theorem port_sendDelivery (d : DeliveryRecord) : (sendDelivery g d s).port p = s.port p := by
  unfold sendDelivery
  split <;> simp [port_sendFrame]

theorem port_startDelivery (i : SlotIx) : (startDelivery g i s).port p = s.port p := by
  simp [startDelivery, setDraftState]

theorem port_routineVisit : (routineVisit g s).port p = s.port p := by
  unfold routineVisit
  split
  · rfl
  · split
    · rfl
    · rw [port_sendFrame, port_modSeg]

/-- R30: the choice answers nobody. -/
theorem port_choose : (choose g s).port p = s.port p := by
  unfold choose
  split
  · rfl
  · split
    · exact port_sendDelivery ..
    · split
      · exact port_sendFrame ..
      · split
        · dsimp only
          split
          · rw [port_sendDelivery, port_startDelivery]
          · exact port_startDelivery ..
        · exact port_routineVisit ..

end

/-! ### The record of a Close All (R92) -/

section
variable {p : PortId} {i : SlotIx} {s : State} {l : List (SlotIx × CloseResult)}

theorem settleCloseAll_waits (hl : (s.port p).closeAll = some l) (h : ∃ e ∈ l, e.2 = .pending) :
    settleCloseAll p s = s := by
  obtain ⟨e, he, hpending⟩ := h
  have hno : ¬ (l.all fun x => x.2 != .pending) = true := fun hall => by
    simpa [hpending] using List.all_eq_true.mp hall e he
  simp only [settleCloseAll, hl, if_neg hno]

theorem settleCloseAll_answers (hl : (s.port p).closeAll = some l) (h : ∀ e ∈ l, e.2 ≠ .pending) :
    settleCloseAll p s = answer p .done (closeAllBody l) (s.modPort p fun x => { x with closeAll := none }) := by
  have hall : (l.all fun x => x.2 != .pending) = true := List.all_eq_true.mpr fun e he => by simpa using h e he
  simp only [settleCloseAll, hl, if_pos hall]

/-- R92: the record of a Close All with the result of a slot entered. -/
def noted (l : List (SlotIx × CloseResult)) (i : SlotIx) (r : CloseResult) : List (SlotIx × CloseResult) :=
  l.map fun e => if e.1 = i then (i, r) else e

theorem noteCloseAll_eq (hl : (s.port p).closeAll = some l) (r : CloseResult) : noteCloseAll p i r s
    = settleCloseAll p (s.modPort p fun x => { x with closeAll := some (noted l i r) }) := by
  simp only [noteCloseAll, modPort_def, hl, Option.map_some, noted, beq_iff_eq]

/-- R92: while a result is pending, one more is entered and nobody is answered. -/
theorem noteCloseAll_waits {r : CloseResult} (hl : (s.port p).closeAll = some l) (h : ∃ e ∈ noted l i r, e.2 = .pending) :
    noteCloseAll p i r s = s.modPort p fun x => { x with closeAll := some (noted l i r) } := by
  rw [noteCloseAll_eq hl, settleCloseAll_waits (congrArg Port.closeAll (port_modPort_same ..)) h]

/-- R92: the last result answers the request. -/
theorem noteCloseAll_answers {r : CloseResult} (hl : (s.port p).closeAll = some l)
    (h : ∀ e ∈ noted l i r, e.2 ≠ .pending) (hrequest : (s.port p).request = some 12) : noteCloseAll p i r s
      = answered p 12 .done (closeAllBody (noted l i r)) (s.modPort p fun x => { x with closeAll := none }) := by
  rw [noteCloseAll_eq hl, settleCloseAll_answers (congrArg Port.closeAll (port_modPort_same ..)) h, modPort_modPort]
  exact answer_inProgress (by rw [port_modPort_same]; exact hrequest) ..

/-- R90, R92: the end of a group enters the result of its close in the record of its Close All. -/
theorem reportGroup_ofAll {f : GroupRecord} {final stored : Bool} {kept : ClosedFigures} (hf : f.slot = i)
    (ha : f.abandoned = false) (hx : (s.slot i).close = .storing (some p) true final kept) : reportGroup stored f s
      = noteCloseAll p i (.closed final stored kept.number kept.figures.takings kept.figures.takingsSat)
          (s.setSlot i { s.slot i with close := .idle }) := by
  rw [reportGroup, ha, if_neg Bool.false_ne_true, hf]
  simp only [finishClose, hx]
  rfl

end

/-! ### The start of a Close All (R91) -/

section
variable {p : PortId} {s : State}

/-- R91: the record that a Close All starts with. -/
def State.closeAllRecord (s : State) : List (SlotIx × CloseResult) :=
  s.listedSlots.map fun i => (i, if (s.slot i).close = .idle then CloseResult.pending else .tableBusy)

/-- R91: the slots on which a Close All starts a close. -/
def State.freeToClose (s : State) : List SlotIx := s.listedSlots.filter fun i => (s.slot i).close == .idle

theorem mem_freeToClose {i : SlotIx} : i ∈ s.freeToClose ↔ (s.slot i).table ≠ .unlisted ∧ (s.slot i).close = .idle := by
  simp [State.freeToClose, mem_listedSlots]

theorem freeToClose_nodup (s : State) : s.freeToClose.Nodup := ((List.nodup_finRange 16).filter _).filter _

theorem closeAll_eq (p : PortId) (s : State) : closeAll p s
    = settleCloseAll p ((s.modPort p fun x => { x with closeAll := some s.closeAllRecord }).forSlots s.freeToClose
        fun i u => startClose i p true u) := rfl

/-- R91: a close that Close All has started: it waits for its closing report, or its group is in the store. -/
def Slot.Closing (x : Slot) (p : PortId) : Prop :=
  x.close = .polling (some p) true 0 ∨ ∃ k, x.close = .storing (some p) true false k

/-- R85, R88: while the store makes writes, the start of a close ends none. -/
theorem startClose_starts {i : SlotIx} {u : State} (hw : u.store.writing = true) :
    (startClose i p true u).store.writing = true ∧ (startClose i p true u).port p = u.port p
      ∧ ((startClose i p true u).slot i).Closing p
      ∧ ∀ j, j ≠ i → (startClose i p true u).slot j = u.slot j := by
  by_cases hpolls : (u.slot i).inService = true ∧ (u.seg (u.slot i).seg).state = .running
  · rw [startClose_polls hpolls.1 hpolls.2]
    exact ⟨hw, port_setSlot .., .inl (congrArg Slot.close (slot_setSlot_same ..)), fun j hj => slot_setSlot_other u _ hj⟩
  · rw [startClose_copies hpolls]
    obtain ⟨-, hother, hwriting, hport⟩ := closeNow_facts i false (some p) true u
    exact ⟨hwriting.trans hw, hport hw p, .inr ⟨_, congrArg Slot.close (slot_closeNow hw)⟩, hother⟩

/-- R91: what the closes that a Close All starts leave of the port and of the slots, while the store makes writes. -/
theorem startCloses (hw : s.store.writing = true) :
    let u := s.forSlots s.freeToClose fun i u => startClose i p true u
    u.port p = s.port p ∧ (∀ i ∈ s.freeToClose, (u.slot i).Closing p)
      ∧ ∀ j, j ∉ s.freeToClose → u.slot j = s.slot j := by
  have hloop := forSlots_once (P := fun u => u.store.writing = true ∧ u.port p = s.port p) (R := fun _ y => y.Closing p)
    (f := fun i u => startClose i p true u) (freeToClose_nodup s) ⟨hw, rfl⟩ fun i _ u ⟨huw, hup⟩ _ => by
      obtain ⟨hwriting, hport, hcloses, hother⟩ := startClose_starts (p := p) (i := i) huw
      exact ⟨⟨hwriting, hport.trans hup⟩, hcloses, hother⟩
  obtain ⟨⟨-, hport⟩, hcloses, hother⟩ := hloop
  exact ⟨hport, hcloses, hother⟩

end

/-- R91, R92: Close All with no slot listed is answered at once, with an empty list. -/
theorem closeAll_empty {p : PortId} {s : State} (h : ∀ i, (s.slot i).table = .unlisted) :
    closeAll p (holdRequest p 12 s) = answered p 12 .done [0] (s.modPort p fun y => { y with closeAll := none }) := by
  have hnone : (holdRequest p 12 s).listedSlots = [] := List.eq_nil_iff_forall_not_mem.mpr fun i hi =>
    mem_listedSlots.mp hi (by rw [slot_holdRequest, h])
  have hrecord : (holdRequest p 12 s).closeAllRecord = [] := by rw [State.closeAllRecord, hnone, List.map_nil]
  have hfree : (holdRequest p 12 s).freeToClose = [] := by rw [State.freeToClose, hnone, List.filter_nil]
  rw [closeAll_eq, hfree, hrecord, State.forSlots, List.foldl_nil,
    settleCloseAll_answers (congrArg Port.closeAll (port_modPort_same ..)) (by simp), modPort_modPort, ← answer_held,
    holdRequest, modPort_modPort, modPort_modPort]
  rfl

/-- R91: Close All with a slot to wait for. -/
theorem closeAll_starts {p : PortId} {s : State} (hw : s.store.writing = true)
    (h : ∃ i, (s.slot i).table ≠ .unlisted ∧ (s.slot i).close = .idle) :
    (closeAll p s).port p = { s.port p with closeAll := some s.closeAllRecord }
      ∧ (∀ i ∈ s.freeToClose, ((closeAll p s).slot i).Closing p)
      ∧ ∀ j, j ∉ s.freeToClose → (closeAll p s).slot j = s.slot j := by
  set v := s.modPort p fun x => { x with closeAll := some s.closeAllRecord } with hv
  have hslot (j : SlotIx) : v.slot j = s.slot j := slot_modPort ..
  have hfree : v.freeToClose = s.freeToClose := by simp only [State.freeToClose, State.listedSlots, hslot]
  obtain ⟨hport, hcloses, hother⟩ := startCloses (p := p) (s := v) (by rw [hv, modPort_store]; exact hw)
  rw [port_modPort_same, hfree] at hport
  rw [hfree] at hcloses hother
  obtain ⟨i, hi⟩ := h
  have hpending : ∃ e ∈ s.closeAllRecord, e.2 = .pending :=
    ⟨_, List.mem_map.mpr ⟨i, mem_listedSlots.mpr hi.1, rfl⟩, if_pos hi.2⟩
  rw [closeAll_eq, settleCloseAll_waits (congrArg Port.closeAll hport) hpending]
  exact ⟨hport, hcloses, fun j hj => (hother j hj).trans (hslot j)⟩

theorem effect_closeAll {p : PortId} {s : State} (htakes : s.takes p = true) :
    effect (.closePeriod p 0) s = chooseBoth (closeAll p (holdRequest p 12 s)) := takeRequest_taken htakes _

theorem port_chooseBoth (s : State) (p : PortId) : (chooseBoth s).port p = s.port p :=
  (port_choose ..).trans (port_choose ..)

/-- R30: both choices leave the close records. -/
theorem close_chooseBoth (s : State) (j : SlotIx) : ((chooseBoth s).slot j).close = (s.slot j).close :=
  ((slot_choose .a s j).trans (slot_choose .b (choose .a s) j)).close

/-- R91: Close All with a slot to wait for, as a whole command. -/
theorem closePeriod_all {p : PortId} {s : State} (htakes : s.takes p = true) (hw : s.store.writing = true)
    (h : ∃ i, (s.slot i).table ≠ .unlisted ∧ (s.slot i).close = .idle) :
    ∃ t, exec (.closePeriod p 0) s = .next t
      ∧ t.port p = { s.port p with request := some 12, closeAll := some s.closeAllRecord }
      ∧ (∀ i ∈ s.freeToClose, (t.slot i).Closing p)
      ∧ ∀ i, i ∉ s.freeToClose → (t.slot i).close = (s.slot i).close := by
  have hheld (j : SlotIx) : (holdRequest p 12 s).slot j = s.slot j := slot_holdRequest ..
  have hfree : (holdRequest p 12 s).freeToClose = s.freeToClose := by
    simp only [State.freeToClose, State.listedSlots, hheld]
  have hrecord : (holdRequest p 12 s).closeAllRecord = s.closeAllRecord := by
    simp only [State.closeAllRecord, State.listedSlots, hheld]
  obtain ⟨hport, hcloses, hother⟩ := closeAll_starts (p := p) (s := holdRequest p 12 s)
    (by rw [holdRequest, modPort_store]; exact hw) (by simpa only [hheld] using h)
  rw [hfree] at hcloses hother
  set c := closeAll p (holdRequest p 12 s)
  have hclose (i : SlotIx) : ((pumpStore (chooseBoth c)).slot i).close = (c.slot i).close := by
    rw [slot_pumpStore, close_chooseBoth]
  refine ⟨pumpStore (chooseBoth c), by rw [exec_eq, effect_closeAll htakes], ?_, fun i hi => ?_, fun i hi => ?_⟩
  · rw [port_pumpStore, port_chooseBoth, hport, hrecord, holdRequest, port_modPort_same]
  · simpa only [Slot.Closing, hclose] using hcloses i hi
  · rw [hclose, hother i hi, hheld]

/-- R92, R172: the end of the only group, of a close that a Close All started. -/
theorem verifyWrite_notes {p : PortId} {i : SlotIx} {s : State} {w : WriteInFlight} {f : GroupRecord} {final : Bool}
    {kept : ClosedFigures} {l : List (SlotIx × CloseResult)} (hs : s.store.sound = true)
    (hi : s.store.inFlight = some w) (hbad : (s.store.page w.page).bad = false) (hw : s.store.waiting = [])
    (hg : s.store.groups = [f]) (hf : f.slot = i) (ha : f.abandoned = false)
    (hd : ∀ q, (s.store.page q).deferredTags = []) (hx : (s.slot i).close = .storing (some p) true final kept)
    (hl : (s.port p).closeAll = some l) (hrequest : (s.port p).request = some 12) :
    let after : State :=
      { s.setSlot i { s.slot i with close := .idle } with store := { s.store.verified w with groups := [] } }
    let l' := noted l i (.closed final (!f.failed) kept.number kept.figures.takings kept.figures.takingsSat)
    ((∃ e ∈ l', e.2 = .pending) →
        exec (.storeWriteVerify w.bytes) s = .next (after.modPort p fun y => { y with closeAll := some l' }))
      ∧ ((∀ e ∈ l', e.2 ≠ .pending) → exec (.storeWriteVerify w.bytes) s
        = .next (answered p 12 .done (closeAllBody l') (after.modPort p fun y => { y with closeAll := none }))) := by
  intro after l'
  have hport : after.port p = s.port p := by cases p <;> rfl
  rw [← hport] at hl hrequest
  have hreport : reportGroup (!f.failed) f { s with store := { s.store.verified w with groups := [] } }
      = noteCloseAll p i (.closed final (!f.failed) kept.number kept.figures.takings kept.figures.takingsSat) after :=
    reportGroup_ofAll hf ha hx
  refine ⟨fun hpending => ?_, fun hdone => ?_⟩
  · exact exec_verify_last hs hi hbad hg hd hw (hreport.trans (noteCloseAll_waits hl hpending)) (modPort_store ..)
  · exact exec_verify_last hs hi hbad hg hd hw (hreport.trans (noteCloseAll_answers hl hdone hrequest))
      ((answered_store ..).trans (modPort_store ..))

/-- Settles O36: Close All with no slot listed and with one to wait for; the end of a group, with a result still pending
and with the last one. -/
theorem closeAllFromRequestToAnswer : Obligations.CloseAll := by
  unfold Obligations.CloseAll
  refine ⟨fun p s htakes hq => ⟨fun h => ?_, fun hw h => ?_⟩,
    fun p i s w f final kept l hs hi hbad hw hg hf ha hd hx hl hrequest =>
      verifyWrite_notes hs hi hbad hw hg hf ha hd hx hl hrequest⟩
  · refine exec_of_quiet ((effect_closeAll htakes).trans (congrArg chooseBoth (closeAll_empty h))) ?_
    rw [chooseBoth_store, answered_store, modPort_store]
    exact hq
  · obtain ⟨t, hexec, hport, hcloses, hother⟩ := closePeriod_all htakes hw h
    refine ⟨t, hexec, by rw [hport], by rw [hport], by rw [hport]; rfl,
      fun i => ⟨fun hl hidle => hcloses i (mem_freeToClose.mpr ⟨hl, hidle⟩), fun hno => hother i fun hmem => ?_⟩⟩
    obtain ⟨hl, hidle⟩ := mem_freeToClose.mp hmem
    exact hno.elim hl fun hbusy => hbusy hidle

end Sys2Proof.Machine

namespace Sys2Proof.Machine

/-! ## The matching Check Word of a delivery (R124 to R126) -/

section
variable {g : SegId} {s : State} {x : Exchange}

/-- R9, R30: the command of a Good answer of an Active table: the asking block leaves a state on, and the scheduler
chooses. -/
theorem effect_answer_taken {v : State} {gs : GameState} {rest : List Byte} (hx : (s.seg g).exchange = some x)
    (ht : (s.slot x.slot).table = .active) (hscore : (s.slot x.slot).score < 64) (hp : x.phase = .window)
    (hr : x.received = []) (hrest : rest.length ≤ 318)
    (hv : askerTakes g x (.good gs rest) ((cleared g s).setSlot x.slot ((s.slot x.slot).answeredGood gs)) = v)
    (hpending : (v.seg g).haltPending = false) (hnoisy : (v.seg g).noisy = false) :
    effect (.answerComplete g gs .accepted rest) s
      = choose g (v.setSeg g { v.seg g with garble := (v.seg g).garble - 1 }) := by
  have hhand := (handOn_good gs rest ht hscore).trans (by rw [hv, garbleFall_clear hnoisy])
  refine (answerComplete_window hx hp hr hrest).trans ((endExchange_of_handOn hx hhand).trans ?_)
  rw [seg_setSeg_same, if_neg (by simp [hpending])]

theorem askerTakes_deliveryWord {q : BitVec 4} {w : Nat} {rest : List Byte} (gs : GameState)
    (hf : x.frame = .checkQuery q) (ha : x.asker = .delivery) (hw : parseCheckWord rest = some w) :
    askerTakes g x (.good gs rest) s = takeDeliveryWord g x.slot q w s := by
  simp [askerTakes, hf, ha, ExOutcome.usable, ExOutcome.bodyOf, hw]

/-- R125: the two bytes of a word carry it. -/
theorem parseCheckWord_word {w : Nat} (h : w < 65536) :
    parseCheckWord [BitVec.ofNat 8 (w / 256), BitVec.ofNat 8 w] = some w := by
  rw [parseCheckWord_two, BitVec.toNat_ofNat, BitVec.toNat_ofNat]
  exact congrArg some (by omega)

/-- R117: a slot whose delivery was confirmed: the draft's values are the Active image. -/
def Slot.deliveryConfirmed (y : Slot) : Slot :=
  { y with
    active := some y.draft.values, draft := Draft.cleanOver (some y.draft.values)
    readback := none, localCheck := false, confirmed := true }

/-- R37, R124: a slot whose check timer runs anew. -/
def Slot.checkRun (y : Slot) : Slot := { y with due := { y.due with check := 0 } }

/-- R126: a segment's delivery of a slot is over: its entry is gone, the delivery record empty. -/
def State.deliveryOver (s : State) (g : SegId) (i : SlotIx) : State :=
  (removeEntry i s).setSeg g { s.seg g with delivery := none }

theorem deliveryOver_slots (g : SegId) (i : SlotIx) (s : State) : (s.deliveryOver g i).slots = s.slots := by
  cases g <;> rfl

theorem deliveryOver_seg (g : SegId) (i : SlotIx) (s : State) :
    (s.deliveryOver g i).seg g = { s.seg g with delivery := none } := seg_setSeg_same ..

/-- R126: without a withdrawal the confirmed delivery answers no one. -/
theorem delivered_unmarked {i : SlotIx} {e : DeliveryEntry} (he : s.entry i = some e) (hw : e.withdrawal = false) :
    delivered g i s
      = (enqueuePage (settingsPage i) (s.setSlot i (s.slot i).deliveryConfirmed)).deliveryOver g i := by
  simp only [delivered, he, hw]
  rfl

/-- R124, R126: without a withdrawal and a pending outcome, a matching Check Word confirms the slot, asks for its
settings page, and ends the delivery. -/
theorem takeDeliveryWord_confirms {i : SlotIx} {q : BitVec 4} {w : Nat} {e : DeliveryEntry}
    (hword : w = checkWord (s.slot i).draft.values q) (he : s.entry i = some e) (hw : e.withdrawal = false)
    (ho : (s.slot i).outcome = none) :
    takeDeliveryWord g i q w s
      = (enqueuePage (settingsPage i) (s.setSlot i (s.slot i).checkRun.deliveryConfirmed)).deliveryOver g i := by
  have hdelivered := delivered_unmarked (g := g) (s := s.modSlot i Slot.checkRun) he hw
  rw [slot_modSlot_same, modSlot_def, setSlot_setSlot] at hdelivered
  refine (if_pos hword).trans ((confirmDelivery_eq g i (s.setSlot i (s.slot i).checkRun)).trans ?_)
  rw [hdelivered, offerOutcome_none]
  rw [slot_congr (deliveryOver_slots ..)]
  exact (congrArg Slot.outcome (slot_setSlot_same s i _)).trans ho

/-- R126: the end of a confirmed delivery and of its exchange asks for the settings page. -/
theorem deliveryOver_asking {u : State} {i : SlotIx} (y : Slot) (z : Segment) (hu : u.store = s.store) :
    Asking s (((enqueuePage (settingsPage i) (u.setSlot i y)).deliveryOver g i).setSeg g z)
      (((u.setSlot i y).deliveryOver g i).setSeg g z) [settingsPage i] := by
  have hasked := (Asking.refl (s := s) (e := u.setSlot i y) hu).askMore (settingsPage i)
  exact hasked.change (f := fun u => (u.deliveryOver g i).setSeg g z) (fun _ _ => by cases g <;> rfl) fun p _ =>
    pageBody_of_slots (by cases g <;> rfl) (by cases g <;> rfl) (by cases g <;> rfl) p

/-- R126: the slot, its entry and the segment are all that a confirmed delivery and its exchange leave changed. -/
theorem deliveryOver_answered (i : SlotIx) (v y : Slot) (z : Segment) :
    ((((cleared g s).setSlot i v).setSlot i y).deliveryOver g i).setSeg g z
      = { (s.setSeg g z).setSlot i y with queue := s.queue.filter fun f => f.slot != i } := by
  rw [setSlot_setSlot]
  cases g <;> rfl

end

/-- Settles O29: the word is the draft's check word, so the Delivery Engine confirms; the settings page is asked for
before the exchange is over, which leaves the page's content as it is. -/
theorem matchingCheckWordConfirms : Obligations.MatchingCheckWordConfirms := by
  unfold Obligations.MatchingCheckWordConfirms
  intro g s x d e q gs hq hx hpending hnoisy _ _ hp hr hf ha he hw ht hscore ho y w
  set u : State := (cleared g s).setSlot x.slot (y.answeredGood gs) with hu
  have huslot : u.slot x.slot = y.answeredGood gs := slot_setSlot_same ..
  have huseg : u.seg g = { s.seg g with exchange := none, driverOn := false } := seg_setSeg_same ..
  have huentry : u.entry x.slot = some e := (by simp [State.entry, hu, cleared] : u.entry x.slot = _).trans he
  have htakes : askerTakes g x (.good gs [BitVec.ofNat 8 (w / 256), BitVec.ofNat 8 w]) u
      = (enqueuePage (settingsPage x.slot)
          (u.setSlot x.slot (y.answeredGood gs).checkRun.deliveryConfirmed)).deliveryOver g x.slot := by
    have hparse := parseCheckWord_word (w := w) (Nat.mod_lt _ (by decide))
    rw [askerTakes_deliveryWord gs hf ha hparse, takeDeliveryWord_confirms _ huentry hw, huslot]
    · rw [huslot]
      exact ho
    · rw [huslot]
      rfl
  have hover : (((enqueuePage (settingsPage x.slot)
      (u.setSlot x.slot (y.answeredGood gs).checkRun.deliveryConfirmed)).deliveryOver g x.slot).seg g)
      = { s.seg g with exchange := none, driverOn := false, delivery := none } :=
    (deliveryOver_seg ..).trans (congrArg (fun z : Segment => { z with delivery := none }) huseg)
  have heffect := effect_answer_taken hx ht hscore hp hr (by simp) htakes (by rw [hover]; exact hpending)
    (by rw [hover]; exact hnoisy)
  have hnext := nextChoosing_of heffect (deliveryOver_asking _ _ (by simp [hu, cleared])) hq
    (by simp [Config.writeCapacity]) fun _ => Iff.rfl
  rw [hover, hu, deliveryOver_answered] at hnext
  exact hnext

end Sys2Proof.Machine

namespace Sys2Proof.Machine

/-! ## Submit Draft (R108) -/

section
variable {p : PortId} {i : SlotIx} {slot priority : Byte} {s : State}

/-- R108: the checks of Submit Draft for an Edited draft of a listed slot, at a priority in range: first the base, then
the reservation. -/
theorem submitRefusal_eq (hpriority : priority.toNat ≤ 7) (hl : (s.slot i).table ≠ .unlisted)
    (hd : (s.slot i).draft.state = .edited) : submitRefusal p i priority s
      = if (s.slot i).draft.baseMoved then some .baseMoved
        else if (s.port p).reservation ≠ some i then some .noReservation else none := by
  simp only [submitRefusal, if_neg (Nat.not_lt.mpr hpriority), (listed_iff _).mpr hl, hd, ne_eq, not_true_eq_false,
    Bool.not_true, Bool.false_eq_true, if_false]

theorem serveSubmitDraft_refused {status : Status} (hslot : slotOf slot = some i)
    (h : submitRefusal p i priority s = some status) :
    serveSubmitDraft p slot priority s = refuseRequest p status s := by
  simp only [serveSubmitDraft, hslot, h]

theorem serveSubmitDraft_accepted (hslot : slotOf slot = some i) (h : submitRefusal p i priority s = none) :
    serveSubmitDraft p slot priority s = submitDraft p i priority s := by
  simp only [serveSubmitDraft, hslot, h]

/-- R108, R119: the draft of a slot is Queued, with its entry at the end of the queue. -/
def State.submitted (s : State) (p : PortId) (i : SlotIx) (priority : Byte) : State :=
  clearReservations i (joinQueue i priority.toNat (originOf p) (s.setSlot i
    { s.slot i with draft := { (s.slot i).draft with state := .queued }, confirmed := false }))

theorem submitted_store : (s.submitted p i priority).store = s.store := rfl

theorem discarded_store : (s.discarded i).store = s.store := rfl

/-- R108: a draft that differs from the Active image is queued, and the scheduler chooses. -/
theorem submitDraft_differs (h : (s.slot i).active ≠ some (s.slot i).draft.values) :
    submitDraft p i priority s = choose (s.slot i).seg (answer p .done [] (s.submitted p i priority)) := by
  have hqueued : (joinQueue i priority.toNat (originOf p) (setDraftState i .queued s)).modSlot i
        (fun y => { y with confirmed := false })
      = joinQueue i priority.toNat (originOf p) (s.setSlot i
        { s.slot i with draft := { (s.slot i).draft with state := .queued }, confirmed := false }) := by
    simp [joinQueue, setDraftState, State.modSlot, State.setSlot, State.slot]
  rw [submitDraft, if_neg h]
  exact congrArg (fun t => choose (s.slot i).seg (answer p .done [] (clearReservations i t))) hqueued

/-- R108: a draft equal to the Active image becomes Clean, and the scheduler chooses. -/
theorem submitDraft_equal (h : (s.slot i).active = some (s.slot i).draft.values) (ho : (s.slot i).outcome = none) :
    submitDraft p i priority s = choose (s.slot i).seg (answer p .nothingToDeliver [] (s.discarded i)) := by
  have hnone : ((s.discarded i).slot i).outcome = none := (congrArg Slot.outcome slot_discarded).trans ho
  rw [submitDraft, if_pos h]
  exact congrArg (fun t => choose (s.slot i).seg (answer p .nothingToDeliver [] t)) (offerOutcome_none hnone)

theorem submitted_hold (kind : Byte) :
    (holdRequest p kind s).submitted p i priority = holdRequest p kind (s.submitted p i priority) := by
  have hslot : (holdRequest p kind s).slot i = s.slot i := slot_holdRequest ..
  have hset (y : Slot) : (holdRequest p kind s).setSlot i y = holdRequest p kind (s.setSlot i y) := setSlot_modPort ..
  simp only [State.submitted, hslot, hset, joinQueue_hold, clearReservations_hold]

theorem discarded_hold (kind : Byte) : (holdRequest p kind s).discarded i = holdRequest p kind (s.discarded i) := by
  have hslot : (holdRequest p kind s).slot i = s.slot i := slot_holdRequest ..
  have hset (y : Slot) : (holdRequest p kind s).setSlot i y = holdRequest p kind (s.setSlot i y) := setSlot_modPort ..
  simp only [State.discarded, hslot, hset, clearReservations_hold]

/-- R30, R183: a request that is answered at once, asking for no page, before the scheduler chooses. -/
theorem exec_chosen {c : Instr} {r : Request} {g : SegId} {status : Status} {body : List Byte} {w : State}
    (htakes : s.takes p = true) (hq : s.store.quiet = true) (hc : effect c = takeRequest p r)
    (hw : w.store = s.store)
    (hserve : serve p r (holdRequest p (requestKind r) s)
      = choose g (answer p status body (holdRequest p (requestKind r) w))) :
    exec c s = .next (choose g (answered p (requestKind r) status body w)) :=
  exec_taken htakes hc (hserve.trans (congrArg (choose g) (answer_held ..)))
    (by rw [choose_store, answered_store, hw]; exact hq)

end

/-- Settles O38: the checks of the request, and the draft by whether it is the Active image. -/
theorem submitDraftQueues : Obligations.SubmitDraftQueues := by
  unfold Obligations.SubmitDraftQueues
  intro p slot priority i s htakes hq hslot hl hpriority hd x
  have hslotOf := slotOf_number hslot
  have hheld : (holdRequest p 16 s).slot i = x := slot_holdRequest p 16 s i
  have hport : ((holdRequest p 16 s).port p).reservation = (s.port p).reservation := by
    rw [holdRequest, port_modPort_same]
  have hchecks := submitRefusal_eq (p := p) (s := holdRequest p 16 s) hpriority (by rwa [hheld]) (by rwa [hheld])
  rw [hheld, hport] at hchecks
  have hunmoved (hbase : x.draft.baseMoved = false) : submitRefusal p i priority (holdRequest p 16 s)
      = if (s.port p).reservation ≠ some i then some .noReservation else none :=
    hchecks.trans (if_neg (by simp [hbase]))
  have hserve (hbase : x.draft.baseMoved = false) (hres : (s.port p).reservation = some i) :
      serve p (.submitDraft slot priority) (holdRequest p 16 s) = submitDraft p i priority (holdRequest p 16 s) :=
    serveSubmitDraft_accepted hslotOf ((hunmoved hbase).trans (if_neg (not_not.mpr hres)))
  refine ⟨fun hbase hres hdiffers => ?_, fun hbase hres hequal ho => ?_, fun hbase => ?_, fun hbase hres => ?_⟩
  · have hsubmit := submitDraft_differs (p := p) (priority := priority) (s := holdRequest p 16 s) (by rwa [hheld])
    rw [hheld, submitted_hold] at hsubmit
    refine (exec_chosen (r := .submitDraft slot priority) htakes hq rfl submitted_store
      ((hserve hbase hres).trans hsubmit)).trans ?_
    cases p <;> rfl
  · have hsubmit := submitDraft_equal (p := p) (priority := priority) (s := holdRequest p 16 s) (by rwa [hheld])
      (by rwa [hheld])
    rw [hheld, discarded_hold] at hsubmit
    have hclean : x.withCleanDraft = { x with draft :=
        { values := x.draft.values, touched := x.draft.values.map fun _ => false
          state := .clean, baseMoved := false } } := by
      rw [Slot.withCleanDraft, hequal]
      rfl
    rw [← hclean]
    exact exec_chosen (r := .submitDraft slot priority) htakes hq rfl discarded_store
      ((hserve hbase hres).trans hsubmit)
  · exact exec_refused (r := .submitDraft slot priority) htakes hq
      (serveSubmitDraft_refused hslotOf (hchecks.trans (if_pos hbase)))
  · exact exec_refused (r := .submitDraft slot priority) htakes hq
      (serveSubmitDraft_refused hslotOf ((hunmoved hbase).trans (if_pos hres)))

end Sys2Proof.Machine

namespace Sys2Proof.Machine

/-! ## Withdraw Delivery (R133, R134) -/

section
variable {p : PortId} {slot : Byte} {i : SlotIx} {s : State} {e : DeliveryEntry}

theorem entry_hold (kind : Byte) (j : SlotIx) : (holdRequest p kind s).entry j = s.entry j := by
  cases p <;> rfl

theorem markWithdrawal_hold (kind : Byte) :
    markWithdrawal p i (holdRequest p kind s) = holdRequest p kind (markWithdrawal p i s) := by
  cases p <;> rfl

/-- R133, R134: a withdrawn delivery: the draft is Edited, and its entry has left the queue. -/
def State.withdrawn (s : State) (i : SlotIx) : State := removeEntry i (setDraftState i .edited s)

theorem withdrawn_hold (kind : Byte) : (holdRequest p kind s).withdrawn i = holdRequest p kind (s.withdrawn i) := by
  cases p <;> rfl

/-- R133: what the answer of Withdrawn carries: the entry's origin, priority and attempt count. -/
theorem withdrawnBody_eq (e : DeliveryEntry) :
    withdrawnBody e
      = [BitVec.ofNat 8 (originCode e.origin), BitVec.ofNat 8 e.priority, BitVec.ofNat 8 e.attempts] := rfl

theorem slotField_number (h : slot.toNat = i.val + 1) : slotField i = [slot] :=
  congrArg (fun b => [b]) (BitVec.eq_of_toNat_eq (by simp [slotNumber, ← h]))

/-! ### The request by the state of the draft -/

theorem serveWithdrawDelivery_queued (hslot : slotOf slot = some i) (hl : (s.slot i).table ≠ .unlisted)
    (hd : (s.slot i).draft.state = .queued) (he : s.entry i = some e) :
    serveWithdrawDelivery p slot s = answer p .withdrawn (withdrawnBody e) (s.withdrawn i) := by
  simp only [serveWithdrawDelivery, hslot, (listed_iff _).mpr hl, hd, Bool.not_true, Bool.false_eq_true, if_false]
  exact withdrawEntry_some (some p) he

theorem serveWithdrawDelivery_delivering (hslot : slotOf slot = some i) (hl : (s.slot i).table ≠ .unlisted)
    (hd : (s.slot i).draft.state = .delivering) (he : s.entry i = some e) :
    serveWithdrawDelivery p slot s
      = if e.withdrawal then refuseRequest p .refusedInState s else markWithdrawal p i s := by
  simp [serveWithdrawDelivery, hslot, (listed_iff _).mpr hl, hd, State.withdrawalPending, he]

theorem serveWithdrawDelivery_clean (hslot : slotOf slot = some i) (hl : (s.slot i).table ≠ .unlisted)
    (hd : (s.slot i).draft.state = .clean) :
    serveWithdrawDelivery p slot s
      = if (s.slot i).confirmed then answer p .tooLate (slotField i) s else refuseRequest p .refusedInState s := by
  simp [serveWithdrawDelivery, hslot, (listed_iff _).mpr hl, hd]

theorem serveWithdrawDelivery_edited (hslot : slotOf slot = some i) (hl : (s.slot i).table ≠ .unlisted)
    (hd : (s.slot i).draft.state = .edited) :
    serveWithdrawDelivery p slot s = refuseRequest p .refusedInState s := by
  simp [serveWithdrawDelivery, hslot, (listed_iff _).mpr hl, hd]

end

/-- Settles O40: the request by the state of the draft. -/
theorem withdrawDelivery : Obligations.WithdrawDelivery := by
  unfold Obligations.WithdrawDelivery
  intro p slot i s htakes hq hslot hl x
  have hslotOf := slotOf_number hslot
  have hheld : (holdRequest p 18 s).slot i = x := slot_holdRequest p 18 s i
  have hl' : ((holdRequest p 18 s).slot i).table ≠ .unlisted := by rwa [hheld]
  have hstate {d : DraftState} (h : x.draft.state = d) : ((holdRequest p 18 s).slot i).draft.state = d := by rwa [hheld]
  have hentry {e : DeliveryEntry} (h : s.entry i = some e) : (holdRequest p 18 s).entry i = some e :=
    (entry_hold 18 i).trans h
  have hrefused (h : serveWithdrawDelivery p slot (holdRequest p 18 s)
      = refuseRequest p .refusedInState (holdRequest p 18 s)) :
      exec (.withdrawDelivery p slot) s = .next (answered p 18 .refusedInState [] s) :=
    exec_refused (r := .withdrawDelivery slot) htakes hq h
  refine ⟨fun e hd he => ?_, fun e hd he hw => ?_, fun e hd he hw => ?_, fun hd hc => ?_, fun hd => ?_⟩
  · have hserve := serveWithdrawDelivery_queued (p := p) hslotOf hl' (hstate hd) (hentry he)
    rw [withdrawn_hold] at hserve
    refine (exec_answered (w := s.withdrawn i) (r := .withdrawDelivery slot) htakes hq rfl hserve).trans ?_
    rw [withdrawnBody_eq]
    cases e.origin <;> rfl
  · have hserve := serveWithdrawDelivery_delivering (p := p) hslotOf hl' (hstate hd) (hentry he)
    rw [hw, if_neg Bool.false_ne_true, markWithdrawal_hold] at hserve
    refine (exec_taken (r := .withdrawDelivery slot) htakes rfl hserve (by cases p <;> exact hq)).trans ?_
    cases p <;> rfl
  · exact hrefused ((serveWithdrawDelivery_delivering hslotOf hl' (hstate hd) (hentry he)).trans (if_pos hw))
  · have hserve := (serveWithdrawDelivery_clean (p := p) hslotOf hl' (hstate hd)).trans (if_pos (by rwa [hheld]))
    rw [slotField_number hslot] at hserve
    exact exec_answered (r := .withdrawDelivery slot) htakes hq rfl hserve
  · rcases hd with hd | ⟨hd, hc⟩
    · exact hrefused (serveWithdrawDelivery_edited hslotOf hl' (hstate hd))
    · have hunconfirmed : ¬ ((holdRequest p 18 s).slot i).confirmed = true := by
        rw [hheld, hc]
        exact Bool.false_ne_true
      exact hrefused ((serveWithdrawDelivery_clean hslotOf hl' (hstate hd)).trans (if_neg hunconfirmed))

end Sys2Proof.Machine

namespace Sys2Proof.Machine

/-! ## A delivery whose Item Frame ends Silent (R129 to R131, R134) -/

section
variable {g : SegId} {i : SlotIx} {s : State} {e : DeliveryEntry}

theorem entry_cleared (y : Slot) (j : SlotIx) : ((cleared g s).setSlot i y).entry j = s.entry j := by
  simp [State.entry, cleared]

/-- R130: without a withdrawal mark the draft returns to the queue. -/
theorem returnToQueue_unmarked (he : s.entry i = some e) (hw : e.withdrawal = false) :
    returnToQueue g i s = returned g i s := by
  simp [returnToQueue_eq, returned_entry, he, hw]

/-- R134: the mark takes effect when the delivery is suspended. -/
theorem returnToQueue_marked (he : s.entry i = some e) (hw : e.withdrawal = true) :
    returnToQueue g i s
      = answerTo e.withdrawPort .withdrawn (withdrawnBody e) ((returned g i s).withdrawn i) := by
  simp only [returnToQueue_eq, returned_entry, he, hw, if_true]
  exact withdrawEntry_some _ ((returned_entry ..).trans he)

/-- R8, R130: the slot, and the segment with its exchange and its delivery over, are all that the return to the queue
and the exchange leave changed. -/
theorem returned_cleared (y : Slot) :
    returned g i ((cleared g s).setSlot i y)
      = (s.setSeg g { s.seg g with exchange := none, driverOn := false, delivery := none }).setSlot i
          { y with draft := { y.draft with state := .queued } } := by
  simp [returned, setDraftState, cleared, modSlot_def, modSeg_def, setSeg_setSlot]

theorem withdrawn_setSlot (y : Slot) : (s.setSlot i y).withdrawn i
    = removeEntry i (s.setSlot i { y with draft := { y.draft with state := .edited } }) := by
  rw [State.withdrawn, setDraftState, modSlot_def, slot_setSlot_same, setSlot_setSlot]

/-- R183: the answer of a request still in progress on its port. -/
theorem answer_of_request {p : PortId} {kind : Byte} (status : Status) (body : List Byte)
    (h : (s.port p).request = some kind) : answer p status body s = answered p kind status body s := by
  have hsame : { s.port p with request := some kind } = s.port p := by rw [← h]
  have hport : (s.port p).answer status body
      = { s.port p with request := some kind }.hand { kind := kind, status := status, body := body, own := true } := by
    simp only [hsame, Port.answer, h]
  exact congrArg (s.setPort p) hport

/-- R45: a slot of an Active table after a Silent exchange, below the thresholds. -/
def Slot.silentOnce (y : Slot) : Slot := { y with score := y.score + 4, silent := y.silent + 1 }

/-- R129: an Item Frame that ends Silent suspends the delivery. -/
theorem askerTakes_silentItem {x : Exchange} {items : List (Nat × Nat)} (hf : x.frame = .itemFrame items) :
    askerTakes g x .silent s = suspendDelivery g s := by
  simp [askerTakes, hf, takeItemFrame, ExOutcome.usable, ExOutcome.bodyOf]

/-- R8, R45, R129: a Silent Item Frame of an Active table, below the thresholds: the roster, then the suspension. -/
theorem handOn_silentItem {x : Exchange} {d : DeliveryRecord} {items : List (Nat × Nat)}
    (hf : x.frame = .itemFrame items) (hd : (s.seg g).delivery = some d) (hslot : d.slot = x.slot)
    (ht : (s.slot x.slot).table = .active) (hscore : (s.slot x.slot).score + 4 < 64)
    (hsilent : (s.slot x.slot).silent + 1 < 8) :
    handOn g x .silent (cleared g s)
      = returnToQueue g x.slot ((cleared g s).setSlot x.slot (s.slot x.slot).silentOnce) := by
  have hnext : nextScore (s.slot x.slot).score .silent = (s.slot x.slot).score + 4 := saturate_of_le (by omega)
  have hsame : (cleared g s).slot x.slot = s.slot x.slot := slot_modSeg ..
  have hroster : rosterTakes x.slot .silent (cleared g s)
      = (cleared g s).setSlot x.slot (s.slot x.slot).silentOnce := by
    rw [rosterTakes_steady (by rwa [hsame]) (by rwa [hsame, hnext]) (by rwa [hsame]), hsame, hnext]
    rfl
  rw [handOn_eq, askerTakes_silentItem hf]
  change suspendDelivery g (rosterTakes x.slot .silent (cleared g s)) = _
  rw [hroster, suspendDelivery_some (d := d) (by simpa [cleared] using hd), hslot]

end

/-- Settles O31: the return of the draft to the queue, without and with a withdrawal mark on the entry. -/
theorem failedDeliveryFrameSuspends : Obligations.FailedDeliveryFrameSuspends := by
  unfold Obligations.FailedDeliveryFrameSuspends
  intro g s x d e items hq hx hpending hd hslot hp hf he ht hscore hsilent y z after
  set u : State := (cleared g s).setSlot x.slot y.silentOnce
  have huentry : u.entry x.slot = some e := (entry_cleared ..).trans he
  have hqueued : returned g x.slot u = after .queued := returned_cleared _
  have hexec {v : State} (hv : returnToQueue g x.slot u = v) (hvpending : (v.seg g).haltPending = false)
      (hstore : v.store = s.store) : exec (.answerWindowExpiry g) s = .next (choose g v) := by
    have hhand := (handOn_silentItem hf hd hslot ht hscore hsilent).trans hv
    refine exec_of_quiet ((if_pos ?_).trans ((endExchange_of_handOn hx hhand).trans (if_neg (by simp [hvpending])))) ?_
    · rw [phase_of_exchange hx, hp]
    · rwa [choose_store, hstore]
  refine ⟨fun hw => ?_, fun p hw hport hrequest => ?_⟩
  · exact hexec ((returnToQueue_unmarked huentry hw).trans hqueued) (by simpa [after, z] using hpending)
      (by simp [after])
  · have hwithdrawn : (returned g x.slot u).withdrawn x.slot
        = { after .edited with queue := s.queue.filter fun f => f.slot != x.slot } := by
      rw [hqueued, withdrawn_setSlot]
      cases g <;> rfl
    have hback := returnToQueue_marked (g := g) huentry hw
    rw [hwithdrawn, hport, withdrawnBody_eq] at hback
    refine hexec (hback.trans (answer_of_request (kind := 18) _ _ ?_)) ?_ ?_
    · rw [← hrequest]
      cases g <;> cases p <;> rfl
    · rw [← hpending]
      cases g <;> cases p <;> rfl
    · cases g <;> cases p <;> rfl

end Sys2Proof.Machine

namespace Sys2Proof.Machine

/-! ## A Check Word that differs (R127, R128, R163) -/

section
variable {g : SegId} {i : SlotIx} {s : State} {e : DeliveryEntry}

/-- A change of a slot's entry that keeps its slot is found by the slot. -/
theorem entry_modEntry {f : DeliveryEntry → DeliveryEntry} (hf : ∀ e, (f e).slot = e.slot)
    (he : s.entry i = some e) : (modEntry i f s).entry i = some (f e) := by
  have hfound : (fun a : DeliveryEntry => a.slot == i) ∘ (fun a => if a.slot == i then f a else a)
      = fun a => a.slot == i := by
    funext a
    by_cases ha : a.slot = i <;> simp [ha, hf]
  have hslot : e.slot = i := by simpa using List.find?_some he
  rw [State.entry, modEntry, List.find?_map, hfound, show s.queue.find? (fun a => a.slot == i) = some e from he]
  simp [hslot]

/-- R127: the entry of a delivery whose attempt has ended. -/
def DeliveryEntry.nextAttempt (e : DeliveryEntry) : DeliveryEntry := { e with attempts := e.attempts + 1 }

/-- R124: a Check Word that differs from the draft's. -/
theorem takeDeliveryWord_differs {q : BitVec 4} {w : Nat} (hword : w ≠ checkWord (s.slot i).draft.values q) :
    takeDeliveryWord g i q w s = mismatch g i (s.setSlot i (s.slot i).checkRun) := if_neg hword

/-- R127: below the third attempt, without a withdrawal mark. -/
theorem mismatch_retries (he : s.entry i = some e) (hw : e.withdrawal = false) (ha : e.attempts < 3) :
    mismatch g i s = returned g i (modEntry i DeliveryEntry.nextAttempt s) := by
  have hnext := entry_modEntry (f := DeliveryEntry.nextAttempt) (fun _ => rfl) he
  simp only [mismatch, he, if_pos ha]
  exact returnToQueue_unmarked hnext hw

theorem returned_modEntry (f : DeliveryEntry → DeliveryEntry) :
    returned g i (modEntry i f s) = modEntry i f (returned g i s) := by
  cases g <;> rfl

/-- R163: the alert of a diverged delivery. -/
def divergedAlert (i : SlotIx) (now : Stamp) : Alert :=
  { kind := .diverged, slot := slotNumber i, cls := some keyNotTaken.cls, code := keyNotTaken.code, subject := none
    hit := 0, stamp := now }

/-- R128: a segment's delivery has diverged: the alert is queued, the delivery record empty. -/
def State.divergenceOver (s : State) (g : SegId) (a : Alert) : State :=
  (queueAlert a s).modSeg g fun z => { z with delivery := none }

/-! ### The record and the alert of a divergence -/

/-- R151: a change of a slot's roster asks for its faults page. -/
theorem putRoster_differs {r : FaultRoster} (h : (s.slot i).faults ≠ r) :
    putRoster (rosterOfSlot i) r s = enqueuePage (faultsPage i) (s.setSlot i { s.slot i with faults := r }) := by
  have hix : (⟨(rosterOfSlot i).val - 1, by have := i.isLt; simp [rosterOfSlot]⟩ : SlotIx) = i := by
    simp [rosterOfSlot]
  rw [putRoster, dif_neg (by simp [rosterOfSlot])]
  simp only [hix]
  exact if_neg h

/-- R154: the roster of a slot with the first record of a key. -/
def Slot.withEvent (y : Slot) (k : FaultKey) (now : Stamp) : Slot :=
  { y with faults := y.faults.add (.first k .hub .event now) }

/-- R128: a slot whose delivery has diverged: the draft is Edited, Settings/Not taken entered in its roster. -/
def Slot.notTaken (y : Slot) (now : Stamp) : Slot :=
  ({ y with draft := { y.draft with state := .edited } } : Slot).withEvent keyNotTaken now

/-- R156, R162: the first event of a key, with room for its record and the watch Closed. -/
theorem eventFault_first {k : FaultKey} (hwatch : s.watch.mode = .closed)
    (hroom : (s.slot i).faults.records.length < 12) (hnone : (s.slot i).faults.find k = none) :
    eventFault (rosterOfSlot i) k s
      = enqueuePage (faultsPage i) (s.setSlot i ((s.slot i).withEvent k s.now)) := by
  have henter : (s.slot i).faults.enter k .hub .event s.now
      = ((s.slot i).faults.add (.first k .hub .event s.now), true) := by
    simp only [FaultRoster.enter, hnone, Config.rosterCapacity, if_pos hroom]
  have hlonger : (s.slot i).faults ≠ (s.slot i).faults.add (.first k .hub .event s.now) := fun h => by
    simpa [FaultRoster.add] using congrArg (fun r => r.records.length) h
  simp only [eventFault, enterFault, roster_rosterOfSlot, henter, if_true, offerEntry, putRoster_watch, WatchTable.hit,
    hwatch]
  exact putRoster_differs hlonger

/-- R128: the withdrawn draft of a diverged delivery, with Settings/Not taken entered in its roster. -/
theorem eventFault_notTaken {y : Slot} (hwatch : s.watch.mode = .closed) (hroom : y.faults.records.length < 12)
    (hnone : y.faults.find keyNotTaken = none) :
    eventFault (rosterOfSlot i) keyNotTaken ((s.setSlot i y).withdrawn i)
      = enqueuePage (faultsPage i) ((removeEntry i s).setSlot i
          (y.notTaken s.now)) := by
  have hslot : ((s.setSlot i y).withdrawn i).slot i = { y with draft := { y.draft with state := .edited } } := by
    rw [withdrawn_setSlot]
    exact slot_setSlot_same ..
  rw [eventFault_first (s := (s.setSlot i y).withdrawn i) hwatch (by rwa [hslot]) (by rwa [hslot]), hslot,
    withdrawn_setSlot]
  exact congrArg (enqueuePage (faultsPage i)) (setSlot_setSlot (removeEntry i s) i _ _)

/-- R128: at the third attempt, without a withdrawal mark. -/
theorem mismatch_diverges {y : Slot} (he : (s.setSlot i y).entry i = some e) (hw : e.withdrawal = false)
    (ha : 3 ≤ e.attempts) (hwatch : s.watch.mode = .closed) (hroom : y.faults.records.length < 12)
    (hnone : y.faults.find keyNotTaken = none) :
    mismatch g i (s.setSlot i y)
      = (enqueuePage (faultsPage i) ((removeEntry i s).setSlot i (y.notTaken s.now))).divergenceOver g
          (divergedAlert i s.now) := by
  have hnow : (eventFault (rosterOfSlot i) keyNotTaken ((s.setSlot i y).withdrawn i)).now = s.now := now_eventFault ..
  simp only [mismatch, he, if_neg (Nat.not_lt.mpr ha)]
  rw [diverge_eq, divergence, hw, if_neg Bool.false_ne_true, ← eventFault_notTaken hwatch hroom hnone, ← hnow]
  rfl

/-- R164: an alert joins a queue that has room. -/
theorem queueAlert_room (a : Alert) (h : s.alerts.length < 32) :
    queueAlert a s = { s with alerts := s.alerts ++ [a] } := by
  have hdrop : s.alerts.length + 1 - Config.alertCapacity = 0 := Nat.sub_eq_zero_of_le h
  have hfull : ¬ Config.alertCapacity ≤ s.alerts.length := Nat.not_le.mpr h
  simp [queueAlert, hdrop, hfull]

/-- R8, R128: the segment after a divergence at the end of its exchange. -/
theorem divergenceOver_seg (p : PageIx) (a : Alert) (y : Slot) :
    ((enqueuePage p ((removeEntry i (cleared g s)).setSlot i y)).divergenceOver g a).seg g
      = { s.seg g with exchange := none, driverOn := false, delivery := none } := by
  simp [State.divergenceOver, cleared]

/-- R128: a diverged delivery and its exchange ask for the faults page; the alert and the segment are no part of it. -/
theorem divergenceOver_asking {u : State} (a : Alert) (y : Slot) (z : Segment) (hu : u.store = s.store) :
    Asking s (((enqueuePage (faultsPage i) (u.setSlot i y)).divergenceOver g a).setSeg g z)
      (((u.setSlot i y).divergenceOver g a).setSeg g z) [faultsPage i] := by
  have hasked := (Asking.refl (s := s) (e := u.setSlot i y) hu).askMore (faultsPage i)
  exact hasked.change (f := fun u => (u.divergenceOver g a).setSeg g z) (fun _ _ => by cases g <;> rfl) fun p _ =>
    pageBody_of_slots (by simp [State.divergenceOver]) (by simp [State.divergenceOver])
      (by simp [State.divergenceOver]) p

/-- R128: the slot, its entry, the alert and the segment are all that a divergence and its exchange leave changed. -/
theorem divergenceOver_answered (a : Alert) (y : Slot) (z : Segment) (h : s.alerts.length < 32) :
    (((removeEntry i (cleared g s)).setSlot i y).divergenceOver g a).setSeg g z
      = { (s.setSeg g z).setSlot i y with
          queue := s.queue.filter fun f => f.slot != i, alerts := s.alerts ++ [a] } := by
  rw [State.divergenceOver, queueAlert_room a (by simpa [cleared] using h)]
  cases g <;> rfl

end

/-- Settles O30: the word differs from the draft's; the attempt count decides between the return to the queue and the
divergence. -/
theorem mismatchEndsAttempt : Obligations.MismatchEndsAttempt := by
  unfold Obligations.MismatchEndsAttempt
  intro g s x d e q gs hi lo hq hx hpending hnoisy _ _ hp hr hf ha he hw ht hscore hword y z mark stamp
  set u : State := (cleared g s).setSlot x.slot (y.answeredGood gs) with hu
  set v : State := (cleared g s).setSlot x.slot (y.answeredGood gs).checkRun
  have huslot : u.slot x.slot = y.answeredGood gs := slot_setSlot_same ..
  have hventry : v.entry x.slot = some e := (entry_cleared ..).trans he
  have htakes : askerTakes g x (.good gs [hi, lo]) u = mismatch g x.slot v := by
    rw [askerTakes_deliveryWord gs hf ha (parseCheckWord_two hi lo),
      takeDeliveryWord_differs (by rw [huslot]; exact hword), huslot, hu, setSlot_setSlot]
  refine ⟨fun hattempts => ?_, fun hattempts hwatch halerts hroom hnone => ?_⟩
  · have hretries := htakes.trans (mismatch_retries hventry hw hattempts)
    rw [returned_modEntry, returned_cleared] at hretries
    rw [exec_answer_taken (by simpa [modEntry] using hq) hx ht hscore hp hr (by simp) hretries (by simpa using hpending)
      (by simpa using hnoisy), seg_modEntry, seg_setSlot, seg_setSeg_same]
    cases g <;> rfl
  · have hdiverges := htakes.trans (mismatch_diverges hventry hw hattempts
      (by simpa [cleared] using hwatch) hroom hnone)
    have heffect := effect_answer_taken hx ht hscore hp hr (by simp) hdiverges
      (by rw [divergenceOver_seg]; exact hpending) (by rw [divergenceOver_seg]; exact hnoisy)
    have hnext := nextChoosing_of heffect (divergenceOver_asking _ _ _ (by simp [cleared])) hq
      (by simp [Config.writeCapacity]) fun _ => Iff.rfl
    have hnow : (cleared g s).now = stamp := now_modSeg ..
    rw [divergenceOver_seg, divergenceOver_answered _ _ _ halerts, hnow] at hnext
    exact hnext

end Sys2Proof.Machine

namespace Sys2Proof.Machine

/-! ## Set Regulation (R138 to R141) -/

/-! ### A number with no least value, and a written limit (R138) -/

theorem writeClamped_zero_fst (hi old : Nat) {n : Nat} (v : Option (BitVec n)) :
    (writeClamped 0 hi old (v.map BitVec.toNat)).1 = (v.map fun x => min x.toNat hi).getD old := by
  simp only [writeClamped_fst, Nat.zero_max]

theorem writeClamped_zero_snd (hi old : Nat) {n : Nat} (v : Option (BitVec n)) :
    (writeClamped 0 hi old (v.map BitVec.toNat)).2 = true ↔ ∃ x, v = some x ∧ hi < x.toNat := by
  simp only [writeClamped_snd (Nat.zero_le hi), Nat.not_lt_zero, false_or]

section
variable {lo : Nat} {old l : Limit} {a : Option LimitArg} {v : Half}

theorem writeLimit_value : (writeLimit lo old (some (.value v))).1 = .value (max lo v.toNat) := by
  have hv := v.isLt
  simp only [writeLimit, clamp, Limit.value.injEq]
  omega

theorem writeLimit_clamped : (writeLimit lo old a).2 = true ↔ ∃ v, a = some (.value v) ∧ v.toNat < lo := by
  rcases a with _ | _ | v
  · simp [writeLimit]
  · simp [writeLimit]
  · have hv := v.isLt
    simp only [writeLimit, clamp, bne_iff_ne, Option.some.injEq, LimitArg.value.injEq, exists_eq_left']
    omega

/-- R138: an Lmin of 0 is the only one that is clamped. -/
theorem writeLimit_one_clamped : (writeLimit 1 old a).2 = true ↔ a = some (.value 0) := by
  rw [writeLimit_clamped]
  constructor
  · rintro ⟨v, rfl, hv⟩
    rw [show v = 0 from BitVec.eq_of_toNat_eq (Nat.lt_one_iff.mp hv)]
  · exact fun h => ⟨0, h, Nat.one_pos⟩

/-- R138: without a numeric Lmin in the request Lmax is left as it is. -/
theorem raisedBy_unwritten (h : ∀ v, a ≠ some (.value v)) : l.raisedBy a lo = l := by
  rcases l with _ | n
  · rfl
  rcases a with _ | _ | v
  · rfl
  · rfl
  · exact absurd rfl (h v)

theorem Limit.least_le_floor (l : Limit) : l.least ≤ l.floor := by
  cases l with
  | follow => exact Nat.zero_le 1
  | value => exact Nat.le_refl _

theorem Limit.inRange.floor_le (h : l.inRange lo) : l.floor ≤ 65535 := by
  cases l with
  | follow => exact (by decide : 1 ≤ 65535)
  | value => exact h.2

/-- R138: a written limit is in every range that its number may reach and the old limit was in. -/
theorem writeLimit_inRange {least : Nat} (hold : old.inRange least) (hleast : least ≤ lo) (hlo : lo ≤ 65535) :
    (writeLimit lo old a).1.inRange least := by
  rcases a with _ | _ | v
  · exact hold
  · trivial
  · rw [writeLimit_value]
    have hv := v.isLt
    exact ⟨hleast.trans (Nat.le_max_left ..), by omega⟩

/-- R138: an Lmax left in place is in its range under the Lmin that the request leaves. -/
theorem raisedBy_inRange {lmin : Limit} (hlmin : lmin.inRange 0) (h : l.inRange lmin.least) :
    (l.raisedBy a (writeLimit 1 lmin a).1.floor).inRange (writeLimit 1 lmin a).1.least := by
  rcases l with _ | n
  · trivial
  rcases a with _ | _ | v
  · exact h
  · exact ⟨Nat.zero_le n, h.2⟩
  · have hfloor := (writeLimit_inRange (a := some (.value v)) hlmin (Nat.zero_le 1) (by decide)).floor_le
    exact ⟨(Limit.least_le_floor _).trans (Nat.le_max_left ..), Nat.max_le.mpr ⟨hfloor, h.2⟩⟩

end

/-! ### The written parameters (R138, R139) -/

section
variable {r : RegParams} {a : RegulationArg} {v : Half}

theorem write_lmin (r : RegParams) (a : RegulationArg) : (r.write a).1.lmin = (writeLimit 1 r.lmin a.lmin).1 := rfl

theorem write_lmax (r : RegParams) (a : RegulationArg) : (r.write a).1.lmax
    = (writeLimit (r.write a).1.lmin.floor (r.lmax.raisedBy a.lmin (r.write a).1.lmin.floor) a.lmax).1 := rfl

theorem write_lmin_value (h : a.lmin = some (.value v)) : (r.write a).1.lmin = .value (max 1 v.toNat) := by
  rw [write_lmin, h, writeLimit_value]

theorem write_lmax_kept (h : a.lmax = none) :
    (r.write a).1.lmax = r.lmax.raisedBy a.lmin (r.write a).1.lmin.floor := by
  rw [write_lmax, h]
  rfl

/-- R138: a numeric Lmin raises a numeric Lmax that the request leaves in place. -/
theorem write_lmax_raised {n : Nat} (hlmax : a.lmax = none) (hlmin : a.lmin = some (.value v))
    (hr : r.lmax = .value n) : (r.write a).1.lmax = .value (max (max 1 v.toNat) n) := by
  rw [write_lmax_kept hlmax, write_lmin_value hlmin, hlmin, hr]
  rfl

theorem write_lmax_value (h : a.lmax = some (.value v)) :
    (r.write a).1.lmax = .value (max (r.write a).1.lmin.floor v.toNat) := by
  rw [write_lmax, h, writeLimit_value]

/-- R138: the parameters that Set Regulation writes are in their ranges. -/
theorem regWrite_inRange (h : r.inRange) (a : RegulationArg) : (r.write a).1.inRange := by
  obtain ⟨htarget, hdeadband, hwindow, hstep, hlmin, hlmax, hpriority⟩ := h
  have hwritten : (r.write a).1.lmin.inRange 0 := writeLimit_inRange hlmin (Nat.zero_le 1) (by decide)
  exact ⟨clamp_inRange htarget _, (clamp_inRange ⟨Nat.zero_le _, hdeadband⟩ _).2, clamp_inRange hwindow _,
    clamp_inRange hstep _, hwritten,
    writeLimit_inRange (raisedBy_inRange hlmin hlmax) (Limit.least_le_floor _) hwritten.floor_le,
    (clamp_inRange ⟨Nat.zero_le _, hpriority⟩ _).2⟩

end

/-- R139: the effective limits lie in order within the regulated item's range. -/
theorem effectiveLimits_ordered {x : Slot} {lo hi : Nat} (hrange : x.regulatedRange = some (lo, hi)) (h : lo ≤ hi) :
    lo ≤ x.effectiveLimits.1 ∧ x.effectiveLimits.1 ≤ x.effectiveLimits.2 ∧ x.effectiveLimits.2 ≤ hi := by
  have hmin : lo ≤ x.effectiveLimits.1 ∧ x.effectiveLimits.1 ≤ hi := by
    simp only [Slot.effectiveLimits, hrange]
    cases x.reg.lmin with
    | follow => exact ⟨Nat.le_refl lo, h⟩
    | value v => exact clamp_bounds h v
  have hmax : x.effectiveLimits.1 ≤ x.effectiveLimits.2 ∧ x.effectiveLimits.2 ≤ hi := by
    simp only [Slot.effectiveLimits, hrange] at hmin ⊢
    cases x.reg.lmax with
    | follow => exact ⟨hmin.2, Nat.le_refl hi⟩
    | value v => exact clamp_bounds hmin.2 v
  exact ⟨hmin.1, hmax⟩

/-! ### The roster page (R167) -/

theorem pageKind_rosterPage (i : SlotIx) : pageKind (rosterPage i) = .roster ⟨i.val / 4, by omega⟩ := by
  revert i
  decide

/-- R167: a roster page depends on the roster fields of its slots alone. -/
theorem pageBody_rosterPage_congr {c : State} {i : SlotIx} {x y : Slot} (h : rosterBytes y = rosterBytes x) :
    pageBody (c.setSlot i y) (rosterPage i) = pageBody (c.setSlot i x) (rosterPage i) := by
  have hslots (j : SlotIx) : rosterBytes ((c.setSlot i y).slot j) = rosterBytes ((c.setSlot i x).slot j) := by
    rw [slot_setSlot, slot_setSlot]
    split
    · exact h
    · rfl
  simp only [pageBody, pageKind_rosterPage, rosterBody, hslots]

/-! ### The pending outcome (R139, R141) -/

/-- R139, R141: the slot may no longer hold its pending outcome. -/
def Slot.outcomeGone (x : Slot) : Bool :=
  match x.outcome with
  | none => false
  | some v => x.inert || decide (v < x.effectiveLimits.1) || decide (x.effectiveLimits.2 < v)

/-- R139, R141: a slot whose pending outcome is settled. -/
def Slot.outcomeSettled (x : Slot) : Slot := { x with outcome := if x.outcomeGone then none else x.outcome }

section
variable {s t c : State} {i : SlotIx} {x : Slot}

theorem settleOutcome_eq (i : SlotIx) (t : State) :
    settleOutcome i t = if (t.slot i).outcomeGone then dropOutcome i t else t := by
  cases ho : (t.slot i).outcome with
  | none => simp [settleOutcome, Slot.outcomeGone, ho]
  | some v => simp [settleOutcome, Slot.outcomeGone, ho, outsideRange, Bool.or_assoc]

theorem dropOutcome_some (h : (t.slot i).outcome ≠ none) : dropOutcome i t
    = enqueuePage (settingsPage i) (t.modSlot i fun x => { x with outcome := none }) := by
  rw [dropOutcome, if_neg (by simpa using h)]

theorem outcome_of_gone (h : x.outcomeGone = true) : x.outcome ≠ none := fun ho => by
  simp [Slot.outcomeGone, ho] at h

/-- R147: after the roster page a pending outcome that goes asks for the settings page. -/
theorem settleOutcome_asking (h : Asking s t (c.setSlot i x) [rosterPage i]) :
    Asking s (settleOutcome i t) (c.setSlot i x.outcomeSettled)
      ((if x.outcomeGone then [settingsPage i] else []) ++ [rosterPage i]) := by
  rw [settleOutcome_eq, h.slot_eq, Slot.outcomeSettled]
  by_cases hgone : x.outcomeGone = true
  · have hpending : (t.slot i).outcome ≠ none := by
      rw [h.slot_eq]
      exact outcome_of_gone hgone
    rw [if_pos hgone, if_pos hgone, if_pos hgone, dropOutcome_some hpending]
    refine h.askSlot (settingsPage i) (fun x => { x with outcome := none }) fun q hq _ => ?_
    obtain rfl := List.mem_singleton.mp hq
    exact pageBody_rosterPage_congr rfl
  · rw [if_neg hgone, if_neg hgone, if_neg hgone]
    exact h

end

/-! ### The request (R140) -/

/-- R138: a slot with regulation parameters written. -/
def Slot.withReg (x : Slot) (w : RegParams) : Slot := { x with reg := w }

section
variable {p : PortId} {slot : Byte} {i : SlotIx} {a : RegulationArg} {s : State}

/-- R140: the block of Set Regulation for a listed slot, but for its answer. -/
def setReg (i : SlotIx) (w : RegParams) (s : State) : State :=
  settleOutcome i (enqueuePage (rosterPage i) (s.modSlot i fun x => x.withReg w))

theorem serveSetRegulation_writes (hslot : slotOf slot = some i) (hl : (s.slot i).table ≠ .unlisted) :
    serveSetRegulation p slot a s
      = answer p .done (regulationAnswer ((setReg i ((s.slot i).reg.write a).1 s).slot i) ((s.slot i).reg.write a).2)
          (setReg i ((s.slot i).reg.write a).1 s) := by
  simp only [serveSetRegulation, hslot, (listed_iff _).mpr hl, Bool.not_true, Bool.false_eq_true, if_false]
  rfl

/-- R140: the slot is written and its outcome settled; the roster page, and with an outcome that goes the settings page,
are asked for. -/
theorem setReg_asking {t : State} (hstore : s.store = t.store) (w : RegParams) :
    Asking t (setReg i w s) (s.setSlot i ((s.slot i).withReg w).outcomeSettled)
      ((if ((s.slot i).withReg w).outcomeGone then [settingsPage i] else []) ++ [rosterPage i]) :=
  settleOutcome_asking ((Asking.refl (e := s.setSlot i ((s.slot i).withReg w)) hstore).askMore (rosterPage i))

/-- R140: Set Regulation of a listed slot: the slot written, the pages asked for, and the answer. -/
theorem nextAsking_setRegulation (htakes : s.takes p = true) (hq : s.store.quiet = true)
    (hslot : slot.toNat = i.val + 1) (hl : (s.slot i).table ≠ .unlisted) :
    let y := (s.slot i).withReg ((s.slot i).reg.write a).1
    nextAsking (.setRegulation p slot a) s
      (answered p 7 .done (regulationAnswer y.outcomeSettled ((s.slot i).reg.write a).2) (s.setSlot i y.outcomeSettled))
      (rosterPage i :: if y.outcomeGone then [settingsPage i] else []) := by
  intro y
  have hheld : (holdRequest p 7 s).slot i = s.slot i := slot_holdRequest p 7 s i
  have hasks := setReg_asking (i := i) (s := holdRequest p 7 s) (t := s) (modPort_store ..) ((s.slot i).reg.write a).1
  have hserve := serveSetRegulation_writes (p := p) (a := a) (s := holdRequest p 7 s) (slotOf_number hslot)
    (by rwa [hheld])
  rw [hheld] at hserve hasks
  rw [hasks.slot_eq] at hserve
  have hwritten : (holdRequest p 7 s).setSlot i y.outcomeSettled = holdRequest p 7 (s.setSlot i y.outcomeSettled) :=
    setSlot_modPort ..
  rw [hwritten] at hasks
  refine nextAsking_answered (r := .setRegulation slot a) htakes rfl hserve hasks hq ?_ fun q => ?_
  · split <;> simp [Config.writeCapacity]
  · rw [List.mem_append, List.mem_cons, List.mem_singleton, or_comm]

end

/-- Settles O34: the slot written, settled and answered; then each parameter, each mark, the ranges and the limits. -/
theorem setRegulation : Obligations.SetRegulation := by
  unfold Obligations.SetRegulation
  intro p slot i a s htakes hq hslot hl r
  refine ⟨(r.write a).1, (r.write a).2, nextAsking_setRegulation htakes hq hslot hl, rfl, writeClamped_fst ..,
    writeClamped_zero_fst .., writeClamped_fst .., writeClamped_fst .., writeClamped_zero_fst .., ?lminKept,
    ?lminFollows, fun v => write_lmin_value, ?lmaxKept, ?lmaxFollowing, fun v n => write_lmax_raised, ?lmaxFollows,
    fun v => write_lmax_value, ?floorFollow, ?floorValue, rfl, writeClamped_snd (by decide) ..,
    writeClamped_zero_snd .., writeClamped_snd (by decide) .., writeClamped_snd (by decide) ..,
    writeLimit_one_clamped, writeLimit_clamped, writeClamped_zero_snd .., fun h => regWrite_inRange h a,
    fun lo hi => effectiveLimits_ordered (x := (s.slot i).withReg (r.write a).1)⟩
  case lminKept => exact fun h => by rw [write_lmin, h]; rfl
  case lminFollows => exact fun h => by rw [write_lmin, h]; rfl
  case lmaxKept => exact fun h hlmin => by rw [write_lmax_kept h, raisedBy_unwritten hlmin]
  case lmaxFollowing => exact fun h hfollow => by rw [write_lmax_kept h, hfollow]; rfl
  case lmaxFollows => exact fun h => by rw [write_lmax, h]; rfl
  case floorFollow => exact fun h => by rw [h]; rfl
  case floorValue => exact fun m h => by rw [h]; rfl

end Sys2Proof.Machine

namespace Sys2Proof.Machine

/-! ## Take Alerts and the attention lines (R165, R166) -/

section
variable {p : PortId} {count : Byte} {s : State}

/-- R165: a count of 1 to 8 takes the oldest alerts. -/
theorem exec_takeAlerts (htakes : s.takes p = true) (hq : s.store.quiet = true)
    (hcount : 1 ≤ count.toNat ∧ count.toNat ≤ 8) :
    exec (.takeAlerts p count) s
      = .next (answered p 22 .done (alertsAnswer (s.alerts.take count.toNat) s.overrun)
          { s with alerts := s.alerts.drop count.toNat, overrun := false }) :=
  exec_answered (r := .takeAlerts count) (w := { s with alerts := s.alerts.drop count.toNat, overrun := false })
    htakes hq rfl ((if_pos hcount).trans (by cases p <;> rfl))

/-- R165: any other count. -/
theorem exec_takeAlerts_badCount (htakes : s.takes p = true) (hq : s.store.quiet = true)
    (hcount : count.toNat = 0 ∨ 8 < count.toNat) :
    exec (.takeAlerts p count) s = .next (answered p 22 .badRequest [] s) :=
  exec_refused (r := .takeAlerts count) htakes hq (if_neg (by omega))

/-- R185: whatever its request was, the Collector unplugged has no answer in transmission, and the alerts stay. -/
theorem unplugCollector_loses (s : State) (hplug : s.collector.plugged = true) :
    ∃ u, exec .collectorUnplugged s = .next u ∧ u.alerts = s.alerts ∧ u.collector.transmitting = none := by
  refine ⟨_, exec_eq .collectorUnplugged s, ?_, ?_⟩
  · rw [pumpStore_alerts]
    simp [effect, unplugCollector, hplug]
  · rw [pumpStore_collector]
    simp [effect, unplugCollector, hplug, Port.unplug]

theorem plugged_answered (p q : PortId) (kind : Byte) (status : Status) (body : List Byte) (s : State) :
    ((answered p kind status body s).port q).plugged = (s.port q).plugged := by
  by_cases h : q = p
  · subst h
    rw [answered, port_modPort_same, Port.hand]
    split <;> rfl
  · rw [answered, port_modPort_other s _ h]

theorem plugged_of_takes (h : s.takes p = true) : (s.port p).plugged = true := (Bool.and_eq_true_iff.mp h).1

/-- R166: the condition of both attention lines. -/
theorem attention_iff (s : State) :
    s.attention = true ↔ s.alerts ≠ [] ∨ s.store.state = .degraded ∨ s.store.state = .stopped := by
  simp [State.attention, or_assoc]

theorem attention_setPort (s : State) (p : PortId) (x : Port) : (s.setPort p x).attention = s.attention := by
  cases p <;> rfl

theorem attention_answered (p : PortId) (kind : Byte) (status : Status) (body : List Byte) (s : State) :
    (answered p kind status body s).attention = s.attention := attention_setPort ..

/-- R163, R166: the Power restored alert asserts the lines. -/
theorem attention_powerOn {node : BitVec 6} {speed : BitVec 2} {t : State}
    (h : exec (.powerOn node speed) s = .next t) : t.attention = true := by
  rw [exec_eq] at h
  obtain rfl := Host.Outcome.next.inj h
  refine (attention_iff _).mpr (.inl ?_)
  rw [pumpStore_alerts]
  exact List.cons_ne_nil _ _

end

/-- Settles O45: the request's two cases; the Collector's port lets its answer go with everything else. -/
theorem takeAlerts : Obligations.TakeAlerts := by
  unfold Obligations.TakeAlerts
  intro p count s htakes hq
  refine ⟨fun hcount => ?_, exec_takeAlerts_badCount htakes hq, ?_⟩
  · rw [exec_takeAlerts htakes hq hcount, alertsAnswer, listField, List.length_take]
    rfl
  · rintro t rfl hexec
    refine unplugCollector_loses t ?_
    suffices h : (t.port .collector).plugged = (s.port .collector).plugged from h.trans (plugged_of_takes htakes)
    by_cases hcount : 1 ≤ count.toNat ∧ count.toNat ≤ 8
    · rw [exec_takeAlerts htakes hq hcount] at hexec
      obtain rfl := Host.Outcome.next.inj hexec
      exact plugged_answered ..
    · rw [exec_takeAlerts_badCount htakes hq (by omega)] at hexec
      obtain rfl := Host.Outcome.next.inj hexec
      exact plugged_answered ..

/-- Settles O46, by the condition of the lines: power-on queues an alert, and Take Alerts leaves the store alone. -/
theorem attentionLines : Obligations.AttentionLines := by
  unfold Obligations.AttentionLines
  refine ⟨fun s => ⟨attention_iff s, ?_, attention_setPort s .collector⟩, fun node speed s t => attention_powerOn, ?_⟩
  · rw [← Bool.not_eq_true, attention_iff]
    cases s.store.state <;> simp
  · intro p count s t htakes hq hcount hall hexec
    rw [exec_takeAlerts htakes hq hcount] at hexec
    obtain rfl := Host.Outcome.next.inj hexec
    rw [attention_answered, attention_iff]
    simp [List.drop_eq_nil_of_le hall]

end Sys2Proof.Machine

namespace Sys2Proof.Machine

/-! ## Acknowledge Faults (R159) -/

/-- R159: the answer of an acknowledgement: the Gone records removed and the Open records marked. -/
def FaultRoster.ackBody (r : FaultRoster) (key : Option FaultKey) : List Byte :=
  be1 (r.records.countP fun x => ackMatches key x && x.state == .gone)
    ++ be1 (r.records.countP fun x => ackMatches key x && x.state == .opened)

/-- R159: the records that stay, a match setting the acknowledged mark. -/
theorem acknowledge_records (r : FaultRoster) (key : Option FaultKey) :
    (r.acknowledge key).records
      = (r.records.filter fun x => !(ackMatches key x && x.state == .gone)).map fun x =>
          { x with acked := x.acked || ackMatches key x } := by
  refine List.map_congr_left fun x _ => ?_
  cases ackMatches key x <;> simp

section
variable {p : PortId} {b : Byte} {i : SlotIx} {s : State} {key : Option FaultKey}

theorem rosterOf_none (h : 16 < b.toNat) : rosterOf b = none := dif_neg (by omega)

/-- R151: a slot's roster replaced by itself. -/
theorem putRoster_same {r : FaultRoster} (h : (s.slot i).faults = r) : putRoster (rosterOfSlot i) r s = s := by
  rw [putRoster, dif_neg (by simp [rosterOfSlot])]
  exact if_pos (by simpa [rosterOfSlot] using h)

/-- R159: an acknowledgement of a listed slot's roster. -/
theorem serveAcknowledgeFaults_listed (hb : b.toNat = i.val + 1) (hl : (s.slot i).table ≠ .unlisted) :
    serveAcknowledgeFaults p b key s = answer p .done ((s.slot i).faults.ackBody key)
      (putRoster (rosterOfSlot i) ((s.slot i).faults.acknowledge key) s) := by
  have hlisted : (s.slot i).listed = true := by simpa [Slot.listed] using hl
  simp only [serveAcknowledgeFaults, rosterOf_number hb, rosterReadable_slot, hlisted, if_true, roster_rosterOfSlot]
  rfl

/-- R159: an acknowledgement of the hub's roster. -/
theorem exec_acknowledgeFaults_hub (htakes : s.takes p = true) (hq : s.store.quiet = true) :
    exec (.acknowledgeFaults p 0 key) s = .next (answered p 20 .done (s.hubFaults.ackBody key)
      { s with hubFaults := s.hubFaults.acknowledge key }) :=
  exec_answered (r := .acknowledgeFaults 0 key) (w := { s with hubFaults := s.hubFaults.acknowledge key }) htakes hq rfl
    (by cases p <;> rfl)

/-- R151, R159: an acknowledgement that leaves a slot's roster as it stands asks for no page. -/
theorem exec_acknowledgeFaults_same (htakes : s.takes p = true) (hq : s.store.quiet = true) (hb : b.toNat = i.val + 1)
    (hl : (s.slot i).table ≠ .unlisted) (hsame : (s.slot i).faults.acknowledge key = (s.slot i).faults) :
    exec (.acknowledgeFaults p b key) s = .next (answered p 20 .done ((s.slot i).faults.ackBody key) s) := by
  refine exec_answered (r := .acknowledgeFaults b key) htakes hq rfl ?_
  have hslot := slot_holdRequest p 20 s i
  refine (serveAcknowledgeFaults_listed (s := holdRequest p 20 s) hb (by rwa [hslot])).trans ?_
  rw [putRoster_same (by rw [hslot, hsame]), hslot]
  rfl

/-- R151, R159: an acknowledgement that changes a slot's roster asks for its faults page. -/
theorem nextAsking_acknowledgeFaults (htakes : s.takes p = true) (hq : s.store.quiet = true) (hb : b.toNat = i.val + 1)
    (hl : (s.slot i).table ≠ .unlisted) (hchanged : (s.slot i).faults.acknowledge key ≠ (s.slot i).faults) :
    nextAsking (.acknowledgeFaults p b key) s
      (answered p 20 .done ((s.slot i).faults.ackBody key)
        (s.setSlot i { s.slot i with faults := (s.slot i).faults.acknowledge key })) [faultsPage i] := by
  have hslot := slot_holdRequest p 20 s i
  have hserve := serveAcknowledgeFaults_listed (p := p) (s := holdRequest p 20 s) (key := key) hb (by rwa [hslot])
  rw [hslot, putRoster_differs (by rw [hslot]; exact hchanged.symm), hslot] at hserve
  have hheld (y : Slot) : (holdRequest p 20 s).setSlot i y = holdRequest p 20 (s.setSlot i y) := setSlot_modPort ..
  rw [hheld] at hserve
  refine nextAsking_answered (r := .acknowledgeFaults b key) htakes rfl hserve ?_ hq (by simp) fun _ => Iff.rfl
  exact (Asking.refl (modPort_store ..)).askMore (faultsPage i)

end

/-- Settles O43, by the roster named: the hub's, a slot's that changes or stays, or none. -/
theorem acknowledgeFaults : Obligations.AcknowledgeFaults := by
  unfold Obligations.AcknowledgeFaults
  intro p roster key s htakes hq hit gone opened after body
  have hafter (r : FaultRoster) : after r = r.acknowledge key :=
    congrArg (fun l => ({ records := l, recency := (r.acknowledge key).recency, overflowed := false } : FaultRoster))
      (acknowledge_records r key).symm
  have hbody (r : FaultRoster) : body r = r.ackBody key := by
    rw [FaultRoster.ackBody, List.countP_eq_length_filter, List.countP_eq_length_filter]
    rfl
  simp only [hafter, hbody]
  refine ⟨?_, fun i hi hl hne => nextAsking_acknowledgeFaults htakes hq hi hl hne,
    fun i hi hl hsame => exec_acknowledgeFaults_same htakes hq hi hl hsame, fun hbad => ?_⟩
  · rintro rfl
    exact exec_acknowledgeFaults_hub htakes hq
  · refine exec_refused (r := .acknowledgeFaults roster key) htakes hq ?_
    simp only [serve, serveAcknowledgeFaults, rosterOf_none hbad]

end Sys2Proof.Machine

namespace Sys2Proof.Machine

/-! ## Set Watch Rules (R161) -/

theorem ruleNumbersOk_iff (l : List (Byte × Option WatchRule)) :
    ruleNumbersOk l = true ↔ (∀ x ∈ l, 1 ≤ x.1.toNat ∧ x.1.toNat ≤ 8) ∧ (l.map Prod.fst).Nodup := by
  simp [ruleNumbersOk]

/-- R161: a rule whose number is given takes what is given with it. -/
theorem rules_write_given {a : WatchArg} (hnodup : (a.rules.map Prod.fst).Nodup) (w : WatchTable) {k : Fin 8}
    {x : Byte × Option WatchRule} (hx : x ∈ a.rules) (hk : x.1.toNat = k.val + 1) :
    (w.write a).rules[k.val] = x.2 := by
  have hfind : a.rules.find? (fun y => y.1.toNat == k.val + 1) = some x := by
    cases hf : a.rules.find? (fun y => y.1.toNat == k.val + 1) with
    | none => exact absurd hk (by simpa using List.find?_eq_none.mp hf x hx)
    | some y =>
      have hy : y.1.toNat = k.val + 1 := by simpa using List.find?_some hf
      rw [List.inj_on_of_nodup_map hnodup (List.mem_of_find?_eq_some hf) hx (BitVec.eq_of_toNat_eq (hy.trans hk.symm))]
  simp [WatchTable.write, hfind]

/-- R161: a rule whose number is not given stays. -/
theorem rules_write_other {a : WatchArg} (w : WatchTable) {k : Fin 8} (h : ∀ x ∈ a.rules, x.1.toNat ≠ k.val + 1) :
    (w.write a).rules[k.val] = w.rules[k.val] := by
  have hfind : a.rules.find? (fun y => y.1.toNat == k.val + 1) = none := by simpa using h
  simp [WatchTable.write, hfind]

section
variable {p : PortId} {a : WatchArg} {s : State}

/-- R161: rule numbers in form: the table is written and page 0 asked for. -/
theorem nextAsking_setWatchRules (htakes : s.takes p = true) (hq : s.store.quiet = true)
    (hok : ruleNumbersOk a.rules = true) :
    nextAsking (.setWatchRules p a) s
      (answered p 21 .done (watchAnswer (s.watch.write a)) { s with watch := s.watch.write a }) [0] := by
  have hwatch : (holdRequest p 21 s).watch = s.watch := modPort_watch ..
  have hheld : { holdRequest p 21 s with watch := s.watch.write a }
      = holdRequest p 21 { s with watch := s.watch.write a } := by cases p <;> rfl
  have hserve : serve p (.setWatchRules a) (holdRequest p 21 s) = answer p .done (watchAnswer (s.watch.write a))
      (enqueuePage 0 (holdRequest p 21 { s with watch := s.watch.write a })) := by
    rw [serve, serveSetWatchRules, if_pos hok, hwatch, hheld]
    dsimp only
    rw [enqueuePage_watch, ← hheld]
  exact nextAsking_answered (r := .setWatchRules a) htakes rfl hserve ((Asking.refl (modPort_store ..)).askMore 0) hq
    (by simp) fun _ => Iff.rfl

end

/-! ## The matcher (R160, R162) -/

/-- R160: masked bits agree where the mask is set. -/
theorem and_beq_and_iff {n : Nat} (x v m : BitVec n) :
    ((x &&& m) == (v &&& m)) = true ↔ ∀ b, b < n → m.getLsbD b = true → v.getLsbD b = x.getLsbD b := by
  rw [beq_iff_eq]
  constructor
  · intro h b _ hm
    have hbit := congrArg (fun y => y.getLsbD b) h
    simpa [hm] using hbit.symm
  · intro h
    refine BitVec.eq_of_getLsbD_eq fun b hb => ?_
    cases hm : m.getLsbD b with
    | false => simp [hm]
    | true => simp [hm, h b hb hm]

/-- R160: a rule in use matches an entry. -/
def RuleFits (r : WatchRule) (n : Nat) (k : FaultKey) : Prop :=
  (∀ b, b < 5 → r.slotMask.getLsbD b = true → r.slotValue.getLsbD b = Nat.testBit n b)
    ∧ (∀ v, r.cls = some v → v = k.cls)
    ∧ (∀ b, b < 8 → r.codeMask.getLsbD b = true → r.codeValue.getLsbD b = k.code.getLsbD b)
    ∧ ∀ v, r.subject = some v → k.subject = some v

theorem ruleAccepts_iff (r : WatchRule) (n : Nat) (k : FaultKey) : ruleAccepts r n k = true ↔ RuleFits r n k := by
  have hslot : (∀ b, b < 5 → r.slotMask.getLsbD b = true → r.slotValue.getLsbD b = (BitVec.ofNat 5 n).getLsbD b)
      ↔ ∀ b, b < 5 → r.slotMask.getLsbD b = true → r.slotValue.getLsbD b = Nat.testBit n b := by
    refine forall₂_congr fun b hb => ?_
    rw [BitVec.getLsbD_ofNat, decide_eq_true hb, Bool.true_and]
  rw [ruleAccepts, Bool.and_eq_true, Bool.and_eq_true, Bool.and_eq_true, and_beq_and_iff, and_beq_and_iff, hslot,
    RuleFits, and_assoc, and_assoc]
  refine and_congr_right fun _ => and_congr ?_ (and_congr_right fun _ => ?_)
  · cases r.cls <;> simp
  · cases r.subject <;> simp

/-- R160: the rule with an index is in use and matches an entry. -/
def WatchTable.Fits (w : WatchTable) (n : Nat) (k : FaultKey) (j : Fin 8) : Prop :=
  ∃ r, w.rules[j.val] = some r ∧ RuleFits r n k

/-- R162: the hit is the number of the first rule in use that accepts the entry. -/
theorem firstHit_eq (w : WatchTable) (n : Nat) (k : FaultKey) :
    w.firstHit n k = (w.rules.toList.findIdx? fun r => r.any (ruleAccepts · n k)).map (· + 1) := by
  unfold WatchTable.firstHit
  congr
  funext r
  cases r <;> rfl

section
variable {w : WatchTable} {n : Nat} {k : FaultKey}

theorem any_ruleAccepts_iff (j : Fin 8) : w.rules[j.val].any (ruleAccepts · n k) = true ↔ w.Fits n k j := by
  simp [Option.any_eq_true, ruleAccepts_iff, WatchTable.Fits]

theorem firstHit_some {j : Fin 8} (hj : w.Fits n k j) (hfirst : ∀ h, h < j → ¬ w.Fits n k h) :
    w.firstHit n k = some (j.val + 1) := by
  have hfind := (List.findIdx?_eq_some_iff_getElem (xs := w.rules.toList) (i := j.val)
    (p := fun r => r.any (ruleAccepts · n k))).mpr ⟨by simp, ?_, fun h hlt => ?_⟩
  · rw [firstHit_eq, hfind, Option.map_some]
  · rw [Vector.getElem_toList]
    exact (any_ruleAccepts_iff j).mpr hj
  · rw [Vector.getElem_toList]
    exact fun hacc => hfirst ⟨h, by omega⟩ hlt ((any_ruleAccepts_iff ⟨h, by omega⟩).mp hacc)

theorem firstHit_none (h : ∀ j, ¬ w.Fits n k j) : w.firstHit n k = none := by
  rw [firstHit_eq, Option.map_eq_none_iff, List.findIdx?_eq_none_iff]
  intro x hx
  obtain ⟨j, hj, rfl⟩ := List.mem_iff_getElem.mp hx
  rw [Vector.getElem_toList]
  exact Bool.eq_false_iff.mpr fun hacc =>
    h ⟨j, by simpa using hj⟩ ((any_ruleAccepts_iff ⟨j, by simpa using hj⟩).mp hacc)

end

/-! ## An entry that is offered to the matcher (R162, R164) -/

/-- R157: an entry is recorded where its key has a record, where there is room, or in place of a Gone record. -/
theorem enter_recorded_iff (r : FaultRoster) (k : FaultKey) (o : Origin) (c : EntryKind) (now : Stamp) :
    (r.enter k o c now).2 = true ↔ r.find k ≠ none ∨ r.records.length < 12
      ∨ ∃ g ∈ r.recency, ∃ y, r.find g = some y ∧ y.state = .gone := by
  have hgone : r.oldestGone.isSome = true ↔ ∃ g ∈ r.recency, ∃ y, r.find g = some y ∧ y.state = .gone := by
    rw [FaultRoster.oldestGone, List.find?_isSome]
    refine exists_congr fun g => and_congr_right fun _ => ?_
    cases r.find g <;> simp
  rw [← hgone, FaultRoster.enter]
  cases hfind : r.find k with
  | some x => simp
  | none =>
    by_cases hroom : r.records.length < Config.rosterCapacity
    · simp [hroom]
    · cases hold : r.oldestGone <;> simp [hroom]

/-- R162: the Fault alert of an entry. -/
def faultAlert (n : Nat) (k : FaultKey) (hit : Nat) (now : Stamp) : Alert :=
  { kind := .fault, slot := n, cls := some k.cls, code := k.code, subject := k.subject, hit := hit, stamp := now }

section
variable {n : Fin 17} {k : FaultKey} {o : Origin} {c : EntryKind} {s : State}

/-- R162: an entry that is recorded and hit queues its alert. -/
theorem enterFault_hit {hit : Nat} (hrec : ((s.roster n).enter k o c s.now).2 = true)
    (hhit : s.watch.hit n.val k = some hit) : enterFault n k o c s
      = queueAlert (faultAlert n.val k hit s.now) (putRoster n ((s.roster n).enter k o c s.now).1 s) := by
  have hnow : (putRoster n ((s.roster n).enter k o c s.now).1 s).now = s.now := now_of_env (by simp [State.env])
  rw [enterFault]
  dsimp only
  rw [if_pos hrec, offerEntry, putRoster_watch, hhit]
  dsimp only
  rw [hnow]
  rfl

/-- R162: an entry that is not recorded, or not hit, only goes to its roster. -/
theorem enterFault_silent (h : ((s.roster n).enter k o c s.now).2 = false ∨ s.watch.hit n.val k = none) :
    enterFault n k o c s = putRoster n ((s.roster n).enter k o c s.now).1 s := by
  rw [enterFault]
  dsimp only
  rcases h with h | h
  · rw [h, if_neg Bool.false_ne_true]
  · split
    · rw [offerEntry, putRoster_watch, h]
    · rfl

end

/-- R164: an alert in a full queue pushes the oldest out, and Overrun is set. -/
theorem queueAlert_full {s : State} (a : Alert) (h : s.alerts.length = 32) :
    queueAlert a s = { s with alerts := s.alerts.drop 1 ++ [a], overrun := true } := by
  have hdrop : (s.alerts ++ [a]).drop 1 = s.alerts.drop 1 ++ [a] := List.drop_append_of_le_length (by omega)
  simp only [queueAlert, h, Config.alertCapacity, Nat.reduceAdd, Nat.reduceSub, hdrop, le_refl, decide_true,
    Bool.or_true]

theorem queueAlert_getLast? (a : Alert) (s : State) : (queueAlert a s).alerts.getLast? = some a := by
  rw [queueAlert_alerts, List.getLast?_drop, if_neg, List.getLast?_concat]
  simp [Config.alertCapacity]

/-- R164: between two states an alert has been queued. -/
def Queued (a : Alert) (s t : State) : Prop :=
  t.alerts = (queueAlert a s).alerts ∧ t.overrun = (queueAlert a s).overrun

theorem Queued.getLast? {a : Alert} {s t : State} (h : Queued a s t) : t.alerts.getLast? = some a := by
  rw [h.1, queueAlert_getLast?]

/-- R164: with room, and in a full queue. -/
theorem Queued.room_full {a : Alert} {s t : State} (h : Queued a s t) :
    (s.alerts.length < 32 → t.alerts = s.alerts ++ [a] ∧ t.overrun = s.overrun)
      ∧ (s.alerts.length = 32 → t.alerts = s.alerts.drop 1 ++ [a] ∧ t.overrun = true) := by
  obtain ⟨halerts, hoverrun⟩ := h
  rw [halerts, hoverrun]
  refine ⟨fun h => ?_, fun h => ?_⟩
  · rw [queueAlert_room a h]
    exact ⟨rfl, rfl⟩
  · rw [queueAlert_full a h]
    exact ⟨rfl, rfl⟩

/-- R162: an entry that is recorded and hit queues its alert. -/
theorem enterFault_queued {n : Fin 17} {k : FaultKey} {o : Origin} {c : EntryKind} {s : State} {hit : Nat}
    (hrec : ((s.roster n).enter k o c s.now).2 = true) (hhit : s.watch.hit n.val k = some hit) :
    Queued (faultAlert n.val k hit s.now) s (enterFault n k o c s) := by
  simp only [Queued, enterFault_hit hrec hhit, queueAlert, putRoster_alerts, putRoster_overrun, and_self]

/-- R11, R162: a line-fault input asserted on a Faulted segment queues the alert of its entry in roster 0. -/
theorem lineFaultAsserted_queued {g : SegId} {kind : LineFaultKind} {s : State} (hg : (s.seg g).state = .faulted)
    (hl : (s.seg g).inputs.level kind = false) (hmode : s.watch.mode = .openAll)
    (hroom : s.hubFaults.records.length < 12) :
    Queued (faultAlert 0 (keyLine g kind) 0 s.now) s (pumpStore (effect (.lineFaultAsserted g kind) s)) := by
  have heffect : effect (.lineFaultAsserted g kind) s
      = (openCondition 0 (keyLine g kind) s).setSeg g { s.seg g with inputs := (s.seg g).inputs.put kind true } :=
    (lineFaultAsserted_faulted hl hg).trans (openCondition_setSeg ..)
  have hhit : s.watch.hit 0 (keyLine g kind) = some 0 := by rw [WatchTable.hit, hmode]
  rw [Queued, pumpStore_alerts, pumpStore_overrun, heffect, setSeg_alerts, setSeg_overrun]
  exact enterFault_queued (n := 0) ((enter_recorded_iff ..).mpr (.inr (.inl hroom))) hhit

/-- Settles O44: the request writes rule by rule; an entry goes through the matcher to the queue. -/
theorem setWatchRules : Obligations.SetWatchRules := by
  unfold Obligations.SetWatchRules
  refine ⟨?_, ?_, ?_⟩
  · intro p a s htakes hq ok
    refine ⟨fun hok => ?_, fun hok => ?_⟩
    · exact ⟨s.watch.write a, nextAsking_setWatchRules htakes hq ((ruleNumbersOk_iff _).mpr hok), rfl, rfl,
        fun j => ⟨fun x => rules_write_given hok.2 s.watch, rules_write_other s.watch⟩⟩
    · refine exec_refused (r := .setWatchRules a) htakes hq (if_neg ?_)
      rwa [ruleNumbersOk_iff]
  · intro n k o c s fits alert t queues silent recorded
    have hrec : ((s.roster n).enter k o c s.now).2 = true ↔ recorded := enter_recorded_iff ..
    have hqueues (hit : Nat) (hr : recorded) (hhit : s.watch.hit n.val k = some hit) : queues hit :=
      (enterFault_queued (hrec.mpr hr) hhit).room_full
    have hsilent (h : ¬ recorded ∨ s.watch.hit n.val k = none) : silent := by
      have ht := enterFault_silent (h.imp_left fun hr => Bool.eq_false_iff.mpr (mt hrec.mp hr))
      exact ⟨(congrArg State.alerts ht).trans (putRoster_alerts ..),
        (congrArg State.overrun ht).trans (putRoster_overrun ..)⟩
    refine ⟨fun hr => hsilent (.inl hr), fun hmode => hsilent (.inr ?_), fun hr hmode => hqueues 0 hr ?_,
      fun hr hmode j hj hfirst => hqueues _ hr ?_, fun hmode hnone => hsilent (.inr ?_)⟩ <;> rw [WatchTable.hit, hmode]
    · exact firstHit_some hj hfirst
    · exact firstHit_none hnone
  · intro g kind s hq hg hl hmode hroom key
    have hkey : keyLine g kind = key := keyLine_eq g kind
    have hqueued := lineFaultAsserted_queued hg hl hmode hroom
    rw [hkey] at hqueued
    obtain ⟨hwithRoom, hfull⟩ := hqueued.room_full
    refine ⟨_, exec_eq .., hqueued.getLast?, fun h => ?_, fun h => ?_⟩
    · obtain ⟨halerts, hoverrun⟩ := hfull h
      rw [halerts]
      exact ⟨by simp [h], hoverrun, List.take_left' (by simp [h])⟩
    · obtain ⟨halerts, hoverrun⟩ := hwithRoom h
      rw [halerts]
      exact ⟨by simp, hoverrun⟩

end Sys2Proof.Machine

namespace Sys2Proof.Machine

/-! ## Entries of a fault roster (R151, R152, R154 to R157) -/

/-- R152: the keys of the records, in the order of first entry. -/
def FaultRoster.keys (r : FaultRoster) : List FaultKey := r.records.map FaultRecord.key

/-- R154 to R156: a roster after an entry whose key has a record. -/
def FaultRoster.renew (r : FaultRoster) (k : FaultKey) (kind : EntryKind) (now : Stamp) : FaultRoster :=
  { r with records := r.records.map fun x => if x.key == k then x.again kind now else x, recency := r.refresh k }

section
variable {r : FaultRoster} {k g m : FaultKey} {o : Origin} {kind : EntryKind} {now : Stamp} {x : FaultRecord}

theorem find_eq_none_iff : r.find k = none ↔ k ∉ r.keys := by
  simp [FaultRoster.find, FaultRoster.keys]

theorem mem_keys_of_find (h : r.find k = some x) : k ∈ r.keys :=
  List.mem_map.mpr ⟨x, List.mem_of_find?_eq_some h, find_key h⟩

/-- R152: a key of distinct keys names its record. -/
theorem find_of_mem (h : r.keyed) (hx : x ∈ r.records) : r.find x.key = some x := by
  cases hf : r.find x.key with
  | none => exact absurd (List.mem_map_of_mem hx) (find_eq_none_iff.mp hf)
  | some y => rw [List.inj_on_of_nodup_map h.1 (List.mem_of_find?_eq_some hf) hx (find_key hf)]

/-! ### A record joins, goes or is renewed -/

theorem find_add (h : r.find x.key = none) : (r.add x).find m = if m = x.key then some x else r.find m := by
  unfold FaultRoster.find FaultRoster.add
  rw [List.find?_append]
  by_cases hm : m = x.key
  · subst hm
    rw [show r.records.find? (fun y => y.key == x.key) = none from h]
    simp
  · simp [hm, Ne.symm hm]

theorem find_remove : (r.remove g).find m = if m = g then none else r.find m := by
  unfold FaultRoster.find FaultRoster.remove
  by_cases hm : m = g
  · simp [hm]
  · rw [if_neg hm, List.find?_filter]
    congr 1
    funext y
    by_cases hy : y.key = m <;> simp [hy, hm]

theorem find_renew (h : r.find k = some x) :
    (r.renew k kind now).find m = if m = k then some (x.again kind now) else r.find m := by
  have hkey : (fun y : FaultRecord => y.key == m) ∘ (fun y => if y.key == k then y.again kind now else y)
      = fun y => y.key == m := by
    funext y
    by_cases hy : y.key = k <;> simp [hy, FaultRecord.again]
  unfold FaultRoster.find FaultRoster.renew
  rw [List.find?_map, hkey]
  by_cases hm : m = k
  · subst hm
    rw [show r.records.find? (fun y => y.key == m) = some x from h]
    simp [find_key h]
  · rw [if_neg hm]
    cases hf : r.records.find? (fun y => y.key == m) with
    | none => rfl
    | some y => simp [find_key (r := r) hf, hm]

@[simp] theorem keys_add : (r.add x).keys = r.keys ++ [x.key] := by simp [FaultRoster.keys, FaultRoster.add]

@[simp] theorem keys_remove : (r.remove g).keys = r.keys.filter (· != g) := by
  simp [FaultRoster.keys, FaultRoster.remove, List.filter_map]
  rfl

@[simp] theorem keys_renew : (r.renew k kind now).keys = r.keys := by
  simp only [FaultRoster.keys, FaultRoster.renew, List.map_map]
  refine List.map_congr_left fun y _ => ?_
  by_cases hy : y.key = k <;> simp [hy, FaultRecord.again]

theorem keyed_add (h : r.keyed) (hx : r.find x.key = none) : (r.add x).keyed := by
  obtain ⟨hnodup, hperm⟩ := h
  have hkeys : (r.add x).records.map FaultRecord.key = r.keys ++ [x.key] := keys_add
  rw [FaultRoster.keyed, hkeys]
  exact ⟨hnodup.append (List.nodup_singleton _) (List.disjoint_singleton.mpr (find_eq_none_iff.mp hx)),
    hperm.append_right _⟩

theorem keyed_remove (h : r.keyed) : (r.remove g).keyed := by
  obtain ⟨hnodup, hperm⟩ := h
  have hkeys : (r.remove g).records.map FaultRecord.key = r.keys.filter (· != g) := keys_remove
  rw [FaultRoster.keyed, hkeys]
  exact ⟨hnodup.filter _, hperm.filter _⟩

/-- R152: a key moved to the newest end leaves the recency order a list of the same keys. -/
theorem keyed_renew (h : r.keyed) (hx : r.find k = some x) : (r.renew k kind now).keyed := by
  obtain ⟨hnodup, hperm⟩ := h
  have hkeys : (r.renew k kind now).records.map FaultRecord.key = r.keys := keys_renew
  have hmem : k ∈ r.recency := hperm.mem_iff.mpr (mem_keys_of_find hx)
  have hmoved : (r.recency.filter (· != k) ++ [k]).Perm r.recency := by
    rw [← (hperm.nodup_iff.mpr hnodup).erase_eq_filter]
    exact List.perm_append_comm.trans (List.perm_cons_erase hmem).symm
  rw [FaultRoster.keyed, hkeys]
  exact ⟨hnodup, hmoved.trans hperm⟩

/-! ### The Gone record that a new one takes the place of (R157) -/

theorem oldestGone_gone (h : r.oldestGone = some g) : ∃ x, r.find g = some x ∧ x.state = .gone := by
  have hg := List.find?_some h
  cases hf : r.find g with
  | none => simp [hf] at hg
  | some x => exact ⟨x, rfl, by simpa [hf] using hg⟩

theorem oldestGone_of_split {older newer : List FaultKey} (hsplit : r.recency = older ++ g :: newer)
    (hg : ∃ x, r.find g = some x ∧ x.state = .gone)
    (holder : ∀ j ∈ older, ∀ x, r.find j = some x → x.state = .opened) : r.oldestGone = some g := by
  obtain ⟨x, hx, hgone⟩ := hg
  refine List.find?_eq_some_iff_append.mpr ⟨by simp [hx, hgone], older, newer, hsplit, fun j hj => ?_⟩
  cases hf : r.find j with
  | none => rfl
  | some y => simp [holder j hj y hf]

/-- R157: where all are Open, none can go. -/
theorem oldestGone_none_iff (h : r.keyed) : r.oldestGone = none ↔ ∀ x ∈ r.records, x.state = .opened := by
  rw [FaultRoster.oldestGone, List.find?_eq_none]
  constructor
  · intro hnone x hx
    have hmem : x.key ∈ r.recency := h.2.mem_iff.mpr (List.mem_map_of_mem hx)
    have hstate := hnone x.key hmem
    rw [find_of_mem h hx] at hstate
    cases hx : x.state <;> simp_all
  · intro hall j _
    cases hf : r.find j with
    | none => simp
    | some x => simp [hall x (List.mem_of_find?_eq_some hf)]

/-! ### What an entry does (R154 to R157) -/

/-- R154 to R157: an entry renews the record of its key; or a first record joins, with room or in place of the oldest
Gone record; or the roster is Overflowed. -/
theorem enter_cases (r : FaultRoster) (k : FaultKey) (o : Origin) (kind : EntryKind) (now : Stamp)
    (hlen : r.records.length ≤ 12) :
    (∃ x, r.find k = some x ∧ r.enter k o kind now = (r.renew k kind now, true))
      ∨ (r.find k = none ∧ r.records.length < 12 ∧ r.enter k o kind now = (r.add (.first k o kind now), true))
      ∨ (∃ g, r.find k = none ∧ r.records.length = 12 ∧ r.oldestGone = some g
          ∧ r.enter k o kind now = ((r.remove g).add (.first k o kind now), true))
      ∨ (r.find k = none ∧ r.records.length = 12 ∧ r.oldestGone = none
          ∧ r.enter k o kind now = ({ r with overflowed := true }, false)) := by
  unfold FaultRoster.enter
  cases hfind : r.find k with
  | some x => exact .inl ⟨x, rfl, rfl⟩
  | none =>
    by_cases hroom : r.records.length < Config.rosterCapacity
    · exact .inr (.inl ⟨rfl, hroom, if_pos hroom⟩)
    · have hfull : r.records.length = 12 := le_antisymm hlen (not_lt.mp hroom)
      cases hg : r.oldestGone with
      | some g => exact .inr (.inr (.inl ⟨g, rfl, hfull, rfl, if_neg hroom⟩))
      | none => exact .inr (.inr (.inr ⟨rfl, hfull, rfl, if_neg hroom⟩))

/-- R157: the oldest Gone record makes room for a first record of another key. -/
theorem room_of_oldestGone (hg : r.oldestGone = some g) (h : r.find k = none) :
    (r.remove g).records.length < r.records.length ∧ (r.remove g).find k = none ∧ g ≠ k := by
  obtain ⟨x, hx, -⟩ := oldestGone_gone hg
  refine ⟨List.length_filter_lt_length_iff_exists.mpr ⟨x, List.mem_of_find?_eq_some hx, by simp [find_key hx]⟩, ?_, ?_⟩
  · rw [find_remove, h, ite_self]
  · rintro rfl
    rw [h] at hx
    cases hx

/-- R152, R157: an entry keeps a roster within 12 records and its keys distinct. -/
theorem enter_keyed (h : r.keyed) (hlen : r.records.length ≤ 12) :
    (r.enter k o kind now).1.keyed ∧ (r.enter k o kind now).1.records.length ≤ 12 := by
  rcases enter_cases r k o kind now hlen with ⟨x, hx, he⟩ | ⟨hnone, hroom, he⟩ | ⟨g, hnone, hfull, hg, he⟩
    | ⟨-, -, -, he⟩
  · rw [he]
    exact ⟨keyed_renew h hx, by simpa [FaultRoster.renew] using hlen⟩
  · rw [he]
    exact ⟨keyed_add h hnone, by simpa [FaultRoster.add] using hroom⟩
  · obtain ⟨hshorter, hnone, -⟩ := room_of_oldestGone hg hnone
    rw [he]
    refine ⟨keyed_add (keyed_remove h) hnone, ?_⟩
    rw [hfull] at hshorter
    simpa [FaultRoster.add] using hshorter
  · rw [he]
    exact ⟨h, hlen⟩

/-- R154, R156: the record of an entry that was recorded stands newest, without its acknowledged mark. -/
theorem enter_recorded (hlen : r.records.length ≤ 12) (hrec : (r.enter k o kind now).2 = true) :
    (r.enter k o kind now).1.overflowed = r.overflowed ∧ (r.enter k o kind now).1.recency.getLast? = some k
      ∧ (r.enter k o kind now).1.find k
        = some (((r.find k).map fun x => x.again kind now).getD (.first k o kind now)) := by
  rcases enter_cases r k o kind now hlen with ⟨x, hx, he⟩ | ⟨hnone, -, he⟩ | ⟨g, hnone, -, hg, he⟩ | ⟨-, -, -, he⟩
  · rw [he]
    exact ⟨rfl, by simp [FaultRoster.renew, FaultRoster.refresh], by rw [find_renew hx, if_pos rfl, hx]; rfl⟩
  · rw [he]
    exact ⟨rfl, by simp [FaultRoster.add, FaultRecord.first], by rw [find_add hnone, hnone]; exact if_pos rfl⟩
  · rw [he]
    exact ⟨rfl, by simp [FaultRoster.add, FaultRecord.first],
      by rw [find_add (room_of_oldestGone hg hnone).2.1, hnone]; exact if_pos rfl⟩
  · rw [he] at hrec
    cases hrec

/-- R157: an entry that was not recorded. -/
theorem enter_unrecorded_iff (h : r.keyed) (hlen : r.records.length ≤ 12) :
    (r.enter k o kind now).2 = false
      ↔ r.find k = none ∧ r.records.length = 12 ∧ ∀ x ∈ r.records, x.state = .opened := by
  rw [← oldestGone_none_iff h]
  rcases enter_cases r k o kind now hlen with ⟨x, hx, he⟩ | ⟨-, hroom, he⟩ | ⟨g, -, -, hg, he⟩
    | ⟨hnone, hfull, hg, he⟩ <;>
    rw [he]
  · simp [hx]
  · simp [hroom.ne]
  · simp [hg]
  · simp [hnone, hfull, hg]

theorem enter_unrecorded (hlen : r.records.length ≤ 12) (hrec : (r.enter k o kind now).2 = false) :
    (r.enter k o kind now).1 = { r with overflowed := true } := by
  rcases enter_cases r k o kind now hlen with ⟨x, -, he⟩ | ⟨-, -, he⟩ | ⟨g, -, -, -, he⟩ | ⟨-, -, -, he⟩ <;>
    rw [he] at hrec ⊢ <;> cases hrec

theorem enter_first_room (hnone : r.find k = none) (hroom : r.records.length < 12) :
    r.enter k o kind now = (r.add (.first k o kind now), true) := by
  simp [FaultRoster.enter, hnone, hroom]

theorem enter_first_full (hnone : r.find k = none) (hfull : r.records.length = 12) (hg : r.oldestGone = some g) :
    r.enter k o kind now = ((r.remove g).add (.first k o kind now), true) := by
  simp [FaultRoster.enter, hnone, hfull, hg]

theorem keys_enter_held (hx : r.find k = some x) : (r.enter k o kind now).1.keys = r.keys := by
  simp only [FaultRoster.enter, hx]
  exact keys_renew

/-- R157: the Open records of other keys stay as they were. -/
theorem find_enter_opened (hlen : r.records.length ≤ 12) (hj : m ≠ k) (hx : r.find m = some x)
    (hopen : x.state = .opened) : (r.enter k o kind now).1.find m = r.find m := by
  rcases enter_cases r k o kind now hlen with ⟨y, hy, he⟩ | ⟨hnone, -, he⟩ | ⟨g, hnone, -, hg, he⟩ | ⟨-, -, -, he⟩ <;>
    rw [he]
  · rw [find_renew hy, if_neg hj]
  · rw [find_add hnone]
    exact if_neg hj
  · obtain ⟨y, hy, hgone⟩ := oldestGone_gone hg
    have hother : m ≠ g := by
      rintro rfl
      rw [hx] at hy
      cases hy
      simp [hopen] at hgone
    rw [find_add (room_of_oldestGone hg hnone).2.1, find_remove, if_neg hother]
    exact if_neg hj
  · rfl

end

/-- Settles O47, by the cases of an entry. -/
theorem faultEntryKeepsRoster : Obligations.FaultEntryKeepsRoster := by
  unfold Obligations.FaultEntryKeepsRoster
  intro r k o c now hkeyed hlen r'
  obtain ⟨hkeyed', hlen'⟩ := enter_keyed (k := k) (o := o) (kind := c) (now := now) hkeyed hlen
  refine ⟨hkeyed', hlen', fun hrec => ?_, enter_unrecorded_iff hkeyed hlen, enter_unrecorded hlen,
    fun hnone hroom => ?_, fun hnone hfull older g newer hsplit hg holder => ?_,
    fun j hj ⟨x, hx, hopen⟩ => find_enter_opened hlen hj hx hopen⟩
  · obtain ⟨hoverflowed, hlast, hfind⟩ := enter_recorded hlen hrec
    refine ⟨hoverflowed, hlast, _, hfind, ?_⟩
    cases hk : r.find k with
    | none =>
      exact ⟨rfl, rfl, fun hc => by rw [hc]; rfl, fun _ => ⟨rfl, rfl, rfl, fun hc => by rw [hc]; rfl⟩, by simp⟩
    | some x =>
      refine ⟨rfl, rfl, fun hc => by rw [hc]; rfl, by simp, ?_⟩
      rintro z ⟨⟩
      exact ⟨rfl, rfl, rfl, fun hc => by rw [hc]; rfl, keys_enter_held hk⟩
  · have he := enter_first_room (o := o) (kind := c) (now := now) hnone hroom
    have hr' : r' = r.add (.first k o c now) := congrArg Prod.fst he
    rw [hr']
    exact ⟨keys_add, rfl⟩
  · have hold := oldestGone_of_split hsplit hg holder
    have hr' : r' = (r.remove g).add (.first k o c now) :=
      congrArg Prod.fst (enter_first_full (o := o) (kind := c) (now := now) hnone hfull hold)
    obtain ⟨-, hnone', hne⟩ := room_of_oldestGone hold hnone
    have hnodup : (older ++ g :: newer).Nodup := hsplit ▸ hkeyed.2.nodup_iff.mpr hkeyed.1
    rw [hr']
    refine ⟨?_, ?_⟩
    · rw [find_add hnone', find_remove, if_pos rfl]
      exact if_neg hne
    · have holder : g ∉ older := fun hin => (List.disjoint_of_nodup_append hnodup) hin List.mem_cons_self
      have hremoved : r.recency.filter (· != g) = older ++ newer := by
        rw [hsplit, ← hnodup.erase_eq_filter, List.erase_append_right _ holder, List.erase_cons_head]
      exact congrArg (· ++ [k]) hremoved

end Sys2Proof.Machine

namespace Sys2Proof.Machine

/-! ## Faults pages (R151, R152) -/

@[simp] theorem length_stampBytes (t : Stamp) : (stampBytes t).length = 5 := rfl

theorem length_recordBytes (r : FaultRoster) (x : FaultRecord) : (recordBytes r x).length = 20 := by
  simp [recordBytes]

section
variable {body : List Byte} {off page : Nat} {r : FaultRoster}

theorem stampAt_of_liesAt {t : Stamp} (h : LiesAt body off (stampBytes t)) : stampAt page body off = t := by
  obtain ⟨hclock, hunset⟩ := liesAt_append.mp h
  rw [length_be4] at hunset
  rw [stampAt, wordAt_of_liesAt hclock (Nat.le_of_lt_succ t.clock.isLt), markAt_of_liesAt hunset, BitVec.ofNat_toNat,
    BitVec.setWidth_eq]

/-- R152: a fault record and its place in the recency order lie in twenty bytes. -/
theorem recordAt_of_liesAt {x : FaultRecord} (h : LiesAt body off (recordBytes r x))
    (hocc : 1 ≤ x.occurrences ∧ x.occurrences ≤ 65535) (hplace : r.place x.key ≤ 11) :
    recordAt page body off = (x, r.place x.key) := by
  have h : LiesAt body off ([x.key.cls] ++ [x.key.code] ++ mark x.key.subject.isSome ++ [x.key.subject.getD 0]
      ++ mark (x.origin == .hub) ++ mark (x.state == .gone) ++ mark x.acked
      ++ stampBytes x.firstSeen ++ stampBytes x.lastSeen ++ be2 x.occurrences ++ be1 (r.place x.key)) := h
  simp only [liesAt_append, and_assoc, List.length_append, length_mark, length_be2, length_stampBytes,
    List.length_singleton, Nat.reduceAdd] at h
  obtain ⟨hcls, hcode, hsome, hsubject, horigin, hstate, hacked, hfirst, hlast, hcount, hnumber⟩ := h
  simp only [recordAt, getD_of_liesAt hcls, getD_of_liesAt hcode, markAt_of_liesAt hsome, getD_of_liesAt hsubject,
    markAt_of_liesAt horigin, markAt_of_liesAt hstate, markAt_of_liesAt hacked, stampAt_of_liesAt hfirst,
    stampAt_of_liesAt hlast, ranged_halfAt hcount hocc le_rfl,
    ranged_byteAt hnumber ⟨Nat.zero_le _, hplace⟩ (by decide)]
  obtain ⟨⟨cls, code, subject⟩, origin, state, acked, firstSeen, lastSeen, occurrences⟩ := x
  cases subject <;> cases origin <;> cases state <;> rfl

end

/-- A list is given back by its places in rising order. -/
theorem flatMap_places {α : Type} (l : List α) (n : Nat) (hn : l.length ≤ n) :
    ((List.range n).flatMap fun k => l[k]?.toList) = l := by
  induction l generalizing n with
  | nil => simp
  | cons a l ih =>
    obtain ⟨m, rfl⟩ : ∃ m, n = m + 1 := Nat.exists_eq_add_one.mpr (Nat.lt_of_lt_of_le (Nat.zero_lt_succ _) hn)
    rw [List.range_succ_eq_map, List.flatMap_cons, List.flatMap_map]
    exact congrArg (a :: ·) (ih m (Nat.le_of_succ_le_succ hn))

section
variable {r : FaultRoster}

/-- R152: the key that stands at a place of the recency order is that of the one record with this place. -/
theorem keys_at_place (h : r.keyed) (k : Nat) : (r.keys.filter fun a => r.place a == k) = r.recency[k]?.toList := by
  obtain ⟨hnodup, hperm⟩ := h
  have hnodup' : r.recency.Nodup := hperm.nodup_iff.mpr hnodup
  by_cases hk : k < r.recency.length
  · have hplace : ∀ a ∈ r.keys, (r.place a == k) = (a == r.recency[k]) := fun a ha => by
      have hmem : r.recency.idxOf a < r.recency.length := List.idxOf_lt_length_iff.mpr (hperm.mem_iff.mpr ha)
      rw [Bool.eq_iff_iff, beq_iff_eq, beq_iff_eq]
      exact ⟨fun hp => by subst hp; exact (List.getElem_idxOf hmem).symm,
        fun hp => by rw [hp]; exact hnodup'.idxOf_getElem k hk⟩
    have hin : r.recency[k] ∈ r.keys := hperm.mem_iff.mp (List.getElem_mem hk)
    rw [List.filter_congr hplace, List.filter_beq, List.count_eq_one_of_mem (l := r.keys) hnodup hin,
      List.getElem?_eq_getElem hk]
    rfl
  · rw [List.getElem?_eq_none (not_lt.mp hk), Option.toList_none, List.filter_eq_nil_iff]
    intro a ha
    have hmem : r.recency.idxOf a < r.recency.length := List.idxOf_lt_length_iff.mpr (hperm.mem_iff.mpr ha)
    simp only [FaultRoster.place, beq_iff_eq]
    omega

/-- R152: the records listed by their places give the recency order back. -/
theorem recency_of_places (h : r.keyed) (hlen : r.records.length ≤ 12) :
    ((List.range 12).flatMap fun k =>
      ((r.records.map fun x => (x, r.place x.key)).filter fun x => x.2 == k).map fun x => x.1.key) = r.recency := by
  have hplace (k : Nat) : ((r.records.map fun x => (x, r.place x.key)).filter fun x => x.2 == k).map (fun x => x.1.key)
      = r.recency[k]?.toList := by
    rw [← keys_at_place h, FaultRoster.keys, List.filter_map, List.filter_map, List.map_map]
    rfl
  simp only [hplace]
  exact flatMap_places r.recency 12 (by rw [h.2.length_eq, List.length_map]; exact hlen)

/-- R151: a faults page gives its roster back, wherever it was read from. -/
theorem faultsFrom_of_liesAt {body : List Byte} {page : Nat} (h : LiesAt body 0 (faultsBody r)) (hkeyed : r.keyed)
    (hlen : r.records.length ≤ 12) (hocc : ∀ x ∈ r.records, 1 ≤ x.occurrences ∧ x.occurrences ≤ 65535) :
    faultsFrom page body = r := by
  simp only [faultsBody, liesAt_append, and_assoc, List.length_append, length_be1, length_mark, Nat.zero_add,
    Nat.reduceAdd] at h
  obtain ⟨hcount, hoverflowed, hrecords⟩ := h
  have hplace (x : FaultRecord) (hx : x ∈ r.records) : r.place x.key ≤ 11 := by
    have hmem : x.key ∈ r.recency := hkeyed.2.mem_iff.mpr (List.mem_map_of_mem hx)
    have hlt := List.idxOf_lt_length_iff.mpr hmem
    rw [hkeyed.2.length_eq, List.length_map] at hlt
    exact Nat.le_of_lt_succ (hlt.trans_le hlen)
  have hfound : ((List.range r.records.length).map fun k => recordAt page body (2 + 20 * k))
      = r.records.map fun x => (x, r.place x.key) := by
    refine List.ext_getElem (by simp) fun k hk hl => ?_
    have hk : k < r.records.length := by simpa using hk
    have hin := List.getElem_mem hk
    rw [List.getElem_map, List.getElem_map, List.getElem_range]
    exact recordAt_of_liesAt (liesAt_flatMap (length_recordBytes r) hrecords hk) (hocc _ hin) (hplace _ hin)
  simp only [faultsFrom, ranged_byteAt hcount ⟨Nat.zero_le _, hlen⟩ (by decide), hfound, markAt_of_liesAt hoverflowed,
    recency_of_places hkeyed hlen, List.map_map]
  exact congrArg (fun l => ({ r with records := l } : FaultRoster)) (List.map_id _)

end

/-- Settles O52: the records at their offsets, and the recency order by their places. -/
theorem faultPagesRoundTrip : Obligations.FaultPagesRoundTrip := by
  unfold Obligations.FaultPagesRoundTrip
  exact fun r m hkeyed hlen hocc => faultsFrom_of_liesAt (liesAt_padBody (faultsBody r)) hkeyed hlen hocc

end Sys2Proof.Machine

namespace Sys2Proof.Machine

/-! ## What the Store Controller issues when a write has ended (R169, R170) -/

section
variable {s t : State} {e : WriteEntry} {rest : List WriteEntry}

theorem fillPlace_waiting (h : fillPlace s = some t) : s.store.waiting <+: t.store.waiting := by
  unfold fillPlace at h
  split at h
  · obtain ⟨q, -, rfl⟩ := Option.map_eq_some_iff.mp h
    exact List.prefix_append ..
  · cases h

theorem fillPlaces_waiting (n : Nat) (s : State) : s.store.waiting <+: (fillPlaces n s).store.waiting := by
  induction n generalizing s with
  | zero => exact List.prefix_rfl
  | succ n ih =>
    unfold fillPlaces
    split
    · exact List.prefix_rfl
    · next t ht => exact (fillPlace_waiting ht).trans (ih t)

/-- R170: with no write in flight, the oldest entry is issued. -/
theorem pumpStore_issues (hw : s.store.writing = true) (hi : s.store.inFlight = none)
    (he : s.store.waiting = e :: rest) : ∃ v, (pumpStore s).store.inFlight = some v ∧ v.page = e.page
      ∧ v.snapshot = e.snapshot ∧ v.attempt = 1 := by
  have h := fillPlaces_holds Config.writeCapacity s
  obtain ⟨more, hmore⟩ := fillPlaces_waiting Config.writeCapacity s
  rw [he, List.cons_append] at hmore
  have hissue := issue_cons (h.writing.trans hw) (h.inFlight.trans hi) hmore.symm
  have hflight := (fillPlaces_holds Config.writeCapacity
    ((fillPlaces Config.writeCapacity s).modStore Store.issue)).inFlight
  exact ⟨_, hflight.trans (congrArg Store.inFlight hissue), rfl, rfl, rfl⟩

/-- R169: with no page deferred, the Store Controller only issues. -/
theorem pumpStore_undeferred (h : ∀ q, (s.store.page q).deferred = false) : pumpStore s = s.modStore Store.issue := by
  rw [pumpStore, fillPlaces_undeferred _ h, fillPlaces_undeferred]
  exact fun q => (issue_deferred s.store q).trans (h q)

end

/-! ## Groups that are reported (R90, R92, R172) -/

/-- Between two states only the ports changed. -/
def PortsOnly (s t : State) : Prop := ∃ c o, t = { s with collector := c, office := o }

theorem PortsOnly.refl (s : State) : PortsOnly s s := ⟨s.collector, s.office, rfl⟩

theorem PortsOnly.trans {s t u : State} (h : PortsOnly s t) (k : PortsOnly t u) : PortsOnly s u := by
  obtain ⟨_, _, rfl⟩ := h
  obtain ⟨c, o, rfl⟩ := k
  exact ⟨c, o, rfl⟩

theorem modPort_portsOnly (p : PortId) (f : Port → Port) (s : State) : PortsOnly s (s.modPort p f) := by
  cases p <;> exact ⟨_, _, rfl⟩

theorem answerTo_portsOnly (p : Option PortId) (status : Status) (body : List Byte) (s : State) :
    PortsOnly s (answerTo p status body s) := by
  cases p with
  | none => exact .refl s
  | some p => exact modPort_portsOnly p (fun x => x.answer status body) s

theorem settleCloseAll_portsOnly (p : PortId) (s : State) : PortsOnly s (settleCloseAll p s) := by
  unfold settleCloseAll
  split
  · exact .refl s
  · next l _ =>
    split
    · exact (modPort_portsOnly p _ s).trans (answerTo_portsOnly (some p) .done (closeAllBody l) _)
    · exact .refl s

theorem noteCloseAll_portsOnly (p : PortId) (i : SlotIx) (r : CloseResult) (s : State) :
    PortsOnly s (noteCloseAll p i r s) := (modPort_portsOnly p _ s).trans (settleCloseAll_portsOnly p _)

/-- Between two states closes were answered: but for the ports, only close records changed, and those to Idle. -/
structure Reported (s t : State) : Prop where
  rest : ∃ slots c o, t = { s with slots := slots, collector := c, office := o }
  slot : ∀ i, t.slot i = { s.slot i with close := (t.slot i).close }
  close : ∀ i, (t.slot i).close = (s.slot i).close ∨ (t.slot i).close = .idle

section
variable {s t u : State} {i : SlotIx}

theorem Reported.refl (s : State) : Reported s s := ⟨⟨_, _, _, rfl⟩, fun _ => rfl, fun _ => .inl rfl⟩

theorem Reported.trans (h : Reported s t) (k : Reported t u) : Reported s u where
  rest := by
    obtain ⟨_, _, _, rfl⟩ := h.rest
    obtain ⟨slots, c, o, rfl⟩ := k.rest
    exact ⟨slots, c, o, rfl⟩
  slot i := by rw [k.slot i, h.slot i]
  close i := by
    rcases k.close i with hk | hk
    · rw [hk]
      exact h.close i
    · exact .inr hk

theorem Reported.idle (h : Reported s t) (hi : (s.slot i).close = .idle) : (t.slot i).close = .idle := by
  rcases h.close i with hc | hc
  · exact hc.trans hi
  · exact hc

/-- R89, R90: a close in Storing ends. -/
theorem finishClose_storing {port : Option PortId} {ofAll final stored : Bool} {kept : ClosedFigures}
    (h : (s.slot i).close = .storing port ofAll final kept) :
    PortsOnly (s.setSlot i { s.slot i with close := .idle }) (finishClose i stored s) := by
  simp only [finishClose, h]
  split
  · cases port with
    | none => exact .refl _
    | some p => exact noteCloseAll_portsOnly p i _ _
  · exact answerTo_portsOnly port _ _ _

theorem setIdle_reported (h : PortsOnly (s.setSlot i { s.slot i with close := .idle }) t) : Reported s t := by
  obtain ⟨c, o, rfl⟩ := h
  have hslot (j : SlotIx) :
      State.slot { s.setSlot i { s.slot i with close := .idle } with collector := c, office := o } j
        = if j = i then { s.slot i with close := .idle } else s.slot j := slot_setSlot s i j _
  refine ⟨⟨_, c, o, rfl⟩, fun j => ?_, fun j => ?_⟩
  · rw [hslot]
    by_cases hj : j = i
    · subst hj; simp
    · simp [hj]
  · rw [hslot]
    by_cases hj : j = i
    · exact .inr (by simp [hj])
    · exact .inl (by simp [hj])

theorem finishClose_reported (i : SlotIx) (stored : Bool) (s : State) : Reported s (finishClose i stored s) := by
  cases h : (s.slot i).close with
  | storing port ofAll final kept => exact setIdle_reported (finishClose_storing h)
  | idle => simpa only [finishClose, h] using Reported.refl s
  | polling port ofAll n => simpa only [finishClose, h] using Reported.refl s

theorem finishClose_idle {port : Option PortId} {ofAll final stored : Bool} {kept : ClosedFigures}
    (h : (s.slot i).close = .storing port ofAll final kept) : ((finishClose i stored s).slot i).close = .idle := by
  obtain ⟨c, o, heq⟩ := finishClose_storing (stored := stored) h
  rw [heq]
  exact congrArg Slot.close (slot_setSlot_same s i _)

theorem reportGroup_reported (stored : Bool) (g : GroupRecord) (s : State) : Reported s (reportGroup stored g s) := by
  unfold reportGroup
  split
  · exact .refl s
  · exact finishClose_reported g.slot stored s

/-- R172: groups that end are reported one after the other. -/
theorem foldl_reported (stored : GroupRecord → Bool) (gs : List GroupRecord) (s : State) :
    Reported s (gs.foldl (fun u g => reportGroup (stored g) g u) s) := by
  induction gs generalizing s with
  | nil => exact .refl s
  | cons g gs ih => exact (reportGroup_reported (stored g) g s).trans (ih _)

/-- R172, R173: the close of a group that ends is Idle then. -/
theorem foldl_reportGroup_idle (stored : GroupRecord → Bool) {gs : List GroupRecord} {f : GroupRecord} (hf : f ∈ gs)
    (ha : f.abandoned = false) {port : Option PortId} {ofAll final : Bool} {kept : ClosedFigures}
    (h : (s.slot f.slot).close = .storing port ofAll final kept) :
    ((gs.foldl (fun u g => reportGroup (stored g) g u) s).slot f.slot).close = .idle := by
  induction gs generalizing s with
  | nil => cases hf
  | cons g gs ih =>
    rw [List.foldl_cons]
    rcases List.mem_cons.mp hf with rfl | hf
    · refine (foldl_reported stored gs _).idle ?_
      rw [reportGroup, ha, if_neg Bool.false_ne_true]
      exact finishClose_idle h
    · rcases (reportGroup_reported (stored g) g s).close f.slot with hsame | hidle
      · exact ih hf (hsame.trans h)
      · exact (foldl_reported stored gs _).idle hidle

theorem settleGroups_none (h : s.store.groups = []) : settleGroups s = s := by
  simp only [settleGroups, State.modStore, h, List.filter_nil, List.foldl_nil]
  rw [← h]

theorem settleGroups_reported (s : State) :
    Reported (s.modStore fun u => { u with groups := u.groups.filter u.carriesTag }) (settleGroups s) :=
  foldl_reported (fun g => !g.failed) _ _

end

end Sys2Proof.Machine

namespace Sys2Proof.Machine

/-! ## Faults of the store (R155, R163) -/

/-- R155, R163: a Store record opens in the hub's roster, and its Store alert is queued. -/
def storeFault (k : FaultKey) (s : State) : State := storeAlert k (openCondition 0 k s)

/-- R163: the Store alert of a Store record. -/
def storeFaultAlert (k : FaultKey) (now : Stamp) : Alert :=
  { kind := .store, slot := 0, cls := some k.cls, code := k.code, subject := k.subject, hit := 0, stamp := now }

theorem storeFault_eq (k : FaultKey) (s : State) :
    storeFault k s = queueAlert (storeFaultAlert k s.now) (openCondition 0 k s) := by
  have hnow : (openCondition 0 k s).now = s.now := now_of_env (by simp [State.env])
  rw [storeFault, storeAlert, hnow]
  rfl

/-- R151, R162: but for the hub's roster and the alerts, an entry of roster 0 leaves everything. -/
theorem openCondition_zero_rest (k : FaultKey) (s : State) : ∃ l o, openCondition 0 k s
    = { s with hubFaults := (s.hubFaults.enter k .hub .condition s.now).1, alerts := l, overrun := o } := by
  rw [openCondition, enterFault]
  dsimp only
  split
  · rcases offerEntry_cases 0 k { s with hubFaults := (s.hubFaults.enter k .hub .condition s.now).1 } with h | ⟨a, h⟩
    · exact ⟨_, _, h⟩
    · exact ⟨_, _, h⟩
  · exact ⟨_, _, rfl⟩

theorem storeFault_rest (k : FaultKey) (s : State) : ∃ l o, storeFault k s
    = { s with hubFaults := (s.hubFaults.enter k .hub .condition s.now).1, alerts := l, overrun := o } := by
  obtain ⟨l, o, h⟩ := openCondition_zero_rest k s
  rw [storeFault_eq, h]
  exact ⟨_, _, rfl⟩

theorem storeFault_getLast? (k : FaultKey) (s : State) :
    (storeFault k s).alerts.getLast? = some (storeFaultAlert k s.now) := by
  rw [storeFault_eq, queueAlert_getLast?]

/-- R162: with the watch Closed the entry itself queues no alert. -/
theorem storeFault_alerts {k : FaultKey} {s : State} (hwatch : s.watch.mode = .closed) (hroom : s.alerts.length < 32) :
    (storeFault k s).alerts = s.alerts ++ [storeFaultAlert k s.now] := by
  have hentry : (openCondition 0 k s).alerts = s.alerts := by
    rw [openCondition, enterFault_silent (.inr (by rw [WatchTable.hit, hwatch])), putRoster_alerts]
  rw [storeFault_eq, queueAlert_room _ (by rwa [hentry]), hentry]

/-! ## A page whose second attempt has failed (R171) -/

/-- R171, R172: the store with the page of a write bad and the groups of its tags failed. -/
def Store.failed (t : Store) (w : WriteInFlight) : Store :=
  { t.modPage w.page (fun m => { m with bad := true }) with
    inFlight := none
    groups := t.groups.map fun g => if w.tags.contains g.tag then { g with failed := true } else g }

/-- R173: the store once it is Stopped. -/
def Store.stop (t : Store) : Store :=
  { t with
    state := .stopped, waiting := [], groups := []
    pages := t.pages.map fun m => { m with deferred := false, deferredTags := [] } }

section
variable {t : Store} {w : WriteInFlight} {s : State}

theorem bad_failed_same (t : Store) (w : WriteInFlight) : ((t.failed w).page w.page).bad = true :=
  congrArg PageMarks.bad (page_modPage_same t w.page fun m => { m with bad := true })

theorem bad_failed_other (t : Store) {w : WriteInFlight} {q : PageIx} (hq : q ≠ w.page) :
    ((t.failed w).page q).bad = (t.page q).bad :=
  congrArg PageMarks.bad (page_modPage_other t (fun m => { m with bad := true }) hq)

theorem page_stop (t : Store) (q : PageIx) :
    t.stop.page q = { t.page q with deferred := false, deferredTags := [] } := by
  simp [Store.page, Store.stop]

/-- R171, R172: the hub once a page has failed, before its store is Degraded or Stopped. -/
def writeFailed (w : WriteInFlight) (s : State) : State :=
  (storeFault (keyPageFailed w.page) (s.modStore fun u =>
    { u.modPage w.page (fun m => { m with bad := true }) with inFlight := none })).modStore fun u =>
      { u with groups := u.groups.map fun g => if w.tags.contains g.tag then { g with failed := true } else g }

theorem writeFailed_rest (w : WriteInFlight) (s : State) : ∃ l o, writeFailed w s = { s with
    store := s.store.failed w, alerts := l, overrun := o
    hubFaults := (s.hubFaults.enter (keyPageFailed w.page) .hub .condition s.now).1 } := by
  obtain ⟨l, o, h⟩ := storeFault_rest (keyPageFailed w.page) (s.modStore fun u =>
    { u.modPage w.page (fun m => { m with bad := true }) with inFlight := none })
  rw [writeFailed, h]
  exact ⟨l, o, rfl⟩

theorem writeFailed_store (w : WriteInFlight) (s : State) : (writeFailed w s).store = s.store.failed w := by
  obtain ⟨_, _, h⟩ := writeFailed_rest w s
  rw [h]

theorem writeFailed_getLast? (w : WriteInFlight) (s : State) :
    (writeFailed w s).alerts.getLast? = some (storeFaultAlert (keyPageFailed w.page) s.now) :=
  storeFault_getLast? (keyPageFailed w.page) (s.modStore _)

theorem writeFailed_alerts (hwatch : s.watch.mode = .closed) (hroom : s.alerts.length < 32) :
    (writeFailed w s).alerts = s.alerts ++ [storeFaultAlert (keyPageFailed w.page) s.now] :=
  storeFault_alerts (s := s.modStore _) hwatch hroom

/-- R173: the Ready store becomes Degraded. -/
theorem failWrite_ready (hs : s.store.state = .ready) : failWrite w s
    = settleGroups ((writeFailed w s).modStore fun u => { u with state := .degraded }) := by
  have h : (writeFailed w s).store.state = .ready := by rw [writeFailed_store]; exact hs
  simp only [failWrite, writeFailed, storeFault] at h ⊢
  simp only [h]

/-- R173: the Degraded store becomes Stopped. -/
theorem failWrite_degraded (hs : s.store.state = .degraded) : failWrite w s = stopStore (writeFailed w s) := by
  have h : (writeFailed w s).store.state = .degraded := by rw [writeFailed_store]; exact hs
  simp only [failWrite, writeFailed, storeFault] at h ⊢
  simp only [h]

/-- R173: the groups of a store that stops are reported, none stored. -/
def stopGroups (s : State) : State :=
  s.store.groups.foldl (fun u g => reportGroup false g u) (s.modStore Store.stop)

theorem stopStore_eq (s : State) : stopStore s = storeFault keyStopped (stopGroups s) := rfl

theorem stopGroups_reported (s : State) : Reported (s.modStore Store.stop) (stopGroups s) :=
  foldl_reported (fun _ => false) _ _

end

/-! ## How an attempt ends (R170) -/

section
variable {s : State} {w : WriteInFlight} {c : Instr}

theorem writing_of_sound (hs : s.store.sound = true) (hi : s.store.inFlight = some w) : s.store.writing = true := by
  by_contra hno
  simp [Store.sound, hno, hi] at hs

theorem quiet_of_sound (hs : s.store.sound = true) : s.store.quiet = true := by
  simp only [Store.sound, Bool.and_eq_true] at hs
  obtain ⟨⟨-, hquiet⟩, -⟩ := hs
  exact hquiet

/-- R170: the commands that end an attempt of a write with another content read back, or none. -/
def Fails (w : WriteInFlight) (c : Instr) : Prop :=
  c = .storeTransferTimeout ∨ ∃ l, l ≠ w.bytes ∧ c = .storeWriteVerify l

theorem effect_fails (hi : s.store.inFlight = some w) (hc : Fails w c) : effect c s = endAttempt false w s := by
  rcases hc with rfl | ⟨l, hl, rfl⟩
  · simp only [effect, attemptEnds, hi]
    rfl
  · simp only [effect, attemptEnds, hi]
    rw [show (some l == some w.bytes) = false by simpa using hl]

/-- R170: the first attempt: the second sends the same. -/
theorem exec_firstFails (hs : s.store.sound = true) (hi : s.store.inFlight = some w) (ha : w.attempt = 1)
    (hc : Fails w c) :
    exec c s = .next { s with store := { s.store with inFlight := some { w with attempt := 2 } } } := by
  refine exec_of_quiet ((effect_fails hi hc).trans ?_) ?_
  · rw [endAttempt, if_neg Bool.false_ne_true, if_pos (by omega)]
    rfl
  · have hquiet := quiet_of_sound hs
    rw [Store.quiet, hi] at hquiet
    exact hquiet

theorem exec_secondFails (hi : s.store.inFlight = some w) (ha : 2 ≤ w.attempt) (hc : Fails w c) :
    exec c s = .next (pumpStore (failWrite w s)) := by
  rw [exec_eq, effect_fails hi hc, endAttempt, if_neg Bool.false_ne_true, if_neg (by omega)]

end

/-! ## The verified write (R170) -/

section
variable {s : State} {w : WriteInFlight}

/-- R170, R155: a bad page verifies: it is bad no more, and its record goes Gone. -/
theorem effect_verify_bad (hi : s.store.inFlight = some w) (hbad : (s.store.page w.page).bad = true) :
    effect (.storeWriteVerify w.bytes) s = settleGroups { s with
      hubFaults := s.hubFaults.finish (keyPageFailed w.page)
      store := (s.store.modPage w.page fun m => { m with bad := false }).verified w } := by
  have hends : effect (.storeWriteVerify w.bytes) s = verifyWrite w s := by
    simp [effect, attemptEnds, hi, endAttempt]
  rw [hends, verifyWrite]
  simp only [hbad, if_true]
  rfl

theorem quiet_of_idle {t : Store} (hw : t.waiting = []) (hd : ∀ q, (t.page q).deferred = false) : t.quiet = true := by
  simp [Store.quiet, hw, (lowestDeferred_none t).mpr hd]

theorem deferred_modPage (t : Store) (p q : PageIx) {f : PageMarks → PageMarks}
    (hf : ∀ m, (f m).deferred = m.deferred) : ((t.modPage p f).page q).deferred = (t.page q).deferred := by
  by_cases hq : q = p
  · rw [hq, page_modPage_same, hf]
  · rw [page_modPage_other t f hq]

/-- R170: the verified write was the last. -/
theorem exec_verify_idle (hs : s.store.sound = true) (hi : s.store.inFlight = some w) (hg : s.store.groups = [])
    (hw : s.store.waiting = []) (hbad : (s.store.page w.page).bad = false) :
    exec (.storeWriteVerify w.bytes) s = .next { s with store := s.store.verified w } :=
  exec_of_quiet ((effect_verify hi hbad).trans (settleGroups_none hg))
    (quiet_of_idle hw ((lowestDeferred_none s.store).mp (undeferred_of_sound hs hi hw)))

/-- R170, R171: the verified write was the last, and its page was bad. -/
theorem exec_verify_bad (hs : s.store.sound = true) (hi : s.store.inFlight = some w) (hg : s.store.groups = [])
    (hw : s.store.waiting = []) (hbad : (s.store.page w.page).bad = true) :
    exec (.storeWriteVerify w.bytes) s = .next { s with
      hubFaults := s.hubFaults.finish (keyPageFailed w.page)
      store := (s.store.modPage w.page fun m => { m with bad := false }).verified w } := by
  refine exec_of_quiet ((effect_verify_bad hi hbad).trans (settleGroups_none hg)) (quiet_of_idle hw fun q => ?_)
  exact (deferred_modPage s.store w.page q (f := fun m => { m with bad := false }) fun _ => rfl).trans
    ((lowestDeferred_none _).mp (undeferred_of_sound hs hi hw) q)

/-- R170: the oldest entry that waits is issued. -/
theorem exec_verify_issues {e : WriteEntry} {rest : List WriteEntry} (hs : s.store.sound = true)
    (hi : s.store.inFlight = some w) (hg : s.store.groups = []) (he : s.store.waiting = e :: rest)
    (hbad : (s.store.page w.page).bad = false) (hd : s.store.lowestDeferred = none) :
    exec (.storeWriteVerify w.bytes) s = .next { s with store := { s.store.modPage e.page (fun m =>
      { m with generation := m.generation + 1 }) with
        waiting := rest, nodeMismatch := s.store.nodeMismatch && w.page != 0
        inFlight := some { page := e.page, generation := (s.store.page e.page).generation + 1
                           snapshot := e.snapshot, tags := e.tags, attempt := 1 } } } := by
  have hissue : (s.store.verified w).issue = _ := issue_cons (writing_of_sound hs hi) rfl he
  rw [exec_eq, effect_verify hi hbad, settleGroups_none (s := s.modStore fun t => t.verified w) hg,
    pumpStore_undeferred (s := s.modStore fun t => t.verified w) ((lowestDeferred_none _).mp hd)]
  exact congrArg (fun u => Host.Outcome.next { s with store := u }) hissue

end

/-! ## The second attempt that fails (R171 to R173) -/

/-- Of all but the hub's roster, the alerts and the store's other fields, a failed write leaves everything but close
records, and those change only where a group is open. -/
structure FailLeaves (w : WriteInFlight) (s u : State) : Prop where
  bad : (u.store.page w.page).bad = true
  badOther : ∀ q, q ≠ w.page → (u.store.page q).bad = (s.store.page q).bad
  slots : s.store.groups = [] → u.slots = s.slots
  slot : ∀ i, u.slot i = { s.slot i with close := (u.slot i).close }
  segA : u.segA = s.segA
  segB : u.segB = s.segB
  queue : u.queue = s.queue

/-- The Store Controller's work after a failed write changes the store alone. -/
theorem FailLeaves.pumped {w : WriteInFlight} {s u : State} (h : FailLeaves w s u) : FailLeaves w s (pumpStore u) where
  bad := ((pumpStore_holds u).2.1 w.page).trans h.bad
  badOther q hq := ((pumpStore_holds u).2.1 q).trans (h.badOther q hq)
  slots hg := (pumpStore_slots u).trans (h.slots hg)
  slot i := by rw [slot_pumpStore, ← h.slot i]
  segA := (pumpStore_segA u).trans h.segA
  segB := (pumpStore_segB u).trans h.segB
  queue := (pumpStore_queue u).trans h.queue

section
variable {s : State} {w : WriteInFlight}

theorem slot_writeFailed (w : WriteInFlight) (s : State) (i : SlotIx) : (writeFailed w s).slot i = s.slot i := by
  obtain ⟨_, _, h⟩ := writeFailed_rest w s
  rw [h]
  rfl

/-- R172: the groups of the tags that a write carried are marked, and none is added or dropped. -/
theorem mem_groups_failed {f : GroupRecord} (hf : f ∈ s.store.groups) :
    { f with failed := f.failed || w.tags.contains f.tag } ∈ (s.store.failed w).groups := by
  refine List.mem_map.mpr ⟨f, hf, ?_⟩
  cases w.tags.contains f.tag <;> simp

theorem groups_failed_nil (hg : s.store.groups = []) : (s.store.failed w).groups = [] := by simp [Store.failed, hg]

/-! ### A Ready store -/

/-- R171, R172: the Ready store after a failed write is Degraded, with the groups that something still carries. -/
theorem failWrite_ready_rest (hs : s.store.state = .ready) : ∃ slots c o overrun, failWrite w s = { s with
    slots := slots, collector := c, office := o, overrun := overrun, alerts := (writeFailed w s).alerts
    hubFaults := (s.hubFaults.enter (keyPageFailed w.page) .hub .condition s.now).1
    store := { s.store.failed w with
      state := .degraded, groups := (s.store.failed w).groups.filter (s.store.failed w).carriesTag } } := by
  obtain ⟨slots, c, o, hreported⟩ := (settleGroups_reported ((writeFailed w s).modStore fun u =>
    { u with state := .degraded })).rest
  obtain ⟨l, overrun, hrest⟩ := writeFailed_rest w s
  rw [failWrite_ready hs, hreported, hrest]
  exact ⟨slots, c, o, overrun, rfl⟩

theorem failWrite_ready_leaves (hs : s.store.state = .ready) : FailLeaves w s (failWrite w s) := by
  obtain ⟨_, _, _, _, hrest⟩ := failWrite_ready_rest (w := w) hs
  refine ⟨?_, fun q hq => ?_, fun hg => ?_, fun i => ?_, ?_, ?_, ?_⟩
  · rw [hrest]
    exact bad_failed_same s.store w
  · rw [hrest]
    exact bad_failed_other s.store hq
  · have hnone : ((writeFailed w s).modStore fun u => { u with state := .degraded }).store.groups = [] := by
      rw [modStore_store, writeFailed_store]
      exact groups_failed_nil hg
    obtain ⟨_, _, hfailed⟩ := writeFailed_rest w s
    rw [failWrite_ready hs, settleGroups_none hnone, hfailed]
    rfl
  · rw [failWrite_ready hs, (settleGroups_reported _).slot i]
    simp only [slot_modStore, slot_writeFailed]
  all_goals rw [hrest]

/-- R172: a group that an entry still carries goes on. -/
theorem mem_groups_failWrite {f : GroupRecord} (hs : s.store.state = .ready) (hf : f ∈ s.store.groups)
    (hcarried : ∃ e ∈ s.store.waiting, f.tag ∈ e.tags) :
    { f with failed := f.failed || w.tags.contains f.tag } ∈ (failWrite w s).store.groups := by
  obtain ⟨_, _, _, _, hrest⟩ := failWrite_ready_rest (w := w) hs
  obtain ⟨e, he, hin⟩ := hcarried
  have hany : (s.store.failed w).waiting.any (fun e => e.tags.contains f.tag) = true :=
    List.any_eq_true.mpr ⟨e, he, by simpa using hin⟩
  rw [hrest]
  refine List.mem_filter.mpr ⟨mem_groups_failed hf, ?_⟩
  simp only [Store.carriesTag, hany, Bool.true_or]

/-! ### A Degraded store -/

theorem stopGroups_rest (w : WriteInFlight) (s : State) : ∃ slots c o overrun, stopGroups (writeFailed w s) = { s with
    slots := slots, collector := c, office := o, overrun := overrun, alerts := (writeFailed w s).alerts
    hubFaults := (s.hubFaults.enter (keyPageFailed w.page) .hub .condition s.now).1
    store := (s.store.failed w).stop } := by
  obtain ⟨slots, c, o, hreported⟩ := (stopGroups_reported (writeFailed w s)).rest
  obtain ⟨l, overrun, hrest⟩ := writeFailed_rest w s
  rw [hreported, hrest]
  exact ⟨slots, c, o, overrun, rfl⟩

/-- R173: the Degraded store after a failed write is Stopped and empty, and Store/Stopped is entered too. -/
theorem failWrite_degraded_rest (hs : s.store.state = .degraded) : ∃ c o alerts overrun, failWrite w s = { s with
    slots := (stopGroups (writeFailed w s)).slots, collector := c, office := o, overrun := overrun, alerts := alerts
    hubFaults := ((s.hubFaults.enter (keyPageFailed w.page) .hub .condition s.now).1.enter
      keyStopped .hub .condition s.now).1
    store := (s.store.failed w).stop } := by
  obtain ⟨l, overrun, hfault⟩ := storeFault_rest keyStopped (stopGroups (writeFailed w s))
  obtain ⟨slots, c, o, _, hrest⟩ := stopGroups_rest w s
  rw [failWrite_degraded hs, stopStore_eq, hfault, hrest]
  exact ⟨c, o, l, overrun, rfl⟩

theorem failWrite_degraded_leaves (hs : s.store.state = .degraded) : FailLeaves w s (failWrite w s) := by
  obtain ⟨_, _, _, _, hrest⟩ := failWrite_degraded_rest (w := w) hs
  have hslots : (failWrite w s).slots = (stopGroups (writeFailed w s)).slots := by rw [hrest]
  have hslot (i : SlotIx) : (failWrite w s).slot i = (stopGroups (writeFailed w s)).slot i := by
    rw [State.slot, hslots, State.slot]
  refine ⟨?_, fun q hq => ?_, fun hg => ?_, fun i => ?_, ?_, ?_, ?_⟩
  · rw [hrest]
    simp only [page_stop, bad_failed_same]
  · rw [hrest]
    simp only [page_stop, bad_failed_other s.store hq]
  · obtain ⟨_, _, hfailed⟩ := writeFailed_rest w s
    rw [hslots, stopGroups, writeFailed_store, groups_failed_nil hg, List.foldl_nil, hfailed]
    rfl
  · rw [hslot, (stopGroups_reported _).slot i]
    simp only [slot_modStore, slot_writeFailed]
  all_goals rw [hrest]

/-- R173: a close that waits for its group is Idle once the store is Stopped. -/
theorem failWrite_degraded_idle {f : GroupRecord} (hs : s.store.state = .degraded) (hf : f ∈ s.store.groups)
    (ha : f.abandoned = false) {port : Option PortId} {ofAll final : Bool} {kept : ClosedFigures}
    (h : (s.slot f.slot).close = .storing port ofAll final kept) : ((failWrite w s).slot f.slot).close = .idle := by
  obtain ⟨_, _, _, _, hrest⟩ := failWrite_degraded_rest (w := w) hs
  have hmem := mem_groups_failed (w := w) hf
  rw [← writeFailed_store] at hmem
  rw [hrest]
  exact foldl_reportGroup_idle (s := (writeFailed w s).modStore Store.stop)
    (f := { f with failed := f.failed || w.tags.contains f.tag }) (fun _ => false) hmem ha
    ((congrArg Slot.close (slot_writeFailed w s f.slot)).trans h)

theorem failWrite_degraded_getLast? (hs : s.store.state = .degraded) :
    (failWrite w s).alerts.getLast? = some (storeFaultAlert keyStopped s.now) := by
  obtain ⟨_, _, _, _, hrest⟩ := stopGroups_rest w s
  rw [failWrite_degraded hs, stopStore_eq, storeFault_getLast?, hrest]
  rfl

theorem failWrite_degraded_alerts (hs : s.store.state = .degraded) (hwatch : s.watch.mode = .closed)
    (hroom : s.alerts.length < 31) : (failWrite w s).alerts
      = s.alerts ++ [storeFaultAlert (keyPageFailed w.page) s.now, storeFaultAlert keyStopped s.now] := by
  obtain ⟨_, _, _, _, hrest⟩ := stopGroups_rest w s
  have hfirst := writeFailed_alerts (w := w) hwatch (hroom.trans (by decide))
  have hsecond := storeFault_alerts (k := keyStopped) (s := stopGroups (writeFailed w s))
    (by rw [hrest]; exact hwatch) (by rw [hrest, hfirst]; simpa using Nat.succ_lt_succ hroom)
  rw [failWrite_degraded hs, stopStore_eq, hsecond, hrest, hfirst, List.append_assoc]
  rfl

end

/-- R155: with room for two, both conditions that open have Open records. -/
theorem enter_two_conditions_opened {r : FaultRoster} {k m : FaultKey} {now : Stamp} (hroom : r.records.length < 11) :
    let r' := ((r.enter k .hub .condition now).1.enter m .hub .condition now).1
    r'.Opened k ∧ r'.Opened m := by
  have hfirst := enter_condition_opened (k := k) (now := now) (hroom.trans (by decide)) k (.inl rfl)
  have hlength := enter_condition_length (k := k) (now := now) (hroom.trans (by decide))
  have hroom' := hlength.trans_lt (Nat.succ_lt_succ hroom)
  exact ⟨enter_condition_opened hroom' k (.inr hfirst), enter_condition_opened hroom' m (.inl rfl)⟩

/-- R173: a store that makes writes is Ready or Degraded. -/
theorem state_of_writing {t : Store} (h : t.writing = true) : t.state = .ready ∨ t.state = .degraded := by
  simpa [Store.writing] using h

/-- R173: a Stopped store has no work. -/
theorem pumpStore_stop {s : State} {t : Store} (h : s.store = t.stop) : pumpStore s = s :=
  pumpStore_of_quiet (by rw [h]; rfl)

theorem lowestDeferred_stop (t : Store) : t.stop.lowestDeferred = none :=
  (lowestDeferred_none _).mpr fun q => by rw [page_stop]

/-- Settles O49: a verified write frees its place; a first failure sends again; a second leaves the store Degraded or
Stopped by the state it had. -/
theorem storeWriteAttempts : Obligations.StoreWriteAttempts := by
  unfold Obligations.StoreWriteAttempts
  intro s w hs hi t stamp failed stopped alert
  refine ⟨fun hg hw hbad => exec_verify_idle hs hi hg hw hbad,
    fun e rest hg he hbad hd => exec_verify_issues hs hi hg he hbad hd,
    fun hg hw hbad => exec_verify_bad hs hi hg hw hbad,
    fun ha => ⟨exec_firstFails hs hi ha (.inl rfl), fun l hl => exec_firstFails hs hi ha (.inr ⟨l, hl, rfl⟩)⟩,
    fun ha c hc => ⟨_, exec_secondFails hi ha hc, ?_⟩⟩
  rcases state_of_writing (writing_of_sound hs hi) with hstate | hstate
  · have hnot : t.state ≠ .degraded := fun h => nomatch hstate.symm.trans h
    obtain ⟨_, _, _, _, hrest⟩ := failWrite_ready_rest (w := w) hstate
    have hleaves := (failWrite_ready_leaves (w := w) hstate).pumped
    have hfaults : (pumpStore (failWrite w s)).hubFaults
        = (s.hubFaults.enter failed .hub .condition stamp).1 := by rw [pumpStore_hubFaults, hrest]; rfl
    have halerts : (pumpStore (failWrite w s)).alerts = (writeFailed w s).alerts := by rw [pumpStore_alerts, hrest]
    refine ⟨hleaves.bad, hleaves.badOther, ?_, ?_, fun hroom _ => ?_, fun _ h => absurd h hnot,
      fun h => absurd h hnot, fun _ => ⟨?_, ?_⟩, fun hwatch hroom => ?_, ?_,
      hleaves.slots, hleaves.slot, hleaves.segA, hleaves.segB, hleaves.queue⟩
    · rw [if_pos hstate, pumpStore_state, hrest]
    · rw [hfaults, if_pos hstate]
    · rw [hfaults]
      exact enter_condition_opened hroom failed (.inl rfl)
    · intro e rest he
      exact pumpStore_issues (rest := rest) (by rw [hrest]; rfl) (by rw [hrest]; rfl) (by rw [hrest]; exact he)
    · intro f hf hcarried
      rw [(pumpStore_holds _).1]
      exact mem_groups_failWrite hstate hf hcarried
    · rw [halerts, if_pos hstate]
      exact writeFailed_alerts hwatch (hroom.trans (by decide))
    · rw [halerts, if_pos hstate]
      exact writeFailed_getLast? w s
  · have hnot : t.state ≠ .ready := fun h => nomatch hstate.symm.trans h
    obtain ⟨_, _, _, _, hrest⟩ := failWrite_degraded_rest (w := w) hstate
    have hleaves := failWrite_degraded_leaves (w := w) hstate
    have hstore : (failWrite w s).store = (s.store.failed w).stop := by rw [hrest]
    have hfaults : (failWrite w s).hubFaults = ((s.hubFaults.enter failed .hub .condition stamp).1.enter
        stopped .hub .condition stamp).1 := by rw [hrest]; rfl
    rw [pumpStore_stop hstore]
    refine ⟨hleaves.bad, hleaves.badOther, ?_, ?_, fun _ h => absurd h hnot, fun hroom _ => ?_,
      fun _ => ⟨congrArg Store.waiting hstore, congrArg Store.inFlight hstore, congrArg Store.groups hstore, ?_, ?_⟩,
      fun h => absurd h hnot, fun hwatch hroom => ?_, ?_, hleaves.slots, hleaves.slot, hleaves.segA, hleaves.segB,
      hleaves.queue⟩
    · rw [if_neg hnot, hstore]; rfl
    · rw [hfaults, if_neg hnot]
    · rw [hfaults]
      exact enter_two_conditions_opened hroom
    · rw [hstore, lowestDeferred_stop]
    · exact fun f hf habandoned port ofAll final kept h => failWrite_degraded_idle hstate hf habandoned h
    · rw [if_neg hnot]
      exact failWrite_degraded_alerts hstate hwatch hroom
    · rw [if_neg hnot]
      exact failWrite_degraded_getLast? hstate

end Sys2Proof.Machine

namespace Sys2Proof.Machine

/-! ## The write queue between the parts of a step (R169, R170, R173) -/

/-- R169, R173: the write queue is within its places, holds no page twice and none that is deferred; a store that makes
no writes holds nothing. -/
structure Store.Tidy (t : Store) : Prop where
  fits : t.waiting.length ≤ Config.writeCapacity
  nodup : (t.waiting.map WriteEntry.page).Nodup
  apart : ∀ e ∈ t.waiting, (t.page e.page).deferred = false
  rests : t.writing = true ∨ (t.waiting = [] ∧ t.inFlight = none ∧ ∀ q, (t.page q).deferred = false)

/-- R169: a tidy write queue in which a page is deferred only for want of a place: what holds all through a step, but
for the format of a new store. -/
structure Store.Packed (t : Store) : Prop extends t.Tidy where
  full : Config.writeCapacity ≤ t.waiting.length ∨ ∀ q, (t.page q).deferred = false

section
variable {t u : Store} {s v : State}

/-- R169, R170, R173: `Store.sound` as propositions. -/
theorem sound_iff_packed (t : Store) : t.sound = true ↔ t.Packed ∧ (t.inFlight.isSome = true ∨ t.waiting = []) := by
  have hidle : t.idle = true ↔ t.waiting = [] ∧ ∀ q, (t.page q).deferred = false := by
    simp [Store.idle, Option.isNone_iff_eq_none, lowestDeferred_none]
  simp only [Store.sound, Store.quiet, Bool.and_eq_true, Bool.or_eq_true, decide_eq_true_eq, List.all_eq_true,
    Bool.not_eq_true', List.isEmpty_iff, Option.isNone_iff_eq_none, lowestDeferred_none, hidle]
  constructor
  · rintro ⟨⟨⟨⟨hfits, hnodup⟩, hapart⟩, hquiet⟩, hwrites | ⟨⟨hwaiting, hdeferred⟩, hflight⟩⟩
    · obtain ⟨hissued, hfull⟩ := hquiet.resolve_left (by simp [hwrites])
      exact ⟨⟨⟨hfits, hnodup, hapart, .inl hwrites⟩, hfull⟩, hissued⟩
    · exact ⟨⟨⟨hfits, hnodup, hapart, .inr ⟨hwaiting, hflight, hdeferred⟩⟩, .inr hdeferred⟩, .inr hwaiting⟩
  · rintro ⟨⟨⟨hfits, hnodup, hapart, hrests⟩, hfull⟩, hissued⟩
    refine ⟨⟨⟨⟨hfits, hnodup⟩, hapart⟩, .inr ⟨hissued, hfull⟩⟩, ?_⟩
    exact hrests.imp_right fun ⟨hwaiting, hflight, hdeferred⟩ => ⟨⟨hwaiting, hdeferred⟩, hflight⟩

/-- The queue is packed of a store with the same entries and deferred marks that makes writes if the other does. -/
theorem Store.Packed.congr (h : t.Packed) (hwaiting : u.waiting = t.waiting)
    (hdeferred : ∀ q, (u.page q).deferred = (t.page q).deferred) (hwrites : t.writing = true → u.writing = true)
    (hflight : t.inFlight = none → u.inFlight = none) : u.Packed where
  fits := hwaiting ▸ h.fits
  nodup := hwaiting ▸ h.nodup
  apart e he := by
    rw [hdeferred]
    exact h.apart e (hwaiting ▸ he)
  rests := h.rests.imp hwrites fun ⟨hw, hi, hd⟩ => ⟨hwaiting.trans hw, hflight hi, fun q => (hdeferred q).trans (hd q)⟩
  full := by
    rw [hwaiting]
    exact h.full.imp_right fun hd q => (hdeferred q).trans (hd q)

/-- A store that holds no waiting entry, no deferred page and no write in flight. -/
theorem packed_of_empty (hwaiting : t.waiting = []) (hflight : t.inFlight = none)
    (hdeferred : ∀ q, (t.page q).deferred = false) : t.Packed where
  fits := by simp [hwaiting]
  nodup := by simp [hwaiting]
  apart := by simp [hwaiting]
  rests := .inr ⟨hwaiting, hflight, hdeferred⟩
  full := .inr hdeferred

/-- R169: a page joins at the end of the queue: it waits already nowhere, and is deferred no longer. -/
theorem Store.Tidy.append (h : t.Tidy) (hwrites : u.writing = true) {e : WriteEntry}
    (hwaiting : u.waiting = t.waiting ++ [e]) (hroom : t.waiting.length < Config.writeCapacity)
    (hnew : ∀ x ∈ t.waiting, x.page ≠ e.page) (hfree : (u.page e.page).deferred = false)
    (hother : ∀ q, q ≠ e.page → u.page q = t.page q) : u.Tidy where
  fits := by
    rw [hwaiting, List.length_append, List.length_singleton]
    exact hroom
  nodup := by
    rw [hwaiting, List.map_append, List.map_singleton, ← List.concat_eq_append, List.nodup_concat]
    exact ⟨by simpa using hnew, h.nodup⟩
  apart x hx := by
    rw [hwaiting, List.mem_append, List.mem_singleton] at hx
    rcases hx with hx | rfl
    · rw [hother _ (hnew x hx)]
      exact h.apart x hx
    · exact hfree
  rests := .inl hwrites

/-- R169: asking for a write keeps the queue packed. -/
theorem askWrite_packed (h : t.Packed) (p : PageIx) (content : List Byte) : (t.askWrite p content).Packed := by
  unfold Store.askWrite
  split
  · exact h
  · next hwriting =>
    have hwrites : t.writing = true := by simpa using hwriting
    split
    · have hpages (f : WriteEntry → WriteEntry) (hf : ∀ e, (f e).page = e.page) :
          (t.waiting.map f).map WriteEntry.page = t.waiting.map WriteEntry.page := by
        simp [List.map_map, Function.comp_def, hf]
      refine ⟨⟨by simpa using h.fits, ?_, fun e he => ?_, .inl hwrites⟩, h.full.imp_left (by simp)⟩
      · rw [hpages _ fun e => by split <;> rfl]
        exact h.nodup
      · obtain ⟨x, hx, rfl⟩ := List.mem_map.mp he
        have hpage : (if x.page == p then { x with snapshot := content, tags := joinTags x.tags (t.tagsOf p) }
          else x).page = x.page := by split <;> rfl
        rw [hpage]
        exact h.apart x hx
    · next hany =>
      have hnew (e : WriteEntry) (he : e ∈ t.waiting) : e.page ≠ p := fun hp =>
        hany (List.any_eq_true.mpr ⟨e, he, by simpa using hp⟩)
      split
      · next hroom =>
        have hdeferred := h.full.resolve_left (Nat.not_le.mpr hroom)
        exact ⟨h.toTidy.append hwrites rfl hroom hnew (hdeferred p) fun _ _ => rfl, .inr hdeferred⟩
      · next hroom =>
        refine ⟨⟨h.fits, h.nodup, fun e he => ?_, .inl hwrites⟩, .inl (Nat.not_lt.mp hroom)⟩
        rw [page_modPage_other t _ (hnew e he)]
        exact h.apart e he

/-! ### The work of the Store Controller at the end of a step -/

theorem deferred_of_lowestDeferred {p : PageIx} (h : t.lowestDeferred = some p) : (t.page p).deferred = true := by
  obtain ⟨⟨q, m⟩, hfound, rfl⟩ := Option.map_eq_some_iff.mp h
  obtain ⟨k, hk, hget⟩ := List.mem_iff_getElem.mp (List.mem_of_find?_eq_some hfound)
  have hpage : t.page q = m := by
    simp only [List.getElem_zip, allPages, List.getElem_finRange, Prod.mk.injEq] at hget
    obtain ⟨rfl, rfl⟩ := hget
    simp [Store.page]
  have hfree := List.find?_some hfound
  rwa [← hpage] at hfree

/-- R169: the store once a deferred page has taken a place of the queue. -/
def Store.seat (t : Store) (p : PageIx) (content : List Byte) : Store :=
  { t.modPage p (fun m => { m with deferred := false, deferredTags := [] }) with
    waiting := t.waiting ++ [{ page := p, snapshot := content, tags := (t.page p).deferredTags }] }

theorem deferred_seat_same (t : Store) (p : PageIx) (content : List Byte) :
    ((t.seat p content).page p).deferred = false :=
  congrArg PageMarks.deferred (page_modPage_same t p fun m => { m with deferred := false, deferredTags := [] })

theorem page_seat_other (t : Store) {p q : PageIx} (content : List Byte) (h : q ≠ p) :
    (t.seat p content).page q = t.page q :=
  page_modPage_other t (fun m => { m with deferred := false, deferredTags := [] }) h

/-- R169: a page takes a place where writes are made, a place is free and the page is deferred. -/
theorem fillPlace_some (h : fillPlace s = some v) : s.store.writing = true
    ∧ s.store.waiting.length < Config.writeCapacity
    ∧ ∃ p, (s.store.page p).deferred = true ∧ v = s.modStore fun t => t.seat p (pageBody s p) := by
  unfold fillPlace at h
  split at h
  · next hroom =>
    rw [Bool.and_eq_true, decide_eq_true_eq] at hroom
    obtain ⟨p, hp, rfl⟩ := Option.map_eq_some_iff.mp h
    exact ⟨hroom.1, hroom.2, p, deferred_of_lowestDeferred hp, rfl⟩
  · cases h

/-- R169: no page takes a place where the queue is full or no page is deferred. -/
theorem full_of_fillPlace (h : s.store.Tidy) (hnone : fillPlace s = none) :
    Config.writeCapacity ≤ s.store.waiting.length ∨ ∀ q, (s.store.page q).deferred = false := by
  rcases h.rests with hwrites | ⟨-, -, hdeferred⟩
  · unfold fillPlace at hnone
    split at hnone
    · exact .inr ((lowestDeferred_none _).mp (Option.map_eq_none_iff.mp hnone))
    · next hroom => exact .inl (by simpa [hwrites] using hroom)
  · exact .inr hdeferred

theorem fillPlace_tidy (h : s.store.Tidy) (hfill : fillPlace s = some v) :
    v.store.Tidy ∧ v.store.waiting.length = s.store.waiting.length + 1 := by
  obtain ⟨hwrites, hroom, p, hp, rfl⟩ := fillPlace_some hfill
  have hnew (x : WriteEntry) (hx : x ∈ s.store.waiting) : x.page ≠ p := fun hpage =>
    Bool.false_ne_true ((h.apart x hx).symm.trans (hpage ▸ hp))
  exact ⟨h.append hwrites rfl hroom hnew (deferred_seat_same ..) fun q hq => page_seat_other s.store _ hq,
    List.length_append⟩

/-- R169: once the places are filled, pages are deferred for want of a place alone. -/
theorem fillPlaces_packed (n : Nat) (h : s.store.Tidy) (hn : Config.writeCapacity ≤ s.store.waiting.length + n) :
    (fillPlaces n s).store.Packed := by
  induction n generalizing s with
  | zero => exact ⟨h, .inl hn⟩
  | succ n ih =>
    unfold fillPlaces
    split
    · next hnone => exact ⟨h, full_of_fillPlace h hnone⟩
    · next v hv =>
      obtain ⟨htidy, hlength⟩ := fillPlace_tidy h hv
      exact ih htidy (by omega)

theorem issue_of_nil (h : t.waiting = []) : t.issue = t := by
  unfold Store.issue
  split
  · rfl
  · simp only [h]

/-- R170: the issue of the oldest entry keeps the queue tidy, and leaves a write in flight or nothing to do. -/
theorem issue_tidy (h : t.Packed) :
    t.issue.Tidy ∧ (t.issue.inFlight.isSome = true ∨ (t.issue.waiting = [] ∧ ∀ q, (t.issue.page q).deferred = false)) := by
  cases hflight : t.inFlight with
  | some w =>
    rw [issue_flying (by simp [hflight]), hflight]
    exact ⟨h.toTidy, .inl rfl⟩
  | none =>
    cases hwaiting : t.waiting with
    | nil =>
      rw [issue_of_nil hwaiting]
      exact ⟨h.toTidy, .inr ⟨hwaiting, h.full.resolve_left (by simp [hwaiting, Config.writeCapacity])⟩⟩
    | cons e rest =>
      have hwrites := h.rests.resolve_right fun ⟨hnil, _⟩ => List.cons_ne_nil e rest (hwaiting.symm.trans hnil)
      have hissue := issue_cons hwrites hflight hwaiting
      have hmarks := issue_deferred t
      have hfits := hwaiting ▸ h.fits
      have hnodup := hwaiting ▸ h.nodup
      rw [hissue] at hmarks ⊢
      refine ⟨⟨(Nat.le_succ _).trans hfits, (List.nodup_cons.mp hnodup).2, fun x hx => ?_, .inl hwrites⟩, .inl rfl⟩
      rw [hmarks]
      exact h.apart x (hwaiting ▸ List.mem_cons_of_mem e hx)

/-- R169, R170: from a tidy queue the Store Controller leaves nothing that it could still issue or seat. -/
theorem pumpStore_sound (h : s.store.Tidy) : (pumpStore s).store.sound = true := by
  rw [sound_iff_packed, pumpStore]
  set v := (fillPlaces Config.writeCapacity s).modStore Store.issue
  obtain ⟨htidy, hissued⟩ := issue_tidy (fillPlaces_packed Config.writeCapacity h (Nat.le_add_left _ _))
  refine ⟨fillPlaces_packed Config.writeCapacity (s := v) htidy (Nat.le_add_left _ _), ?_⟩
  rcases hissued with hsome | ⟨hwaiting, hdeferred⟩
  · rw [(fillPlaces_holds Config.writeCapacity v).inFlight]
    exact .inl hsome
  · rw [fillPlaces_undeferred (s := v) _ hdeferred]
    exact .inr hwaiting

end

end Sys2Proof.Machine

namespace Sys2Proof.Machine

/-! ## What keeps the write queue packed (R169) -/

/-- Between two states of a step the write queue stays packed. -/
def Packs (s t : State) : Prop := s.store.Packed → t.store.Packed

theorem Packs.refl (s : State) : Packs s s := id

theorem Packs.trans {s t u : State} (h : Packs s t) (k : Packs t u) : Packs s u := k ∘ h

theorem Packs.ite {s t u : State} {c : Prop} [Decidable c] (ht : Packs s t) (hu : Packs s u) :
    Packs s (if c then t else u) := by
  split <;> assumption

theorem Packs.foldl {α : Type} {f : State → α → State} (h : ∀ s x, Packs s (f s x)) (l : List α) (s : State) :
    Packs s (l.foldl f s) := by
  induction l generalizing s with
  | nil => exact .refl s
  | cons x xs ih => exact (h s x).trans (ih _)

theorem Packs.forSlots {f : SlotIx → State → State} (h : ∀ i s, Packs s (f i s)) (is : List SlotIx) (s : State) :
    Packs s (s.forSlots is f) :=
  .foldl (fun s i => h i s) is s

theorem Packs.ofStore {s t : State} (h : t.store = s.store) : Packs s t := fun hs => h ▸ hs

/-- A change of the store that keeps its entries, its deferred marks and its right to write. -/
theorem modStore_packs {f : Store → Store} {s : State} (hwaiting : (f s.store).waiting = s.store.waiting)
    (hdeferred : ∀ q, ((f s.store).page q).deferred = (s.store.page q).deferred)
    (hwrites : s.store.writing = true → (f s.store).writing = true)
    (hflight : s.store.inFlight = none → (f s.store).inFlight = none) : Packs s (s.modStore f) :=
  fun h => h.congr hwaiting hdeferred hwrites hflight

/-- Groups are no part of the write queue. -/
theorem modGroups_packs (f : Store → List GroupRecord) (s : State) :
    Packs s (s.modStore fun u => { u with groups := f u }) :=
  modStore_packs rfl (fun _ => rfl) id id

theorem modSeg_packs (g : SegId) (f : Segment → Segment) (s : State) : Packs s (s.modSeg g f) :=
  .ofStore (modSeg_store s g f)

theorem modSlot_packs (i : SlotIx) (f : Slot → Slot) (s : State) : Packs s (s.modSlot i f) := .ofStore rfl

theorem modPort_packs (p : PortId) (f : Port → Port) (s : State) : Packs s (s.modPort p f) :=
  .ofStore (modPort_store s p f)

theorem queue_packs (q : List DeliveryEntry) (s : State) : Packs s { s with queue := q } := .ofStore rfl

/-! ### Pages, rosters and answers -/

theorem enqueuePage_packs (p : PageIx) (s : State) : Packs s (enqueuePage p s) := fun h => askWrite_packed h p _

theorem enqueuePages_packs (ps : List PageIx) (s : State) : Packs s (enqueuePages ps s) :=
  .foldl (fun s p => enqueuePage_packs p s) ps s

/-- A slot changes and one of its pages is asked for. -/
theorem modSlot_enqueuePage_packs (p : PageIx) (i : SlotIx) (f : Slot → Slot) (s : State) :
    Packs s (enqueuePage p (s.modSlot i f)) :=
  (modSlot_packs i f s).trans (enqueuePage_packs p _)

theorem putRoster_packs (n : Fin 17) (r : FaultRoster) (s : State) : Packs s (putRoster n r s) := by
  unfold putRoster
  split
  · exact .ofStore rfl
  · exact .ite (.refl s) (modSlot_enqueuePage_packs _ _ _ s)

theorem enterFault_packs (n : Fin 17) (k : FaultKey) (origin : Origin) (kind : EntryKind) (s : State) :
    Packs s (enterFault n k origin kind s) := by
  have hput := putRoster_packs n ((s.roster n).enter k origin kind s.now).1 s
  exact .ite (hput.trans (.ofStore (offerEntry_store ..))) hput

theorem openCondition_packs (n : Fin 17) (k : FaultKey) (s : State) : Packs s (openCondition n k s) :=
  enterFault_packs n k _ _ s

theorem eventFault_packs (n : Fin 17) (k : FaultKey) (s : State) : Packs s (eventFault n k s) :=
  enterFault_packs n k _ _ s

theorem endCondition_packs (n : Fin 17) (k : FaultKey) (s : State) : Packs s (endCondition n k s) :=
  putRoster_packs n _ s

theorem answer_packs (p : PortId) (status : Status) (body : List Byte) (s : State) : Packs s (answer p status body s) :=
  modPort_packs p _ s

theorem answerTo_packs (p : Option PortId) (status : Status) (body : List Byte) (s : State) :
    Packs s (answerTo p status body s) :=
  .ofStore (answerTo_store p status body s)

theorem clearReservations_packs (i : SlotIx) (s : State) : Packs s (clearReservations i s) :=
  .ofStore (clearReservations_store i s)

theorem garbleRise_packs (g : SegId) (s : State) : Packs s (garbleRise g s) :=
  .ite (modSeg_packs g _ s) (.ite (.refl s) ((modSeg_packs g _ s).trans (openCondition_packs 0 _ _)))

theorem garbleFall_packs (g : SegId) (s : State) : Packs s (garbleFall g s) :=
  .ite ((modSeg_packs g _ s).trans ((modSeg_packs g _ _).trans (endCondition_packs 0 _ _))) (modSeg_packs g _ s)

theorem garbleReset_packs (g : SegId) (s : State) : Packs s (garbleReset g s) :=
  (modSeg_packs g _ s).trans (endCondition_packs 0 _ _)

/-! ### Outcomes, images and the fold -/

theorem dropOutcome_packs (i : SlotIx) (s : State) : Packs s (dropOutcome i s) :=
  .ite (.refl s) (modSlot_enqueuePage_packs _ i _ s)

theorem settleOutcome_packs (i : SlotIx) (s : State) : Packs s (settleOutcome i s) := by
  unfold settleOutcome
  dsimp only
  split
  · exact .refl s
  · exact .ite (dropOutcome_packs i s) (.refl s)

theorem resetWindow_packs (i : SlotIx) (s : State) : Packs s (resetWindow i s) := modSlot_enqueuePage_packs _ i _ s

/-- R146, R148: the pending outcome goes and the window restarts. -/
theorem dropOutcome_resetWindow_packs (i : SlotIx) (s : State) : Packs s (resetWindow i (dropOutcome i s)) :=
  (dropOutcome_packs i s).trans (resetWindow_packs i _)

theorem applyOutcome_packs (i : SlotIx) (level : Nat) (s : State) : Packs s (applyOutcome i level s) := by
  unfold applyOutcome
  exact (modSlot_packs i _ s).trans ((queue_packs _ _).trans ((clearReservations_packs i _).trans
    (enqueuePage_packs _ _)))

theorem offerOutcome_packs (i : SlotIx) (s : State) : Packs s (offerOutcome i s) := by
  unfold offerOutcome
  dsimp only
  split
  · exact .refl s
  · exact .ite (dropOutcome_packs i s) (.ite (applyOutcome_packs i _ s) (.refl s))

theorem unreadImages_packs (i : SlotIx) (s : State) : Packs s (unreadImages i s) := by
  unfold unreadImages
  exact (modSlot_packs i _ s).trans ((queue_packs _ _).trans ((clearReservations_packs i _).trans
    (enqueuePage_packs _ _)))

theorem followActive_packs (i : SlotIx) (s : State) : Packs s (followActive i s) := .ofStore followActive_store

theorem withdrawEntry_packs (i : SlotIx) (port : Option PortId) (s : State) : Packs s (withdrawEntry i port s) := by
  unfold withdrawEntry
  split
  · exact .refl s
  · exact (modSlot_packs i _ s).trans ((queue_packs _ _).trans (answerTo_packs port _ _ _))

theorem returnToQueue_packs (g : SegId) (i : SlotIx) (s : State) : Packs s (returnToQueue g i s) := by
  obtain ⟨-, -, -, -, hstore⟩ := returnToQueue_facts g i s
  exact .ofStore hstore

theorem suspendDelivery_packs (g : SegId) (s : State) : Packs s (suspendDelivery g s) :=
  .ofStore (suspendDelivery_store g s)

theorem endFold_packs (i : SlotIx) (b' : Book) (s : State) : Packs s (endFold i b' s) := by
  have hslot := modSlot_packs i (fun x => { x with book := b' }) s
  have hbook := Packs.ite (c := bookPageChanged (s.slot i).book b' = true)
    (hslot.trans (enqueuePage_packs (bookPage i) _)) hslot
  exact .ite hbook (hbook.trans (enqueuePage_packs _ _))

theorem windowFeed_packs (i : SlotIx) (amounts : Vector Nat 24) (s : State) : Packs s (windowFeed i amounts s) :=
  .ite (.refl s) (modSlot_enqueuePage_packs _ i _ s)

theorem takeOutcome_packs (i : SlotIx) (base level : Nat) (s : State) : Packs s (takeOutcome i base level s) :=
  .ite (.refl s) (.ite (dropOutcome_packs i s) ((modSlot_enqueuePage_packs _ i _ s).trans (offerOutcome_packs i _)))

theorem windowTest_packs (i : SlotIx) (s : State) : Packs s (windowTest i s) :=
  .ite ((resetWindow_packs i s).trans (takeOutcome_packs i _ _ _)) (.refl s)

theorem takeReport_packs (i : SlotIx) (role : FoldRole) (report : MeterReport) (s : State) :
    Packs s (takeReport i role report s) := by
  unfold takeReport
  dsimp only
  have hgaps (l : List (Fin 24)) := Packs.foldl (fun u (m : Fin 24) =>
    eventFault_packs (rosterOfSlot i) (keyDiscontinuity m.val) u) l s
  exact (hgaps _).trans ((endFold_packs i _ _).trans ((windowFeed_packs i _ _).trans
    ((windowTest_packs i _).trans (modSlot_packs i _ _))))

/-! ### Closes (R83 to R95) -/

theorem finishClose_packs (i : SlotIx) (stored : Bool) (s : State) : Packs s (finishClose i stored s) := by
  obtain ⟨_, _, _, h⟩ := (finishClose_reported i stored s).rest
  exact .ofStore (by rw [h])

theorem settleGroups_packs (s : State) : Packs s (settleGroups s) := by
  obtain ⟨_, _, _, h⟩ := (settleGroups_reported s).rest
  exact (modGroups_packs (fun u => u.groups.filter u.carriesTag) s).trans (.ofStore (by rw [h]))

theorem closeNow_packs (i : SlotIx) (final : Bool) (port : Option PortId) (ofAll : Bool) (s : State) :
    Packs s (closeNow i final port ofAll s) :=
  .ite ((modSlot_packs i _ s).trans ((modGroups_packs _ _).trans (enqueuePages_packs _ _)))
    ((modSlot_packs i _ s).trans (finishClose_packs i _ _))

theorem endPolling_packs (i : SlotIx) (final : Bool) (s : State) : Packs s (endPolling i final s) := by
  unfold endPolling
  split
  · exact closeNow_packs i final _ _ s
  · exact .refl s
  · exact .refl s

theorem startClose_packs (i : SlotIx) (port : PortId) (ofAll : Bool) (s : State) : Packs s (startClose i port ofAll s) :=
  .ite (modSlot_packs i _ s) (closeNow_packs i _ _ _ s)

theorem closeAll_packs (p : PortId) (s : State) : Packs s (closeAll p s) := by
  unfold closeAll
  exact (modPort_packs p _ s).trans ((Packs.forSlots (fun i s => startClose_packs i p true s) _ _).trans
    (.ofStore (settleCloseAll_store ..)))

/-! ### The Table Roster (R45 to R56) -/

theorem leaveService_packs (i : SlotIx) (s : State) : Packs s (leaveService i s) := by
  rw [leaveService_eq]
  exact (Packs.ite (suspendDelivery_packs _ s) (.refl s)).trans
    ((modSlot_packs i Slot.withReadbackReset _).trans (endPolling_packs i false _))

theorem absentBySilence_packs (i : SlotIx) (s : State) : Packs s (absentBySilence i s) := by
  have hslot := modSlot_packs i (fun x => { x.nowAbsent with due := { x.due with probe := 0 } }) s
  have hnotice : Packs s (presenceAlert i 1 (if (s.slot i).table = .caution then
      endCondition (rosterOfSlot i) keyCaution _ else _)) :=
    (Packs.ite (hslot.trans (endCondition_packs _ _ _)) hslot).trans (.ofStore (presenceAlert_store ..))
  exact .ite (hnotice.trans (leaveService_packs i _)) hnotice

theorem isolate_packs (i : SlotIx) (score : Nat) (s : State) : Packs s (isolate i score s) := by
  unfold isolate
  exact (modSlot_packs i _ s).trans ((endCondition_packs _ _ _).trans ((openCondition_packs _ _ _).trans
    (leaveService_packs i _)))

theorem absentByRequest_packs (i : SlotIx) (s : State) : Packs s (absentByRequest i s) := by
  have hslot := modSlot_packs i (fun x => { x.nowAbsent with
    due := { x.due with probe := Config.timerCeiling, more := false } }) s
  exact (Packs.ite (hslot.trans (endCondition_packs _ _ _)) hslot).trans (leaveService_packs i _)

theorem linkScore_packs (i : SlotIx) (o : ExOutcome) (s : State) : Packs s (linkScore i o s) := by
  have hscore := modSlot_packs i (fun x => { x with
    score := nextScore (s.slot i).score o, silent := nextSilent (s.slot i).silent o }) s
  exact .ite (absentBySilence_packs i s) (.ite (isolate_packs i _ s)
    (.ite (hscore.trans ((modSlot_packs i _ _).trans (openCondition_packs _ _ _)))
      (.ite (hscore.trans ((modSlot_packs i _ _).trans (endCondition_packs _ _ _))) hscore)))

theorem rosterTakes_packs (i : SlotIx) (o : ExOutcome) (s : State) : Packs s (rosterTakes i o s) := by
  have hgame : Packs s (gameTaken i o s) := .ofStore (gameTaken_store i o s)
  rw [rosterTakes_eq]
  exact .ite (hgame.trans (linkScore_packs i o _)) hgame

theorem takeProbe_packs (i : SlotIx) (o : ExOutcome) (usable : Bool) (s : State) :
    Packs s (takeProbe i o usable s) := by
  have hprobe := modSlot_packs i (fun x => { x with due := { x.due with probe := 0 } }) s
  have hslot (f : Slot → Slot) := hprobe.trans (modSlot_packs i f _)
  unfold takeProbe
  dsimp only
  split
  · exact .ite (hslot _) hprobe
  · exact .ite (.ite (hslot _) (hslot _)) (hslot _)
  · exact hslot _
  · exact hslot _
  · exact .ite (hslot _) (hprobe.trans (absentBySilence_packs i _))
  · exact hprobe

theorem checkModel_packs (i : SlotIx) (model : Nat) (s : State) : Packs s (checkModel i model s) := by
  have hchange : Packs s (changeModel i model s) :=
    (modSlot_enqueuePage_packs _ i _ s).trans ((eventFault_packs _ _ _).trans ((unreadImages_packs i _).trans
      ((dropOutcome_resetWindow_packs i _).trans (modSlot_enqueuePage_packs _ i _ _))))
  exact .ite (.refl s) (.ite (modSlot_enqueuePage_packs _ i _ s) hchange)

theorem storeIdentity_packs (i : SlotIx) (r : Identity) (s : State) : Packs s (storeIdentity i r s) := by
  have hrecord := modSlot_packs i (fun x => { x with identity := some r }) s
  unfold storeIdentity
  dsimp only
  refine Packs.trans ?_ (settleOutcome_packs i _)
  split
  · exact hrecord
  · exact .ite hrecord (hrecord.trans (modSlot_enqueuePage_packs _ i _ _))

theorem enterOutOfRange_packs (i : SlotIx) (items : List Nat) (s : State) : Packs s (enterOutOfRange i items s) :=
  .foldl (fun s k => eventFault_packs _ (keyOutOfRange k) s) items s

theorem checkDraft_packs (i : SlotIx) (r : Identity) (s : State) : Packs s (checkDraft i r s) := by
  unfold checkDraft
  dsimp only
  split
  · exact .refl s
  · split
    · exact .ofStore rfl
    · exact .ofStore rfl
    · exact .refl s
    · exact .refl s

theorem checkSettings_packs (i : SlotIx) (r : Identity) (s : State) : Packs s (checkSettings i r s) := by
  have hunread := (unreadImages_packs i s).trans (dropOutcome_packs i _)
  unfold checkSettings
  split
  · exact .refl s
  · exact .ite hunread (.ite (checkDraft_packs i r s) (hunread.trans (enterOutOfRange_packs i _ _)))

theorem takeIdentity_packs (i : SlotIx) (r : Identity) (s : State) : Packs s (takeIdentity i r s) := by
  unfold takeIdentity
  exact (checkModel_packs i r.model s).trans ((storeIdentity_packs i r _).trans ((checkSettings_packs i r _).trans
    (modSlot_packs i _ _)))

theorem endJoinReadback_packs (i : SlotIx) (r : Identity) (values : List Nat) (s : State) :
    Packs s (endJoinReadback i r values s) := by
  unfold endJoinReadback
  exact (enterOutOfRange_packs i _ s).trans ((modSlot_enqueuePage_packs _ i _ _).trans ((followActive_packs i _).trans
    (modSlot_packs i _ _)))

theorem takeJoinReadback_packs (i : SlotIx) (values : List Nat) (s : State) :
    Packs s (takeJoinReadback i values s) := by
  unfold takeJoinReadback
  split
  · exact .ite (modSlot_packs i _ s) (.ite (endJoinReadback_packs i _ _ s) (modSlot_packs i _ s))
  · exact .refl s

theorem completeJoin_packs (i : SlotIx) (s : State) : Packs s (completeJoin i s) :=
  (modSlot_packs i _ s).trans ((endCondition_packs _ _ _).trans (.ofStore (presenceAlert_store ..)))

theorem takeJoinFailure_packs (i : SlotIx) (o : ExOutcome) (s : State) : Packs s (takeJoinFailure i o s) := by
  cases o with
  | refused _ => exact .refl s
  | silent => exact modSlot_packs i _ s
  | garbled => exact modSlot_packs i _ s
  | good _ _ => exact modSlot_packs i _ s

/-! ### Deliveries and readbacks (R112 to R134) -/

theorem confirmDelivery_packs (g : SegId) (i : SlotIx) (s : State) : Packs s (confirmDelivery g i s) := by
  have hleft (f : Slot → Slot) : Packs s (removeEntry i (enqueuePage (settingsPage i) (s.modSlot i f))) :=
    (modSlot_enqueuePage_packs (settingsPage i) i f s).trans (queue_packs _ _)
  unfold confirmDelivery
  refine Packs.trans ?_ ((modSeg_packs g _ _).trans (offerOutcome_packs i _))
  split
  · exact hleft _
  · exact .ite ((hleft _).trans (answerTo_packs _ _ _ _)) (hleft _)

theorem diverge_packs (g : SegId) (i : SlotIx) (e : DeliveryEntry) (s : State) : Packs s (diverge g i e s) := by
  have hfault : Packs s (eventFault (rosterOfSlot i) keyNotTaken (setDraftState i .edited (removeEntry i s))) :=
    (queue_packs _ s).trans ((modSlot_packs i _ _).trans (eventFault_packs _ _ _))
  have halert (a : Alert) := hfault.trans (.ofStore (queueAlert_store a _))
  rw [diverge_eq]
  exact (Packs.ite ((halert _).trans (answerTo_packs _ _ _ _)) (halert _)).trans (modSeg_packs g _ _)

theorem mismatch_packs (g : SegId) (i : SlotIx) (s : State) : Packs s (mismatch g i s) := by
  unfold mismatch
  split
  · exact .refl s
  · exact .ite ((queue_packs _ s).trans (returnToQueue_packs g i _)) (diverge_packs g i _ s)

theorem takeDeliveryWord_packs (g : SegId) (i : SlotIx) (q : BitVec 4) (reply : Nat) (s : State) :
    Packs s (takeDeliveryWord g i q reply s) :=
  .ite ((modSlot_packs i _ s).trans (confirmDelivery_packs g i _)) ((modSlot_packs i _ s).trans (mismatch_packs g i _))

theorem takeItemAck_packs (g : SegId) (i : SlotIx) (k n : Nat) (gs : GameState) (s : State) :
    Packs s (takeItemAck g i k n gs s) := by
  have hmark := Packs.ite (c := 1 ≤ n) (modSlot_packs i (fun x => { x with localCheck := true }) s) (.refl s)
  have hack (f : Segment → Segment) := hmark.trans (modSeg_packs g f _)
  exact .ite (hack _) ((hack _).trans (suspendDelivery_packs g _))

theorem takeItemFrame_packs (g : SegId) (i : SlotIx) (k : Nat) (o : ExOutcome) (s : State) :
    Packs s (takeItemFrame g i k o s) := by
  unfold takeItemFrame
  split
  · exact takeItemAck_packs g i k _ _ s
  · exact suspendDelivery_packs g s

theorem enterLocalChange_packs (i : SlotIx) (items : List Nat) (s : State) : Packs s (enterLocalChange i items s) :=
  .ite (eventFault_packs _ _ s) (.foldl (fun s k => eventFault_packs _ (keyLocalChange (some k)) s) items s)

theorem endLocalReadback_packs (i : SlotIx) (r : Identity) (values : List Nat) (s : State) :
    Packs s (endLocalReadback i r values s) := by
  have htaken (f : Slot → Slot) (items : List Nat) :=
    (enterOutOfRange_packs i (itemsOutside r.ranges values) s).trans
      ((modSlot_enqueuePage_packs (settingsPage i) i f _).trans ((enterLocalChange_packs i items _).trans
        (followActive_packs i _)))
  exact .ite ((htaken _ _).trans (dropOutcome_resetWindow_packs i _)) (htaken _ _)

theorem takeLocalReadback_packs (i : SlotIx) (start : Nat) (values : List Nat) (s : State) :
    Packs s (takeLocalReadback i start values s) := by
  unfold takeLocalReadback
  split
  · exact .ite (.refl s) (.ite (endLocalReadback_packs i _ _ s) (modSlot_packs i _ s))
  · exact .refl s

end Sys2Proof.Machine

namespace Sys2Proof.Machine

/-! ## The events of a segment keep the queue packed -/

theorem takeMeterReport_packs (i : SlotIx) (asker : Asker) (r : MeterReport) (s : State) :
    Packs s (takeMeterReport i asker r s) := by
  unfold takeMeterReport
  split
  · exact (takeReport_packs i _ r s).trans (completeJoin_packs i _)
  · exact (takeReport_packs i _ r s).trans (endPolling_packs i _ _)
  · exact takeReport_packs i _ r s

theorem takeFaultReport_packs (i : SlotIx) (r : FaultReport) (s : State) : Packs s (takeFaultReport i r s) := by
  have hchange (u : State) (c : FaultChange) : Packs u (takeFaultChange i c u) :=
    .ite (.refl u) (.ite (enterFault_packs _ _ _ _ u) (putRoster_packs _ _ u))
  unfold takeFaultReport
  exact (Packs.foldl hchange r.changes s).trans (modSlot_packs i _ _)

theorem takeFaultPollFailure_packs (i : SlotIx) (o : ExOutcome) (s : State) :
    Packs s (takeFaultPollFailure i o s) := by
  cases o with
  | refused _ => exact .refl s
  | silent => exact modSlot_packs i _ s
  | garbled => exact modSlot_packs i _ s
  | good _ _ => exact modSlot_packs i _ s

/-- R8, R20: an outcome that the asking block takes. -/
theorem askerTakes_packs (g : SegId) (x : Exchange) (o : ExOutcome) (s : State) : Packs s (askerTakes g x o s) := by
  unfold askerTakes
  dsimp only
  split
  · exact takeProbe_packs _ o _ s
  · split
    · exact takeIdentity_packs _ _ s
    · exact takeJoinFailure_packs _ o s
  · split
    · exact takeMeterReport_packs _ _ _ s
    · exact .ite (takeJoinFailure_packs _ o s) (.refl s)
  · split
    · exact takeFaultReport_packs _ _ s
    · exact takeFaultPollFailure_packs _ o s
  · exact takeItemFrame_packs g _ _ o s
  · split
    · exact .ite (takeDeliveryWord_packs g _ _ _ s) (modSlot_packs _ _ s)
    · exact .ite (suspendDelivery_packs g s) (.refl s)
  · split
    · exact .ite (takeJoinReadback_packs _ _ s) (takeLocalReadback_packs _ _ _ s)
    · exact .ite (takeJoinFailure_packs _ o s) (.refl s)

theorem garbleTakes_packs (g : SegId) (o : ExOutcome) (s : State) : Packs s (garbleTakes g o s) := by
  cases o with
  | silent => exact .refl s
  | garbled => exact garbleRise_packs g s
  | refused _ => exact garbleFall_packs g s
  | good _ _ => exact garbleFall_packs g s

theorem haltNow_packs (g : SegId) (s : State) : Packs s (haltNow g s) := by
  unfold haltNow
  exact (modSeg_packs g _ s).trans ((suspendDelivery_packs g _).trans (.foldl (fun u p => answer_packs p _ _ u) _ _))

theorem faultNow_packs (g : SegId) (s : State) : Packs s (faultNow g s) := .ofStore (faultNow_faults g s).store

theorem choose_packs (g : SegId) (s : State) : Packs s (choose g s) := .ofStore (choose_store g s)

theorem chooseBoth_packs (s : State) : Packs s (chooseBoth s) := .ofStore (chooseBoth_store s)

theorem enterStarting_packs (g : SegId) (s : State) : Packs s (enterStarting g s) :=
  .ofStore (enterStarting_facts g s).2.1

/-- R8, R15, R30: the end of an exchange. -/
theorem endExchange_packs (g : SegId) (o : ExOutcome) (s : State) : Packs s (endExchange g o s) := by
  rw [endExchange_eq]
  split
  · exact .refl s
  · next x _ =>
    have hhanded : Packs s (handOn g x o (cleared g s)) := (modSeg_packs g _ s).trans
      ((rosterTakes_packs x.slot o _).trans ((askerTakes_packs g x o _).trans (garbleTakes_packs g o _)))
    exact .ite (hhanded.trans (haltNow_packs g _)) (hhanded.trans (choose_packs g _))

theorem modExchange_packs (g : SegId) (f : Exchange → Exchange) (s : State) : Packs s (modExchange g f s) :=
  modSeg_packs g _ s

theorem transmitFrame_packs (g : SegId) (s : State) : Packs s (transmitFrame g s) :=
  .ite ((modExchange_packs g _ s).trans (modSeg_packs g _ _)) (.refl s)

theorem guardEnd_packs (g : SegId) (s : State) : Packs s (guardEnd g s) := by
  unfold guardEnd
  split
  · exact (modExchange_packs g _ s).trans (modSeg_packs g _ _)
  · exact modSeg_packs g _ s
  · exact .refl s

theorem collision_packs (g : SegId) (cause : CollisionCause) (s : State) : Packs s (collision g cause s) := by
  unfold collision
  split
  · exact .refl s
  · exact .ite ((modSeg_packs g _ s).trans (modExchange_packs g _ _)) (.refl s)

theorem takeAnswerCharacter_packs (g : SegId) (c : LineChar) (s : State) : Packs s (takeAnswerCharacter g c s) := by
  unfold takeAnswerCharacter
  split
  · exact .refl s
  · refine .ite ?_ (.refl s)
    split
    · exact modExchange_packs g _ s
    · exact modExchange_packs g _ s
    · exact endExchange_packs g _ s

theorem answerComplete_packs (g : SegId) (gs : GameState) (status : AnswerStatus) (rest : List Byte) (s : State) :
    Packs s (answerComplete g gs status rest s) := by
  unfold answerComplete
  split
  · exact .refl s
  · exact .ite (endExchange_packs g _ s) (.refl s)

theorem lineFaultAsserted_packs (g : SegId) (kind : LineFaultKind) (s : State) :
    Packs s (lineFaultAsserted g kind s) := by
  have hinput : Packs s (setInput g kind true s) := modSeg_packs g _ s
  have hopen := hinput.trans (openCondition_packs 0 (keyLine g kind) _)
  unfold lineFaultAsserted
  refine .ite (.refl s) ?_
  dsimp only
  split
  · exact hinput
  · exact hopen
  · exact hopen.trans (faultNow_packs g _)
  · exact hopen.trans (faultNow_packs g _)

/-! ## The load (R176 to R178) -/

section
variable {s : State}

/-- R169: a mark of a page other than the deferred one is no part of the queue. -/
theorem Store.Packed.modPage {t : Store} (h : t.Packed) (p : PageIx) (f : PageMarks → PageMarks)
    (hf : ∀ m, (f m).deferred = m.deferred) : (t.modPage p f).Packed :=
  h.congr rfl (fun q => deferred_modPage t p q hf) id id

/-- R173, R176: what the load reads of a page, the queue being empty, is no part of the queue. -/
theorem loadRoster_packs (k : Fin 4) (f : Nat → Slot) (s : State) : Packs s (loadRoster k f s) := by
  unfold loadRoster
  exact .foldl (f := fun (t : State) (x : SlotIx × Nat) => t.setSlot x.1 (f x.2)) (fun _ _ => .ofStore rfl) _ s

theorem takePage_packs (p : PageIx) (body : List Byte) (s : State) : Packs s (takePage p body s) := by
  unfold takePage
  split
  · have hwatch : Packs s (if hasFormatMark body then { s with watch := watchOf body } else s) :=
      .ite (.ofStore rfl) (.refl s)
    exact hwatch.trans (modStore_packs rfl (fun _ => rfl) id id)
  · exact loadRoster_packs _ _ s
  · exact modSlot_packs _ _ s
  · exact modSlot_packs _ _ s
  · exact modSlot_packs _ _ s
  · exact modSlot_packs _ _ s
  · exact .refl s

theorem failPage_packs (p : PageIx) (s : State) : Packs s (failPage p s) := by
  unfold failPage
  split
  · exact modStore_packs (s := { s with watch := WatchTable.default }) rfl (fun _ => rfl) id id
  · exact loadRoster_packs _ _ s
  · exact modSlot_packs _ _ s
  · exact modSlot_packs _ _ s
  · exact modSlot_packs _ _ s
  · exact modSlot_packs _ _ s
  · exact .refl s

/-- R173, R176: a store that loads holds no entry, no write and no deferred page. -/
theorem Store.Tidy.empty_of_loading {t : Store} (h : t.Tidy) (hload : t.state = .loading) :
    t.waiting = [] ∧ t.inFlight = none ∧ ∀ q, (t.page q).deferred = false :=
  h.rests.resolve_left (by simp [Store.writing, hload])

/-- R170, R177: a store just formatted has every page deferred and an empty queue. -/
theorem formattedReady_tidy (h : s.store.Tidy) (hload : s.store.state = .loading) : s.formattedReady.store.Tidy := by
  obtain ⟨hwaiting, -, -⟩ := h.empty_of_loading hload
  have hnil : s.formattedReady.store.waiting = [] := hwaiting
  exact ⟨by simp [hnil], by simp [hnil], by simp [hnil], .inl rfl⟩

/-- R178: at the end of a load that formats nothing. -/
theorem endLoad_packs (hheld : mustFormat s.store = false) : Packs s (endLoad s) := by
  have hfailures : Packs s (enterLoadFailures s) := by
    unfold enterLoadFailures
    exact .foldl (fun t p => eventFault_packs 0 (keyPageFailed p) t) _ s
  have hready : Packs (enterLoadFailures s) ((enterLoadFailures s).modStore fun x => { x with state := .ready }) :=
    modStore_packs rfl (fun _ => rfl) (fun _ => rfl) id
  rw [endLoad_eq, loaded, hheld]
  exact hfailures.trans (hready.trans ((Packs.forSlots (fun i v =>
    (settleOutcome_packs i v).trans (offerOutcome_packs i _)) _ _).trans
      ((enterStarting_packs .a _).trans (enterStarting_packs .b _))))

theorem endLoad_tidy (h : s.store.Packed) (hload : s.store.state = .loading) : (endLoad s).store.Tidy := by
  cases hformat : mustFormat s.store with
  | true =>
    obtain ⟨hstore, -, -⟩ := bothStarting_facts s.formattedReady
    rw [endLoad_formats hformat, hstore]
    exact formattedReady_tidy h.toTidy hload
  | false => exact (endLoad_packs hformat h).toTidy

theorem advanceLoad_tidy (h : s.store.Packed) (hload : s.store.state = .loading) : (advanceLoad s).store.Tidy := by
  cases hnext : nextPage s with
  | some p =>
    have hpacked : Packs s (advanceLoad s) := by
      rw [advanceLoad_some hnext]
      exact fun h => h.congr rfl (fun _ => rfl) id id
    exact (hpacked h).toTidy
  | none =>
    rw [advanceLoad_none hnext]
    exact endLoad_tidy h hload

/-- R176: the marks and the record of the load are no part of the queue. -/
theorem modLoad_packs (f : Store → LoadRecord) (s : State) : Packs s (s.modStore fun t => { t with load := f t }) :=
  modStore_packs rfl (fun _ => rfl) id id

theorem readFails_tidy (h : s.store.Packed) (hload : s.store.state = .loading) : (readFails s).store.Tidy := by
  unfold readFails
  split
  · exact (modLoad_packs _ s h).toTidy
  · have hfailed := failPage_packs s.store.load.page s h
    exact advanceLoad_tidy ((hfailed.modPage _ (fun m => { m with generation := 0 }) fun _ => rfl).congr rfl
      (fun _ => rfl) id id)
      ((failPage_loads _ s).loading.mpr hload)

theorem readCompletes_tidy (bytes : List Byte) (h : s.store.Packed) (hload : s.store.state = .loading) :
    (readCompletes bytes s).store.Tidy := by
  unfold readCompletes
  dsimp only
  split
  · have htaken := takePage_packs s.store.load.page ((bytes.drop 4).take 250) s h
    exact advanceLoad_tidy (htaken.modPage _ (fun m => { m with generation := BitVec.ofNat 16 (halfAt bytes 2) })
      fun _ => rfl)
      ((takePage_loads _ _ s).loading.mpr hload)
  · exact readFails_tidy h hload

theorem storePageRead_tidy (bytes : List Byte) (h : s.store.Packed) : (storePageRead bytes s).store.Tidy := by
  unfold storePageRead
  split
  · next hload => exact readCompletes_tidy bytes h hload
  · exact h.toTidy

theorem pageReadTimeout_tidy (h : s.store.Packed) : (pageReadTimeout s).store.Tidy := by
  unfold pageReadTimeout
  split
  · next hload => exact readFails_tidy h hload
  · exact h.toTidy

/-! ## The end of a write (R170 to R173) -/

theorem verifyWrite_packs (w : WriteInFlight) (s : State) : Packs s (verifyWrite w s) := by
  have hverified : Packs s (s.modStore fun u =>
      { u.modPage w.page (fun m => { m with bad := false }) with
        inFlight := none, nodeMismatch := u.nodeMismatch && w.page != 0 }) := fun h =>
    (h.modPage w.page (fun m => { m with bad := false }) fun _ => rfl).congr rfl (fun _ => rfl) id fun _ => rfl
  exact (Packs.ite (hverified.trans (endCondition_packs 0 _ _)) hverified).trans (settleGroups_packs _)

/-- R171: a failed write changes a mark that is not the deferred one, the groups and the write in flight. -/
theorem writeFailed_packs (w : WriteInFlight) (s : State) : Packs s (writeFailed w s) := fun h => by
  rw [writeFailed_store]
  exact (h.modPage w.page (fun m => { m with bad := true }) fun _ => rfl).congr rfl (fun _ => rfl) id fun _ => rfl

/-- R173: a stopped store holds nothing. -/
theorem failWrite_packed {w : WriteInFlight} (h : s.store.Packed) (hi : s.store.inFlight = some w) :
    (failWrite w s).store.Packed := by
  have hwrites : s.store.writing = true := h.rests.resolve_right fun ⟨_, hnone, _⟩ =>
    Option.some_ne_none w (hi.symm.trans hnone)
  cases hs : s.store.state with
  | loading => simp [Store.writing, hs] at hwrites
  | stopped => simp [Store.writing, hs] at hwrites
  | ready =>
    have hdegraded : Packs (writeFailed w s) ((writeFailed w s).modStore fun u => { u with state := .degraded }) :=
      modStore_packs rfl (fun _ => rfl) (fun _ => rfl) id
    rw [failWrite_ready hs]
    exact ((writeFailed_packs w s).trans (hdegraded.trans (settleGroups_packs _))) h
  | degraded =>
    obtain ⟨_, _, _, _, hrest⟩ := failWrite_degraded_rest (w := w) hs
    rw [hrest]
    exact packed_of_empty rfl rfl fun q => by rw [page_stop]

theorem attemptEnds_packs (readback : Option (List Byte)) (s : State) : Packs s (attemptEnds readback s) := by
  intro h
  unfold attemptEnds
  split
  · exact h
  · next w hi =>
    unfold endAttempt
    split
    · exact verifyWrite_packs w s h
    · split
      · exact h.congr rfl (fun _ => rfl) id fun hnone => absurd (hi.symm.trans hnone) (Option.some_ne_none w)
      · exact failWrite_packed h hi

end

end Sys2Proof.Machine

namespace Sys2Proof.Machine

/-! ## The requests of the masters keep the queue packed -/

theorem refuseRequest_packs (p : PortId) (status : Status) (s : State) : Packs s (refuseRequest p status s) :=
  answer_packs p status [] s

/-- R14, R130: the exchange in flight is abandoned and the delivery in flight suspended. -/
theorem abandonExchange_packs (g : SegId) (s : State) : Packs s (abandonExchange g s) := by
  unfold abandonExchange
  split
  · exact .refl s
  · refine (modSeg_packs g (fun y => { y with exchange := none, driverOn := false }) s).trans ?_
    unfold askerAbandons
    split
    · exact modSlot_packs _ _ _
    · exact modSlot_packs _ _ _
    · exact suspendDelivery_packs g _
    · exact .ite (suspendDelivery_packs g _) (.refl _)
    · exact .refl _
    · exact .refl _
    · exact .refl _

/-! ### Restart Hub (R179) -/

theorem restartDropped_packs (p : PortId) (s : State) : Packs s (restartDropped p s) :=
  fun h => h.congr rfl (fun _ => rfl) id id

theorem restartSegment_packs (g : SegId) (s : State) : Packs s (restartSegment g s) :=
  (modSeg_packs g _ s).trans ((abandonExchange_packs g _).trans (suspendDelivery_packs g _))

theorem restartTable_packs (i : SlotIx) (s : State) : Packs s (restartTable i s) :=
  (absentByRequest_packs i s).trans (modSlot_packs i _ _)

theorem restartLine_packs (g : SegId) (s : State) : Packs s (restartLine g s) :=
  (garbleReset_packs g s).trans (modSeg_packs g _ _)

theorem serveRestartHub_packs (p : PortId) (s : State) : Packs s (serveRestartHub p s) := by
  rw [serveRestartHub_eq]
  have hsegments := (restartDropped_packs p s).trans ((restartSegment_packs .a _).trans (restartSegment_packs .b _))
  have htables := hsegments.trans (Packs.forSlots restartTable_packs
    (restartSegment .b (restartSegment .a (restartDropped p s))).listedSlots _)
  have hlines := htables.trans ((restartLine_packs .a _).trans (restartLine_packs .b _))
  exact (hlines.trans ((enterStarting_packs .a _).trans (enterStarting_packs .b _))).trans (answer_packs p _ _ _)

/-! ### The Table Roster and the Regulation Unit (R40 to R43, R140) -/

theorem listSlot_packs (i : SlotIx) (e : RosterArg) (s : State) : Packs s (listSlot i e s) :=
  (modSlot_packs i _ s).trans (enqueuePages_packs _ _)

theorem editSlot_packs (i : SlotIx) (e : RosterArg) (s : State) : Packs s (editSlot i e s) := by
  have hentry := modSlot_packs i (fun y => y.withEntry e) s
  have hmoved : Packs s (if (s.slot i).seg = e.seg ∧ (s.slot i).addr = e.addr.toNat then
      s.modSlot i fun y => y.withEntry e else
      (absentByRequest i (s.modSlot i fun y => y.withEntry e)).modSlot i fun y =>
        { y with game := none, due := DueRecord.listed }) :=
    .ite hentry (hentry.trans ((absentByRequest_packs i _).trans (modSlot_packs i _ _)))
  exact (hmoved.trans (.ite (.refl _) (dropOutcome_resetWindow_packs i _))).trans (enqueuePage_packs _ _)

theorem serveWriteRosterEntry_packs (p : PortId) (slot : Byte) (e : RosterArg) (s : State) :
    Packs s (serveWriteRosterEntry p slot e s) := by
  unfold serveWriteRosterEntry
  split
  · exact refuseRequest_packs p _ s
  · next i _ =>
    exact .ite (refuseRequest_packs p _ s) (.ite (refuseRequest_packs p _ s)
      ((Packs.ite (editSlot_packs i e s) (listSlot_packs i e s)).trans (answer_packs p _ _ _)))

theorem removeSlot_packs (i : SlotIx) (s : State) : Packs s (removeSlot i s) := by
  unfold removeSlot
  exact (endPolling_packs i false s).trans ((queue_packs _ _).trans ((clearReservations_packs i _).trans
    ((modSlot_packs i _ _).trans (enqueuePages_packs _ _))))

theorem serveRemoveTable_packs (p : PortId) (slot : Byte) (s : State) : Packs s (serveRemoveTable p slot s) := by
  unfold serveRemoveTable
  split
  · exact refuseRequest_packs p _ s
  · next i _ =>
    exact .ite (refuseRequest_packs p _ s) (.ite (refuseRequest_packs p _ s)
      ((removeSlot_packs i s).trans (answer_packs p _ _ _)))

theorem serveReadRoster_packs (p : PortId) (slot : Byte) (s : State) : Packs s (serveReadRoster p slot s) := by
  unfold serveReadRoster
  refine .ite (answer_packs p _ _ s) ?_
  split
  · exact refuseRequest_packs p _ s
  · exact answer_packs p _ _ s

theorem serveSetRegulation_packs (p : PortId) (slot : Byte) (a : RegulationArg) (s : State) :
    Packs s (serveSetRegulation p slot a s) := by
  unfold serveSetRegulation
  split
  · exact refuseRequest_packs p _ s
  · next i _ =>
    exact .ite (refuseRequest_packs p _ s) ((modSlot_enqueuePage_packs _ i _ s).trans
      ((settleOutcome_packs i _).trans (answer_packs p _ _ _)))

/-! ### The segments (R15 to R17) -/

theorem serveSetLineParameters_packs (p : PortId) (g : SegId) (a : LineParamsArg) (s : State) :
    Packs s (serveSetLineParameters p g a s) := by
  have hwritten := modSeg_packs g (fun y => { y with params := ((s.seg g).params.write a).1 }) s
  exact .ite (refuseRequest_packs p _ s) (.ite (refuseRequest_packs p _ s)
    ((Packs.ite (hwritten.trans (garbleReset_packs g _)) hwritten).trans (answer_packs p _ _ _)))

theorem serveHaltSegment_packs (p : PortId) (g : SegId) (s : State) : Packs s (serveHaltSegment p g s) := by
  have hhalt : Packs s (answer p .done [] (haltNow g s)) := (haltNow_packs g s).trans (answer_packs p _ _ _)
  unfold serveHaltSegment
  split
  · exact answer_packs p _ _ s
  · exact hhalt
  · exact hhalt
  · exact .ite hhalt (modSeg_packs g _ s)

theorem resumeNow_packs (g : SegId) (s : State) : Packs s (resumeNow g s) :=
  (garbleReset_packs g s).trans ((Packs.forSlots absentByRequest_packs _ _).trans
    ((modSeg_packs g _ _).trans (enterStarting_packs g _)))

theorem serveResumeSegment_packs (p : PortId) (g : SegId) (s : State) : Packs s (serveResumeSegment p g s) := by
  have hresumed : Packs s (answer p .done [] (resumeNow g s)) := (resumeNow_packs g s).trans (answer_packs p _ _ _)
  unfold serveResumeSegment
  split
  · exact hresumed
  · exact hresumed
  · exact refuseRequest_packs p _ s
  · exact refuseRequest_packs p _ s

/-! ### Audits and closes (R79, R84, R91) -/

theorem serveReadAudits_packs (p : PortId) (slot : Byte) (view : AuditView) (s : State) :
    Packs s (serveReadAudits p slot view s) := by
  unfold serveReadAudits
  split
  · exact refuseRequest_packs p _ s
  · exact .ite (refuseRequest_packs p _ s) (answer_packs p _ _ s)

theorem serveClosePeriod_packs (p : PortId) (slot : Byte) (s : State) : Packs s (serveClosePeriod p slot s) := by
  unfold serveClosePeriod
  refine .ite ((closeAll_packs p s).trans (chooseBoth_packs _)) ?_
  split
  · exact refuseRequest_packs p _ s
  · next i _ =>
    exact .ite (refuseRequest_packs p _ s) (.ite (refuseRequest_packs p _ s)
      ((startClose_packs i p false s).trans (choose_packs _ _)))

/-! ### Settings and deliveries (R104 to R109, R133) -/

theorem serveReadSettings_packs (p : PortId) (slot : Byte) (s : State) : Packs s (serveReadSettings p slot s) := by
  unfold serveReadSettings
  split
  · exact refuseRequest_packs p _ s
  · exact .ite (refuseRequest_packs p _ s) (answer_packs p _ _ s)

theorem serveReadDraft_packs (p : PortId) (slot : Byte) (reserve : Bool) (s : State) :
    Packs s (serveReadDraft p slot reserve s) := by
  unfold serveReadDraft
  split
  · exact refuseRequest_packs p _ s
  · exact .ite (refuseRequest_packs p _ s) ((Packs.ite (modPort_packs p _ s) (.refl s)).trans (answer_packs p _ _ _))

theorem setItems_packs (p : PortId) (i : SlotIx) (r : Identity) (pairs : List (Byte × Half)) (s : State) :
    Packs s (setItems p i r pairs s) := by
  have hdraft := modSlot_packs i (fun y => { y with
    draft := { pairs.foldl (fun d e => d.setItem r e) (s.slot i).draft with state := .edited }
    confirmed := false }) s
  exact ((hdraft.trans (.ite (modPort_packs (otherPort p) _ _) (.refl _))).trans
    (.ite (dropOutcome_resetWindow_packs i _) (.refl _))).trans (answer_packs p _ _ _)

theorem serveSetItems_packs (p : PortId) (slot : Byte) (pairs : List (Byte × Half)) (s : State) :
    Packs s (serveSetItems p slot pairs s) := by
  unfold serveSetItems
  split
  · exact refuseRequest_packs p _ s
  · exact refuseRequest_packs p _ s
  · split
    · exact refuseRequest_packs p _ s
    · exact setItems_packs p _ _ pairs s

theorem cleanDraft_packs (i : SlotIx) (s : State) :
    Packs s (offerOutcome i (clearReservations i (s.modSlot i Slot.withCleanDraft))) :=
  (modSlot_packs i _ s).trans ((clearReservations_packs i _).trans (offerOutcome_packs i _))

theorem submitDraft_packs (p : PortId) (i : SlotIx) (priority : Byte) (s : State) :
    Packs s (submitDraft p i priority s) := by
  have hqueued : Packs s (joinQueue i priority.toNat (originOf p) (setDraftState i .queued s)) :=
    (modSlot_packs i _ s).trans (queue_packs _ _)
  exact .ite (((cleanDraft_packs i s).trans (answer_packs p _ _ _)).trans (choose_packs _ _))
    ((hqueued.trans ((modSlot_packs i _ _).trans ((clearReservations_packs i _).trans (answer_packs p _ _ _)))).trans
      (choose_packs _ _))

theorem serveSubmitDraft_packs (p : PortId) (slot priority : Byte) (s : State) :
    Packs s (serveSubmitDraft p slot priority s) := by
  unfold serveSubmitDraft
  split
  · exact refuseRequest_packs p _ s
  · split
    · exact refuseRequest_packs p _ s
    · exact submitDraft_packs p _ priority s

theorem discardDraft_packs (p : PortId) (i : SlotIx) (s : State) : Packs s (discardDraft p i s) :=
  ((cleanDraft_packs i s).trans (answer_packs p _ _ _)).trans (choose_packs _ _)

theorem serveDiscardDraft_packs (p : PortId) (slot : Byte) (s : State) : Packs s (serveDiscardDraft p slot s) := by
  unfold serveDiscardDraft
  split
  · exact refuseRequest_packs p _ s
  · next i _ =>
    refine .ite (refuseRequest_packs p _ s) ?_
    split
    · exact refuseRequest_packs p _ s
    · exact refuseRequest_packs p _ s
    · exact discardDraft_packs p i s
    · exact discardDraft_packs p i s

theorem serveWithdrawDelivery_packs (p : PortId) (slot : Byte) (s : State) :
    Packs s (serveWithdrawDelivery p slot s) := by
  unfold serveWithdrawDelivery
  split
  · exact refuseRequest_packs p _ s
  · next i _ =>
    refine .ite (refuseRequest_packs p _ s) ?_
    split
    · exact withdrawEntry_packs i (some p) s
    · exact .ite (refuseRequest_packs p _ s) (queue_packs _ s)
    · exact .ite (answer_packs p _ _ s) (refuseRequest_packs p _ s)
    · exact refuseRequest_packs p _ s

/-! ### Faults, alerts and the store (R158 to R165, R174) -/

theorem serveReadFaults_packs (p : PortId) (roster : Byte) (s : State) : Packs s (serveReadFaults p roster s) := by
  unfold serveReadFaults
  split
  · exact refuseRequest_packs p _ s
  · exact .ite (answer_packs p _ _ s) (refuseRequest_packs p _ s)

theorem serveAcknowledgeFaults_packs (p : PortId) (roster : Byte) (key : Option FaultKey) (s : State) :
    Packs s (serveAcknowledgeFaults p roster key s) := by
  unfold serveAcknowledgeFaults
  split
  · exact refuseRequest_packs p _ s
  · exact .ite ((putRoster_packs _ _ s).trans (answer_packs p _ _ _)) (refuseRequest_packs p _ s)

theorem serveSetWatchRules_packs (p : PortId) (a : WatchArg) (s : State) : Packs s (serveSetWatchRules p a s) := by
  have hwatch : Packs s { s with watch := s.watch.write a } := .ofStore rfl
  exact .ite (hwatch.trans ((enqueuePage_packs 0 _).trans (answer_packs p _ _ _))) (refuseRequest_packs p _ s)

theorem serveTakeAlerts_packs (p : PortId) (count : Byte) (s : State) : Packs s (serveTakeAlerts p count s) := by
  have htaken : Packs s { s with alerts := s.alerts.drop count.toNat, overrun := false } := .ofStore rfl
  exact .ite (htaken.trans (answer_packs p _ _ _)) (refuseRequest_packs p _ s)

/-- R174: a Degraded store and a Ready one make writes alike. -/
theorem serveAcknowledgeStoreFault_packs (p : PortId) (s : State) : Packs s (serveAcknowledgeStoreFault p s) := by
  have hready : Packs s (s.modStore fun t => { t with state := .ready }) :=
    modStore_packs rfl (fun _ => rfl) (fun _ => rfl) id
  unfold serveAcknowledgeStoreFault
  split
  · exact answer_packs p _ _ s
  · exact hready.trans (answer_packs p _ _ _)
  · exact refuseRequest_packs p _ s
  · exact refuseRequest_packs p _ s

theorem serve_packs (p : PortId) (r : Request) (s : State) : Packs s (serve p r s) := by
  cases r with
  | readStatus => exact answer_packs p _ _ s
  | setClock v => exact (Packs.ofStore (t := { s with clock := v, clockUnset := false }) rfl).trans (answer_packs p _ _ _)
  | restartHub => exact serveRestartHub_packs p s
  | readRoster slot => exact serveReadRoster_packs p slot s
  | writeRosterEntry slot e => exact serveWriteRosterEntry_packs p slot e s
  | removeTable slot => exact serveRemoveTable_packs p slot s
  | setRegulation slot a => exact serveSetRegulation_packs p slot a s
  | setLineParameters g a => exact serveSetLineParameters_packs p g a s
  | haltSegment g => exact serveHaltSegment_packs p g s
  | resumeSegment g => exact serveResumeSegment_packs p g s
  | readAudits slot view => exact serveReadAudits_packs p slot view s
  | closePeriod slot => exact serveClosePeriod_packs p slot s
  | readSettings slot => exact serveReadSettings_packs p slot s
  | readDraft slot reserve => exact serveReadDraft_packs p slot reserve s
  | setItems slot pairs => exact serveSetItems_packs p slot pairs s
  | submitDraft slot priority => exact serveSubmitDraft_packs p slot priority s
  | discardDraft slot => exact serveDiscardDraft_packs p slot s
  | withdrawDelivery slot => exact serveWithdrawDelivery_packs p slot s
  | readFaults roster => exact serveReadFaults_packs p roster s
  | acknowledgeFaults roster key => exact serveAcknowledgeFaults_packs p roster key s
  | setWatchRules a => exact serveSetWatchRules_packs p a s
  | takeAlerts count => exact serveTakeAlerts_packs p count s
  | acknowledgeStoreFault => exact serveAcknowledgeStoreFault_packs p s

/-! ## The ports keep the queue packed (R181 to R185) -/

theorem refuseFrame_packs (p : PortId) (kind : Byte) (status : Status) (s : State) :
    Packs s (refuseFrame p kind status s) :=
  modPort_packs p _ s

theorem holdRequest_packs (p : PortId) (kind : Byte) (s : State) : Packs s (holdRequest p kind s) :=
  modPort_packs p _ s

theorem setReceiver_packs (p : PortId) (r : Receiver) (s : State) : Packs s (setReceiver p r s) := modPort_packs p _ s

theorem takeRequest_packs (p : PortId) (r : Request) (s : State) : Packs s (takeRequest p r s) := by
  unfold takeRequest
  refine .ite (.refl s) ?_
  split
  · exact refuseFrame_packs p _ _ s
  · exact (holdRequest_packs p _ s).trans (serve_packs p r _)

theorem takeFrame_packs (p : PortId) (frame : List Byte) (s : State) : Packs s (takeFrame p frame s) := by
  unfold takeFrame
  refine .ite (refuseFrame_packs p _ _ s) ?_
  split
  · exact refuseFrame_packs p _ _ s
  · refine .ite (refuseFrame_packs p _ _ s) ?_
    dsimp only
    split
    · exact (holdRequest_packs p _ s).trans (refuseRequest_packs p _ _)
    · exact (holdRequest_packs p _ s).trans (serve_packs p _ _)

theorem storeByte_packs (p : PortId) (buffer : List Byte) (s : State) : Packs s (storeByte p buffer s) :=
  .ite (setReceiver_packs p _ s) (.ite ((setReceiver_packs p _ s).trans (takeFrame_packs p buffer _))
    (setReceiver_packs p _ s))

theorem portByte_packs (p : PortId) (b : Byte) (framingError : Bool) (s : State) :
    Packs s (portByte p b framingError s) := by
  unfold portByte
  refine .ite (.refl s) (.ite (setReceiver_packs p _ s) ?_)
  split
  · exact .ite (setReceiver_packs p _ s) (.refl s)
  · exact storeByte_packs p _ s

theorem requestFrame_packs (p : PortId) (frame : List Byte) (s : State) : Packs s (requestFrame p frame s) :=
  .ite (.refl s) (.ite ((setReceiver_packs p _ s).trans (takeFrame_packs p frame _)) (setReceiver_packs p _ s))

theorem unplugCollector_packs (s : State) : Packs s (unplugCollector s) := .ite (.ofStore rfl) (.refl s)

/-! ## Every step -/

theorem powerOn_packed (node : BitVec 6) (speed : BitVec 2) (s : State) : (powerOn node speed s).store.Packed :=
  packed_of_empty rfl rfl fun q => by simp [powerOn, State.powerOn, Store.powerOn, Store.page, PageMarks.clear]

/-- R173: what a command does leaves the queue tidy; all but the end of a load that formats leave it packed. -/
theorem effect_tidy {s : State} (h : s.store.Packed) (c : Instr) : (effect c s).store.Tidy := by
  have htidy {t : State} (k : Packs s t) : t.store.Tidy := (k h).toTidy
  cases c with
  | powerOn node speed => exact (powerOn_packed node speed s).toTidy
  | storePageRead bytes => exact storePageRead_tidy bytes h
  | pageReadTimeout => exact pageReadTimeout_tidy h
  | clockTick =>
    have htick : Packs s { s with clock := s.clock + 1, slots := s.slots.map Slot.tick } := .ofStore rfl
    exact htidy (htick.trans (chooseBoth_packs _))
  | dueTimerRun i t => exact htidy (.ite ((modSlot_packs i _ s).trans (choose_packs _ _)) (.refl s))
  | transmitFrame g => exact htidy (transmitFrame_packs g s)
  | guardEnd g => exact htidy (guardEnd_packs g s)
  | collision g cause => exact htidy (collision_packs g cause s)
  | answerWindowExpiry g => exact htidy (.ite (endExchange_packs g _ s) (.refl s))
  | answerComplete g gs status rest => exact htidy (answerComplete_packs g gs status rest s)
  | completionDeadline g => exact htidy (.ite (modExchange_packs g _ s) (.refl s))
  | quietWaitEnd g => exact htidy (.ite (endExchange_packs g _ s) (.refl s))
  | hardLimit g => exact htidy (.ite (endExchange_packs g _ s) (.refl s))
  | strayCharacter g c => exact htidy (.ite (garbleRise_packs g s) (.refl s))
  | lineFaultAsserted g kind => exact htidy (lineFaultAsserted_packs g kind s)
  | lineFaultDeasserted g kind =>
    exact htidy (.ite ((modSeg_packs g _ s).trans (endCondition_packs 0 _ _)) (.refl s))
  | driverStuck g => exact htidy (.ite ((openCondition_packs 0 _ s).trans (faultNow_packs g _)) (.refl s))
  | startIdleElapsed g =>
    exact htidy (.ite ((modSeg_packs g _ s).trans ((endCondition_packs 0 _ _).trans (choose_packs g _))) (.refl s))
  | closingTimeout i => exact htidy (endPolling_packs i false s)
  | storeWriteVerify readback => exact htidy (attemptEnds_packs _ s)
  | storeTransferTimeout => exact htidy (attemptEnds_packs _ s)
  | requestFrame p frame => exact htidy (requestFrame_packs p frame s)
  | frameByteTimeout p => exact htidy (setReceiver_packs p _ s)
  | answerSent p => exact htidy (.ite (modPort_packs p _ s) (.refl s))
  | collectorUnplugged => exact htidy (unplugCollector_packs s)
  | collectorPlugged => exact htidy (.ite (.refl s) (modPort_packs .collector _ s))
  | answerCharacterTaken g c => exact htidy (takeAnswerCharacter_packs g c s)
  | portByteReceived p b e => exact htidy (portByte_packs p b e s)
  | _ => exact htidy (takeRequest_packs _ _ s)

/-- Settles O5: every operation keeps the queue packed (`Packs`) or, at a format, tidy, and from a tidy queue the work
of the Store Controller at the end of the step leaves nothing to issue or seat (`pumpStore_sound`). -/
theorem storeSoundKept : Obligations.StoreSoundKept := by
  unfold Obligations.StoreSoundKept
  intro s t hs ht
  rcases step_cases ht with rfl | ⟨c, rest, rfl⟩
  · exact hs
  · obtain ⟨hpacked, -⟩ := (sound_iff_packed s.store).mp hs
    exact pumpStore_sound (effect_tidy (s := s.withPending rest) hpacked c)

end Sys2Proof.Machine

namespace Sys2Proof.Machine

/-! ## The check of a page (R168) -/

section
variable {p q : PageIx} {generation : Half} {body : List Byte}

theorem length_pageBytes (hbody : body.length = 250) : (pageBytes p generation body).length = 256 := by
  rw [pageBytes_eq, List.length_append, length_pageFront hbody, length_be2]

/-- R168: the first two bytes of a page are its number. -/
theorem number_pageBytes : halfAt (pageBytes p generation body) 0 = p.val := by
  obtain ⟨hnumber, -, -, -⟩ := liesAt_pageBytes (p := p) (generation := generation) (body := body)
  exact halfAt_of_liesAt hnumber (by omega)

theorem half_generation_pageBytes : halfAt (pageBytes p generation body) 2 = generation.toNat := by
  obtain ⟨-, hgeneration, -, -⟩ := liesAt_pageBytes (p := p) (generation := generation) (body := body)
  exact halfAt_of_liesAt hgeneration (Nat.le_of_lt_succ generation.isLt)

/-- R168: bytes pass the check of the page whose number they begin with. -/
theorem number_of_passesCheck {l : List Byte} (h : passesCheck q l = true) : halfAt l 0 = q.val := by
  simp only [passesCheck, Bool.and_eq_true, beq_iff_eq] at h
  obtain ⟨-, hnumber⟩ := h
  exact hnumber

theorem passesCheck_pageBytes_iff (hbody : body.length = 250) :
    passesCheck q (pageBytes p generation body) = true ↔ q = p := by
  constructor
  · intro h
    exact Fin.ext ((number_of_passesCheck h).symm.trans number_pageBytes)
  · rintro rfl
    exact passesCheck_pageBytes hbody

end

/-- Settles O48: the page number stands in the bytes that the check covers, so they pass for no other page. -/
theorem pagesPassTheirCheck : Obligations.PagesPassTheirCheck := by
  unfold Obligations.PagesPassTheirCheck
  intro p q generation body hbody
  exact ⟨length_pageBytes hbody, passesCheck_pageBytes_iff hbody, body_pageBytes hbody, half_generation_pageBytes⟩

/-! ## Reset (R175) -/

/-- R175: reset is a power-on with the strap pins at 0 and no line-fault input asserted. -/
theorem powerOn_reset : powerOn 0 0 State.reset = State.reset := rfl

theorem reset_coherent : State.reset.coherent = true :=
  (coherent_iff _).mpr (powerOn_reset ▸ powerOn_coherent 0 0 State.reset)

theorem reset_sound : State.reset.store.sound = true :=
  (sound_iff_packed _).mpr ⟨powerOn_reset ▸ powerOn_packed 0 0 State.reset, .inr rfl⟩

theorem reset_fits : State.reset.capacitiesKept = true := by
  refine (fits_iff _).mpr ⟨Nat.zero_le _, fun j => ?_, by decide⟩
  rw [State.reset, slot_powerOn]
  exact Nat.zero_le _

theorem default_inRange (speed : BitVec 2) : (LineParams.default speed).inRange := by
  simp [LineParams.default, LineParams.inRange]

/-- Settles O8: power-on leaves both segments Halted, every slot Unlisted and every queue empty. -/
theorem invariantsHoldAtReset : Obligations.InvariantsHoldAtReset := by
  unfold Obligations.InvariantsHoldAtReset
  exact ⟨reset_coherent, reset_sound, reset_fits, rfl, default_inRange 0, default_inRange 0⟩

end Sys2Proof.Machine

namespace Sys2Proof.Machine

/-! ## Acknowledge Store Fault (R174) -/

section
variable {p : PortId} {s : State}

/-- R174: the store is Ready, its fault acknowledged. -/
def State.storeReady (s : State) : State := { s with store := { s.store with state := .ready } }

theorem storeReady_modPort (p : PortId) (f : Port → Port) (s : State) :
    (s.modPort p f).storeReady = s.storeReady.modPort p f := by
  cases p <;> rfl

theorem quiet_storeReady (hs : s.store.state = .degraded) (hq : s.store.quiet = true) :
    s.storeReady.store.quiet = true := by
  have hwrites : s.storeReady.store.writing = s.store.writing := by simp [State.storeReady, Store.writing, hs]
  rw [Store.quiet, hwrites]
  exact hq

theorem serveAcknowledgeStoreFault_ready (hs : s.store.state = .ready) :
    serveAcknowledgeStoreFault p s = answer p .done [] s := by
  simp only [serveAcknowledgeStoreFault, hs]

theorem serveAcknowledgeStoreFault_degraded (hs : s.store.state = .degraded) :
    serveAcknowledgeStoreFault p s = answer p .done [] s.storeReady := by
  simp only [serveAcknowledgeStoreFault, hs]
  rfl

theorem serveAcknowledgeStoreFault_stopped (hs : s.store.state = .stopped) :
    serveAcknowledgeStoreFault p s = refuseRequest p .storeStopped s := by
  simp only [serveAcknowledgeStoreFault, hs]

theorem holdRequest_store (p : PortId) (kind : Byte) (s : State) : (holdRequest p kind s).store = s.store :=
  modPort_store s p _

theorem exec_acknowledge_ready (htakes : s.takes p = true) (hq : s.store.quiet = true) (hs : s.store.state = .ready) :
    exec (.acknowledgeStoreFault p) s = .next (answered p 23 .done [] s) :=
  exec_answered (r := .acknowledgeStoreFault) htakes hq rfl
    (serveAcknowledgeStoreFault_ready (by rwa [holdRequest_store]))

theorem exec_acknowledge_stopped (htakes : s.takes p = true) (hq : s.store.quiet = true)
    (hs : s.store.state = .stopped) :
    exec (.acknowledgeStoreFault p) s = .next (answered p 23 .storeStopped [] s) :=
  exec_refused (r := .acknowledgeStoreFault) htakes hq
    (serveAcknowledgeStoreFault_stopped (by rwa [holdRequest_store]))

theorem exec_acknowledge_degraded (htakes : s.takes p = true) (hq : s.store.quiet = true)
    (hs : s.store.state = .degraded) :
    exec (.acknowledgeStoreFault p) s = .next (answered p 23 .done [] s.storeReady) := by
  refine exec_taken (r := .acknowledgeStoreFault) htakes rfl ?_ (by rw [answered_store]; exact quiet_storeReady hs hq)
  refine (serveAcknowledgeStoreFault_degraded (by rwa [modPort_store])).trans ?_
  rw [storeReady_modPort]
  exact answer_held ..

end

/-! ### The writes that follow (R170, R171) -/

section
variable {s : State} {w : WriteInFlight}

theorem settleGroups_page (s : State) (q : PageIx) : (settleGroups s).store.page q = s.store.page q := by
  obtain ⟨_, _, _, hrest⟩ := (settleGroups_reported s).rest
  rw [hrest]
  rfl

/-- R170, R174: a write that verifies clears the bad mark of its page, and no other. -/
theorem verifyWrite_page (w : WriteInFlight) (s : State) (q : PageIx) :
    (verifyWrite w s).store.page q = (s.store.modPage w.page fun m => { m with bad := false }).page q := by
  unfold verifyWrite
  rw [settleGroups_page]
  split <;> rfl

theorem exec_verifies (hi : s.store.inFlight = some w) :
    exec (.storeWriteVerify w.bytes) s = .next (pumpStore (verifyWrite w s)) := by
  rw [exec_eq]
  simp [effect, attemptEnds, hi, endAttempt]

theorem pumpStore_bad (s : State) (q : PageIx) : ((pumpStore s).store.page q).bad = (s.store.page q).bad := by
  obtain ⟨-, hbad, -⟩ := pumpStore_holds s
  exact hbad q

/-- R170, R174: a bad mark stays until a write of its page verifies. -/
theorem exec_verify_marks (hi : s.store.inFlight = some w) : ∃ u, exec (.storeWriteVerify w.bytes) s = .next u
    ∧ (u.store.page w.page).bad = false ∧ ∀ q, q ≠ w.page → (u.store.page q).bad = (s.store.page q).bad := by
  refine ⟨_, exec_verifies hi, ?_, fun q hq => ?_⟩
  · rw [pumpStore_bad, verifyWrite_page, page_modPage_same]
  · rw [pumpStore_bad, verifyWrite_page, page_modPage_other _ _ hq]

/-- R171, R173: a page failure of a Ready store makes it Degraded. -/
theorem exec_failure_degrades (hi : s.store.inFlight = some w) (ha : 2 ≤ w.attempt) (hs : s.store.state = .ready) :
    ∃ u, exec .storeTransferTimeout s = .next u ∧ u.store.state = .degraded := by
  obtain ⟨_, _, _, _, hrest⟩ := failWrite_ready_rest (w := w) hs
  exact ⟨_, exec_secondFails hi ha (.inl rfl), by rw [pumpStore_state, hrest]⟩

end

/-- Settles O50, by the store state; after the acknowledgement of a Degraded store only its state has changed. -/
theorem acknowledgeStoreFault : Obligations.AcknowledgeStoreFault := by
  unfold Obligations.AcknowledgeStoreFault
  intro p s htakes hq
  refine ⟨exec_acknowledge_ready htakes hq, exec_acknowledge_degraded htakes hq, exec_acknowledge_stopped htakes hq, ?_⟩
  intro t hs hexec
  rw [exec_acknowledge_degraded htakes hq hs] at hexec
  obtain rfl := Host.Outcome.next.inj hexec
  have hstore : (answered p 23 .done [] s.storeReady).store = { s.store with state := .ready } := answered_store ..
  refine ⟨modPort_hubFaults .., fun q => by rw [hstore]; rfl, ?_, fun w hi => ⟨fun ha => ?_, ?_⟩⟩
  · rw [attention_answered, attention_iff]
    simp [State.storeReady]
  · exact exec_failure_degrades (by rw [hstore]; exact hi) ha (by rw [hstore])
  · obtain ⟨u, hu, hverified, hother⟩ :=
      exec_verify_marks (s := answered p 23 .done [] s.storeReady) (by rw [hstore]; exact hi)
    exact ⟨u, hu, hverified, fun q hq => (hother q hq).trans (by rw [hstore]; rfl)⟩

end Sys2Proof.Machine
